-- ==== Sys2Proof/Word.lean ====
section
/-!
DEFINITION. The word types of the TN3072 model. The object dictionary holds every value as a plain number of its
type's width (spec R30), under a key that is its index × 256 + subindex (spec R29); bytes on the links and in DOMAIN sub-entries are `Byte`; a binary32 value is its 32 bits.
-/
namespace Sys2Proof

/-- One byte of a message, a link symbol or a DOMAIN sub-entry. -/
abbrev Byte := BitVec 8

/-- One IEEE 754 binary32 datum as its bit pattern (REAL32 of spec R30). -/
abbrev F32 := BitVec 32

end Sys2Proof
end

