-- ==== Sys2Proof/Syntax.lean ====
section
/-!
DEFINITION. The commands of the TN3072, one constructor for each row of the opcode table, and what they carry. The
block has no instruction memory: a command is a register access, a frame or an edge that arrives from outside, or the
moment at which one of the block's own timers or engines is due. Every command carries `dt`, the time since the
command before it in units of 100 ps (log 1).
-/
namespace Sys2Proof

/-- Cell-link ports P0–P23, arms ARM0–ARM5, cell slots (spec R9), time compares, converters, comparators, grid-angle
units, PWM channels. -/
abbrev Port := Fin 24
abbrev Arm := Fin 6
abbrev Slot := Fin 3072
abbrev Tc := Fin 16
abbrev Cv := Fin 18
abbrev Oc := Fin 12
abbrev Gau := Fin 2
abbrev Pw := Fin 6

/-- An IP address. -/
inductive IpAddr where
  | v4 (a : BitVec 32)
  | v6 (a : BitVec 128)
deriving DecidableEq, Repr

/-- The redundancy control trailer of a PRP frame: its sequence number and LAN identifier (spec R71). -/
structure Rct where
  seq : BitVec 16
  lan : BitVec 4
deriving DecidableEq, Repr

/-- What is known of a frame received on NET0 or NET1: its port, whether its FCS and symbols are good, its source and
its PRP trailer (spec R71, R72). -/
structure NetRx where
  net : Fin 2
  good : Bool
  srcMac : BitVec 48
  rct : Option Rct
deriving DecidableEq, Repr

/-- A UDP datagram received (spec R59). -/
structure Udp where
  rx : NetRx
  src : IpAddr
  srcPort : BitVec 16
  dst : IpAddr
  dstPort : BitVec 16
  payload : List Byte
deriving DecidableEq, Repr

/-- The requests of spec R73 that are answered besides IOP: ARP, neighbour discovery, ICMP and ICMPv6 echo. -/
inductive NetReq where
  | arp (target : BitVec 32)
  | neighbour (target : BitVec 128)
  | echo (src dst : IpAddr) (payload : List Byte)
deriving DecidableEq, Repr

/-- The parts of a PTP message the engine uses (spec R118): the port it came in on, its VLAN tag (VID, PCP), domain,
sender, sequence number, correction field in units of 2^-16 ns, logMessageInterval, and of a Pdelay_Resp the port identity
that it answers. -/
structure PtpHdr where
  net : Fin 2
  vlan : Option (BitVec 12 × BitVec 3)
  domain : Byte
  srcId : BitVec 64
  srcPort : BitVec 16
  seq : BitVec 16
  correction : Int
  logInterval : BitVec 8
  reqId : BitVec 64
  reqPort : BitVec 16
deriving DecidableEq, Repr

/-- A PTP timestamp: seconds and nanoseconds. -/
structure PtpTime where
  sec : BitVec 48
  ns : BitVec 32
deriving DecidableEq, Repr

/-- The data set of an Announce message (spec R118): what the data set comparison of IEEE 1588-2019 looks at. -/
structure PtpAnnounce where
  priority1 : Byte
  clockClass : Byte
  accuracy : Byte
  variance : BitVec 16
  priority2 : Byte
  gmId : BitVec 64
  stepsRemoved : BitVec 16
deriving DecidableEq, Repr

/-- An uplink burst as the LRX island gives it (spec R137, R179): free of code and disparity violations or not, the
bytes after the comma, and the arrival of its first preamble bit in units of 50 ps, against its nominal place for a
slot burst and against the start of its region plus 2 bit-times for an announce and a ranging burst. -/
structure Burst where
  codeOk : Bool
  bytes : List Byte
  arrival : Int
deriving DecidableEq, Repr

/-- The sub-entries whose write of 1 acknowledges event leaves (spec R43). -/
inductive LeafReg where
  | regStatus | station | timeBase | compare (tc : Tc) | port (p : Port) | linkCmd | meas | comparator (k : Oc)
  | gau (u : Gau) | armGlobal | arm (n : Arm) | stack | lane (n : Arm) | kiln | pwmGlobal | pwm (n : Pw) | damper
  | twin | acq | maint
deriving DecidableEq, Repr

/-- A HEARTBEAT frame of the twin link (spec R397): state, identity, fitness, image generation, arm bits, lease word,
FAILED with its reason, and the three stamps in the sender's TT. -/
structure Heartbeat where
  devState : Byte
  twinId : Fin 2
  fit : Bool
  generation : BitVec 32
  armBits : BitVec 6
  /-- 0 neither, 1 HOLD, 2 RELEASE. -/
  lease : Fin 3
  /-- none: NORMAL; some r: FAILED with reason r (0 FAILURE, 1 SWAP, 2 YIELD, 3 SAFE). -/
  failed : Option (Fin 4)
  launch : BitVec 64
  echoLaunch : BitVec 64
  echoArrival : BitVec 64
deriving DecidableEq, Repr

/-- A STATUS frame of the twin link: the values that 0x2C01 shows (spec R396, R417). -/
structure TwinStatus where
  devState : Byte
  fit : Bool
  reason : Byte
  generation : BitVec 32
  serial : BitVec 32
  twinId : Fin 2
  emberAge : BitVec 32
  proofAge : BitVec 32
  wearNow : F32
deriving DecidableEq, Repr

/-- The core paths whose stall a completion monitor reports (spec R370). -/
inductive CorePath where
  | arm (a : Arm) | lane (k : Fin 7) | kilnCore (c : Fin 18) | scheduler | fabric | link (p : Port) | acquisition | damper
deriving DecidableEq, Repr

/-- What an SRAM row that gives a read error holds (spec R370): control data, a block of the record in progress, other
acquisition, ash or trace data, or a retention slot. -/
inductive SramUse where
  | control | record (stream : Fin 16) (block : Nat) | capture | retention (slot : Fin 2)
deriving DecidableEq, Repr

/-- Where a memory read error lies: a row of the 20 MiB SRAM or a 4 KiB block of the 4 MiB MRAM (spec R383). -/
inductive MemAt where
  | sram (row : Fin 20480) (use : SramUse)
  | mram (block : Fin 1024)
deriving DecidableEq, Repr

/-- The speeds that an SGMII control word names. -/
inductive LinkSpeed where
  | mbps10 | mbps100 | mbps1000
deriving DecidableEq, Repr

/-- What a port's PCS tells of its link: none, or link with the speed and the duplex of the SGMII control word; with 1000BASE-X, of
which the speed is no part, the duplex that clause 37 resolved (spec R71, R465). -/
inductive LinkWord where
  | down | up (speed : LinkSpeed) (fullDuplex : Bool)
deriving DecidableEq, Repr

/-- A burst in the idle part of a port's frame, or its energy alone: `codeOk` is false where it was decoded with a code or disparity
violation (spec R163, R164). -/
structure IdleBurst where
  port : Port
  codeOk : Bool
deriving DecidableEq, Repr

/-- The commands. -/
inductive Instr where
  /-- PORESET_N held low for 1 µs puts the device into RESET; in RUNNING it first sends BLOCK to group 0 on every enabled port (spec R76). -/
  | poresetAssert (dt : Nat) (lowFor : Nat)
  /-- The rising edge of PORESET_N samples the straps (bits 3 to 0) and TEST_EN (bit 4) and starts KINDLING (spec R76). -/
  | poresetRelease (dt : Nat) (straps : BitVec 5)
  /-- VDD_CORE below 0.70 V for more than 1 µs forces RESET in every state except BANKED (spec R77). -/
  | vddCoreLow (dt : Nat) (belowFor : Nat)
  /-- VDD_CORE back above 0.72 V for 100 µs starts kindling again and records the reset cause (spec R77). -/
  | vddCoreRecovered (dt : Nat) (aboveFor : Nat)
  /-- PLL lock and SOSC start complete, which ends the clocks phase of kindling (spec R80). -/
  | clocksPhaseDone (dt : Nat)
  /-- The fuse read, its CRC check and the repair map complete; a CRC failure enters SAFE with F239 (spec R81). -/
  | fusePhaseDone (dt : Nat) (crcOk : Bool) (rows : Nat)
  /-- The SRAM march test with repair and the MRAM scan complete; an exhausted repair reserve enters SAFE with F255 (spec R81). -/
  | memoryPhaseDone (dt : Nat) (rows : Nat) (exhausted : Bool) (mramBad : Nat)
  /-- The logic, analogue and link self-tests complete; failures are logged, absorbed by spares, or take the device to SAFE (spec R82). -/
  | selfTestDone (dt : Nat) (fail : BitVec 12) (lanes : BitVec 7) (cores : BitVec 18)
  /-- Image selection, verification and record application complete, followed by one strobe of CG0–CG7, the LOCKS write and the entry into CONFIGURED (spec R89). -/
  | imagePhaseDone (dt : Nat) (qspi : List Byte)
  /-- 60,000 ms of network boot pass without an image, and the device falls back to the MRAM images (spec R87). -/
  | networkBootTimeout (dt : Nat)
  /-- The 1 ms or 2 ms ACT_IN watch window of CONFIGURED ends, and the device goes to LINKS_UP or BANKED (spec R100). -/
  | twinStartWindowEnd (dt : Nat)
  /-- DEV_CMD DEBLOCK is accepted in READY and takes effect at the next frame boundary if the READY conditions still hold (spec R99). -/
  | deblock (dt : Nat)
  /-- DEV_CMD BLOCK blocks every arm with BLOCK to group 0 and returns the device to READY, or cancels a waiting deblock (spec R97). -/
  | block (dt : Nat)
  /-- DEV_CMD SWAP starts a planned handover to a BANKED partner whose heartbeat paths are both good (spec R414). -/
  | swap (dt : Nat)
  /-- DEV_CMD RESET resets the device as PORESET_N does (spec R97). -/
  | reset (dt : Nat)
  /-- DEV_CMD RELOAD discards pending shadows, asserts TX_DIS and reruns the image phase while TT and the frame count continue (spec R89). -/
  | reload (dt : Nat)
  /-- At B(n) the device activates sinks, applies frame-boundary strobes, takes the RG0 snapshot, grants RG0 work and sends beacons (spec R16). -/
  | frameBoundary (dt : Nat)
  /-- A station input level that has held for IN_FILTER becomes its filtered level (spec R103). -/
  | stnInChange (dt : Nat) (pin : Fin 8) (level : Bool)
  /-- A write to CLOSE_ARM arms one close pulse on the angle compare of GAU0 or GAU1 (spec R105). -/
  | closeArm (dt : Nat) (v : Byte)
  /-- CLOSE_WIDTH elapses and the CLOSE_PULSE output is released (spec R105). -/
  | closePulseEnd (dt : Nat) (gau : Gau)
  /-- A write of 1 to a leaf ACK bit clears that event leaf, unless an event of the same kind arrives at the same instant (spec R43). -/
  | leafAck (dt : Nat) (leaf : LeafReg) (mask : BitVec 32) (again : BitVec 32)
  /-- A write to a sub-entry without its own row is judged and applied, or buffered, by its access type and commit column (spec R36). -/
  | registerWrite (dt : Nat) (idx : BitVec 16) (sub : Byte) (data : List Byte) (coincide : Bool)
  /-- A write into 0x2F00–0x2FFF is executed or refused according to the device state, with F225 in RUNNING and TAKEOVER (spec R39). -/
  | testSpaceWrite (dt : Nat) (idx : BitVec 16) (sub : Byte) (data : List Byte)
  /-- Setting a lock bit discards the pending buffered writes of its domain (spec R42). -/
  | lockSet (dt : Nat) (v : Byte)
  /-- A write to COMMIT_MAP reassigns a domain to a group, or returns BUSY with MAP_BUSY while a group is pending (spec R47). -/
  | commitMapWrite (dt : Nat) (dom : Fin 10) (v : Byte)
  /-- A read of 0x2004 or 0x1001 returns and clears the latched summary bits and can release IRQ_N (spec R55). -/
  | summaryRead (dt : Nat) (device : Bool)
  /-- A software write to STROBE applies the selected groups from apply index K (spec R50). -/
  | commitStrobe (dt : Nat) (mask : Byte)
  /-- A selected COMMIT_IN edge strobes the groups in SRC_PIN (spec R49). -/
  | commitInEdge (dt : Nat) (rising : Bool)
  /-- A write to TIME_ARM arms the commit time compare for one firing (spec R48). -/
  | commitTimeArm (dt : Nat) (v : Byte)
  /-- The commit time compare fires and strobes the groups in SRC_TIME, setting COMMIT_LATE if it fires late (spec R49). -/
  | commitTimeFire (dt : Nat)
  /-- An IOP READ request reads its items in order and is answered with their data and status (spec R63). -/
  | iopRead (dt : Nat) (u : Udp)
  /-- An IOP WRITE request executes its item writes in order and answers each with its status (spec R63). -/
  | iopWrite (dt : Nat) (u : Udp)
  /-- An IOP READ_BLOCK request reads a range of a DOMAIN sub-entry (spec R63). -/
  | iopReadBlock (dt : Nat) (u : Udp)
  /-- An IOP WRITE_BLOCK request writes a range of a DOMAIN sub-entry (spec R63). -/
  | iopWriteBlock (dt : Nat) (u : Udp)
  /-- An IOP COMMIT strobes the groups in its mask and returns the apply index K (spec R63). -/
  | iopCommit (dt : Nat) (u : Udp)
  /-- A kept request and its response expire after DUP_CACHE (spec R64). -/
  | dupCacheExpiry (dt : Nat)
  /-- A queued or merged NOTIFY is sent to a destination once its NOTIFY_GAP interval has ended (spec R58). -/
  | notify (dt : Nat) (dest : Fin 2)
  /-- A service SPI READ transaction reads one sub-entry (spec R67). -/
  | spiRead (dt : Nat) (bytes : List Byte)
  /-- A service SPI WRITE transaction writes one sub-entry (spec R67). -/
  | spiWrite (dt : Nat) (bytes : List Byte)
  /-- A service SPI READ_BLOCK transaction reads a range of a DOMAIN sub-entry (spec R67). -/
  | spiReadBlock (dt : Nat) (bytes : List Byte)
  /-- A service SPI WRITE_BLOCK transaction writes a range of a DOMAIN sub-entry (spec R67). -/
  | spiWriteBlock (dt : Nat) (bytes : List Byte)
  /-- A field-network port link goes up or down (spec R71). -/
  | netLinkChange (dt : Nat) (net : Fin 2) (up : LinkWord)
  /-- The PRP life-check interval expires and a supervision frame is sent (spec R71). -/
  | prpSupervision (dt : Nat)
  /-- An ARP, neighbour discovery or ICMP echo request is answered (spec R73). -/
  | netServiceRequest (dt : Nat) (rx : NetRx) (req : NetReq)
  /-- A write to the image WINDOW writes the target slot and marks it WRITING (spec R94). -/
  | imageWindowWrite (dt : Nat) (off : BitVec 32) (data : List Byte)
  /-- A write to VERIFY starts a check of the target slot (spec R93). -/
  | imageVerify (dt : Nat) (v : Byte)
  /-- The slot check completes and stores the slot status; in network boot a VALID image is loaded at once (spec R92). -/
  | imageVerifyDone (dt : Nat)
  /-- A write to ERASE clears MAGIC of the target slot (spec R93). -/
  | imageErase (dt : Nat) (v : Byte)
  /-- A RATE change adjusts OFFSET so that station time stays continuous (spec R110). -/
  | rateWrite (dt : Nat) (v : BitVec 32) (coincide : Bool)
  /-- A write to LATCH captures TT, station time and RATE from one tick (spec R112). -/
  | timeLatch (dt : Nat) (v : Byte)
  /-- A write to CONVERT converts a station time into a TT (spec R113). -/
  | stToTtConvert (dt : Nat) (v : Byte)
  /-- An offset measurement updates the servo integrator and RATE and drives the servo state (spec R114). -/
  | servoMeasurement (dt : Nat)
  /-- Loss of the servo source freezes RATE and enters HOLDOVER with F067 (spec R116). -/
  | servoSourceLost (dt : Nat)
  /-- A Sync message from the selected master is received (spec R118). -/
  | ptpSync (dt : Nat) (hdr : PtpHdr) (twoStep : Bool) (origin : PtpTime)
  /-- A Follow_Up message completes a two-step Sync (spec R118). -/
  | ptpFollowUp (dt : Nat) (hdr : PtpHdr) (precise : PtpTime)
  /-- An Announce message is received and master selection runs (spec R119). -/
  | ptpAnnounce (dt : Nat) (hdr : PtpHdr) (ann : PtpAnnounce)
  /-- Announce receipt times out, or SYNC_TIMEOUT sync intervals pass without a Sync, and the PTP source is lost (spec R117). -/
  | ptpAnnounceTimeout (dt : Nat) (net : Fin 2) (sync : Bool)
  /-- A neighbour's Pdelay_Req is received and answered two-step (spec R119). -/
  | ptpPdelayReq (dt : Nat) (hdr : PtpHdr)
  /-- A Pdelay_Resp is received and the port's link delay is updated (spec R119). -/
  | ptpPdelayResp (dt : Nat) (hdr : PtpHdr) (receipt : PtpTime) (response : PtpTime)
  /-- The peer-delay interval of a port expires and a Pdelay_Req is sent (spec R119). -/
  | pdelayInterval (dt : Nat) (net : Fin 2)
  /-- A selected PPS_IN edge is stamped, its error is recorded, and it can raise PPS_ALARM (spec R122). -/
  | ppsInEdge (dt : Nat) (rising : Bool)
  /-- No PPS_IN edge arrives within 1,100 ms, which sets PPS_MISSING and raises F071 (spec R122). -/
  | ppsMissing (dt : Nat)
  /-- PPS_OUT rises at a whole station-time second (spec R123). -/
  | ppsOutRise (dt : Nat)
  /-- OUT_WIDTH elapses and PPS_OUT falls (spec R124). -/
  | ppsOutFall (dt : Nat)
  /-- A write to ARM arms a time compare as near or far, or fires it late at once (spec R128). -/
  | compareArm (dt : Nat) (tc : Tc) (v : Byte)
  /-- A write to DISARM stops a pending firing (spec R131). -/
  | compareDisarm (dt : Nat) (tc : Tc) (v : Byte)
  /-- Every 1,000 µs the far compares are examined and made near once their distance is below 2^30 (spec R128). -/
  | farCompareScan (dt : Nat)
  /-- A time compare fires, drives its consumers and TRIG_OUT, and records FIRED_AT (spec R128). -/
  | compareFire (dt : Nat) (tc : Tc)
  /-- A 1,000 ns TRIG_OUT pulse ends (spec R128). -/
  | trigOutPulseEnd (dt : Nat) (pin : Fin 2)
  /-- A 400 µs cross-check window of TT against SOSC ends; a miss counts, sets XCHECK and raises F064 (spec R132). -/
  | ttXcheck (dt : Nat) (advance : Nat)
  /-- A TB PLL loses lock and F065 is raised (spec R132). -/
  | pllUnlock (dt : Nat)
  /-- REFCLK is lost and F066 is raised (spec R132). -/
  | refclkLoss (dt : Nat)
  /-- At each 18 ns slot boundary a port sends the highest-priority pending content: BLOCK, stack command, other command, beacon, management or idle (spec R139). -/
  | downlinkSlot (dt : Nat) (port : Port)
  /-- A sod burst is received and decoded, then checked, used for the echo check, drift tracking and the lane update (spec R181). -/
  | sodReceive (dt : Nat) (port : Port) (addr : Fin 128) (burst : Burst) (los : Bool)
  /-- An expected sod slot passes without a good sod; the miss is counted and can make the cell STALE (spec R289). -/
  | sodSlotMissed (dt : Nat) (port : Port) (addr : Fin 128) (los : Bool)
  /-- A heard announce is matched against the turf and answered with ANNOUNCE_ACK QUEUED or QUIET (spec R154). -/
  | announceReceive (dt : Nat) (port : Port) (burst : Burst)
  /-- Overlapping bursts or a lone bad burst in the tinder region count as one collision (spec R151). -/
  | tinderCollision (dt : Nat) (port : Port) (bursts : List Burst)
  /-- The ranging window closes and the ranging is judged a success or a failure (spec R147). -/
  | rangingWindowEnd (dt : Nat) (port : Port) (bursts : List Burst)
  /-- No sod with the admit echo arrives within 4 frames after ADMIT, so the admission counts as a ranging failure (spec R154). -/
  | admitTimeout (dt : Nat) (slot : Slot)
  /-- A slot STALE for ABSENT_AFTER frames goes ABSENT and is sent DEADMIT (spec R154). -/
  | absentAfterExpiry (dt : Nat) (slot : Slot)
  /-- A burst where none was expected increments UNEXPECTED (spec R164). -/
  | unexpectedBurst (dt : Nat) (burst : IdleBurst)
  /-- A management response arrives in its expected slot and completes the transaction (spec R196). -/
  | mgmtResponseReceive (dt : Nat) (port : Port) (rsp : Nat) (burst : Burst)
  /-- The expected response slot passes without a good response, and the request is resent or the transaction ends (spec R196). -/
  | mgmtResponseTimeout (dt : Nat) (port : Port) (rsp : Nat)
  /-- A write to START of the mailbox starts a PARAM_READ or PARAM_WRITE transaction (spec R201). -/
  | cellMgmtStart (dt : Nat) (v : Byte)
  /-- A write to IDENTIFY sends IDENTIFY to a stranger by serial, repeated in the next 3 frames (spec R156). -/
  | strangerIdentify (dt : Nat) (n : Fin 64) (v : Byte)
  /-- A write to CLEAR empties a stranger-list entry (spec R156). -/
  | strangerClear (dt : Nat) (n : Fin 64) (v : Byte)
  /-- A turf SERIAL write is judged by the lock, the lease, the slot state and uniqueness (spec R157). -/
  | turfSerialWrite (dt : Nat) (slot : Slot) (v : BitVec 64)
  /-- A write to START begins a profile change with PREPARE broadcasts (spec R203). -/
  | modeChangeStart (dt : Nat) (v : Byte)
  /-- A write to ABORT aborts a profile change with ABORT broadcasts and F054 (spec R205). -/
  | modeChangeAbort (dt : Nat) (v : Byte)
  /-- At full acknowledgement or at B(p + PREP_FRAMES) the change goes to COMMITTING or FORCING, or aborts (spec R203). -/
  | modeChangeDecision (dt : Nat)
  /-- FORCING has not ended by B(m − 4), so the change aborts (spec R203). -/
  | modeForceTimeout (dt : Nat)
  /-- At B(m) PROFILE_ARMn takes the new profile and the change is DONE (spec R203). -/
  | modeChangeCommit (dt : Nat)
  /-- A converter strobe or start source begins a conversion, or queues or drops the start (spec R215). -/
  | conversionStart (dt : Nat) (cv : Cv)
  /-- A conversion ends and produces its result word for all consumers (spec R218). -/
  | conversionDone (dt : Nat) (cv : Cv) (raw : BitVec 16) (satHi satLo ok : Bool)
  /-- A write to URGENT requests an urgent conversion on a single converter (spec R217). -/
  | urgentWrite (dt : Nat) (cv : Cv) (v : Byte)
  /-- A write to CAL requests calibration of a converter, judged against pair or redundancy conditions (spec R223). -/
  | calRequest (dt : Nat) (cv : Cv) (v : Byte)
  /-- A write to CAL_ALL calibrates all 18 converters together (spec R224). -/
  | calAll (dt : Nat) (v : Byte)
  /-- A calibration ends and the converter resumes with one SETTLING word (spec R225). -/
  | calDone (dt : Nat) (cv : Cv) (ok : Bool)
  /-- VREF beyond ±1 % invalidates every conversion and raises F095 (spec R228). -/
  | vrefFault (dt : Nat)
  /-- A protection comparator crosses its threshold, sets its leaves and raises F080 + k (spec R231). -/
  | ocCrossing (dt : Nat) (oc : Oc) (above : Bool)
  /-- The input returns inside the window by HYST and ABOVE or BELOW clears (spec R231). -/
  | ocRelease (dt : Nat) (oc : Oc)
  /-- Every 1,000 µs the DAC outputs are measured, and a deviation raises F110 (spec R232). -/
  | ocReadback (dt : Nat) (oc : Oc) (high low : BitVec 16)
  /-- A grid-angle quadrant edge updates quadrant, CYCLES, FREQ and direction (spec R235). -/
  | gauEdge (dt : Nat) (gau : Gau) (quadrant : Fin 4)
  /-- FREQ_TIMEOUT passes without a legal edge, which sets STANDSTILL and invalidates FREQ (spec R237). -/
  | gauStandstill (dt : Nat) (gau : Gau)
  /-- A 500 ns arctangent conversion updates ANGLE and can set an internal time compare (spec R236). -/
  | gauConversion (dt : Nat) (gau : Gau) (theta : BitVec 14) (amp : BitVec 16)
  /-- CMP_ARM arms the angle compare, in NEXT mode choosing the target cycle (spec R239). -/
  | angleCompareArm (dt : Nat) (gau : Gau) (v : Byte)
  /-- CMP_DISARM disarms the angle compare (spec R240). -/
  | angleCompareDisarm (dt : Nat) (gau : Gau) (v : Byte)
  /-- The angle compare fires, driving TRIG_OUT or CLOSE_PULSE (spec R239). -/
  | angleCompareFire (dt : Nat) (gau : Gau)
  /-- A 6-byte FLUE_DAT frame starts at each multiple of DAT_PERIOD (spec R241). -/
  | flueDatFrame (dt : Nat)
  /-- An arm loop processes one sample: error, feed-forward, feedback step and selection requests (spec R248). -/
  | armSample (dt : Nat) (arm : Arm)
  /-- The lane answers a selection request with one cell and its command, or none (spec R285). -/
  | laneSelection (dt : Nat) (arm : Arm)
  /-- ARM_CMD OPEN moves a CLOSED or HOLD arm to OPEN (spec R256). -/
  | armOpen (dt : Nat) (arm : Arm)
  /-- ARM_CMD CLOSE moves an OPEN arm to CLOSED (spec R256). -/
  | armClose (dt : Nat) (arm : Arm)
  /-- ARM_CMD HOLD freezes the arm's count (spec R256). -/
  | armHold (dt : Nat) (arm : Arm)
  /-- ARM_CMD BLOCK blocks the arm with BLOCK to group 0 on its ports (spec R256). -/
  | armBlock (dt : Nat) (arm : Arm)
  /-- ARM_CMD DEBLOCK takes a BLOCKED arm to OPEN with a deblock burst (spec R256). -/
  | armDeblock (dt : Nat) (arm : Arm)
  /-- T_OPEN_MAX in OPEN elapses and the arm goes to HOLD with F120 (spec R259). -/
  | armWatchdogExpiry (dt : Nat) (arm : Arm)
  /-- The new ranking built since B(n) replaces the old one for every cell at once (spec R279). -/
  | rankingSwitch (dt : Nat) (arm : Arm)
  /-- RETIRE 1 makes a cell RETIRED and bypassed (spec R290). -/
  | cellRetire (dt : Nat) (slot : Slot)
  /-- RETIRE 2 releases a RETIRED cell to ABSENT with DEADMIT (spec R290). -/
  | cellRelease (dt : Nat) (slot : Slot)
  /-- A GROUPS write sends GROUP_SET commands for changed places (spec R295). -/
  | groupsWrite (dt : Nat) (slot : Slot) (v : BitVec 64)
  /-- Each lane is checked against the cell table at least every 1,000 µs, and a mismatch raises F153 (spec R299). -/
  | laneAudit (dt : Nat) (lane : Fin 7) (agree : Bool)
  /-- A write to SPARE_IN starts loading spare lane L6 for an arm (spec R300). -/
  | spareIn (dt : Nat) (v : Byte)
  /-- The spare lane finishes building and checking and takes the arm, or fails with F155 (spec R300). -/
  | spareLoadDone (dt : Nat) (ok : Bool)
  /-- The scheduler grants a ready node to a waiting core (spec R319). -/
  | kilnGrant (dt : Nat) (core : Fin 18)
  /-- A core completes a node, writing its outputs or handing it to a second DUP copy (spec R320). -/
  | nodeComplete (dt : Nat) (core : Fin 18) (same : Bool)
  /-- A rate-group deadline passes with the period incomplete, which cancels nodes and raises overrun F160 + k (spec R318). -/
  | rgDeadline (dt : Nat) (rg : Fin 4)
  /-- A write to CANCEL cancels a WAITING or READY node (spec R321). -/
  | nodeCancel (dt : Nat) (node : Fin 4096) (v : Byte)
  /-- GATE_CMD OPEN opens a PI or PID gate from the node's next period (spec R324). -/
  | gateOpen (dt : Nat) (node : Fin 4096)
  /-- GATE_CMD CLOSE closes a gate with a bumpless re-initialization (spec R324). -/
  | gateClose (dt : Nat) (node : Fin 4096)
  /-- A write to CHECK starts checking the structural shadows (spec R329). -/
  | graphCheck (dt : Nat) (v : Byte)
  /-- The graph check ends PASSED or FAILED and sets CHECK_DONE (spec R329). -/
  | graphCheckDone (dt : Nat)
  /-- A JTAG debug halt stops grants, periods and the PWM unit (spec R333). -/
  | debugHalt (dt : Nat)
  /-- Resume abandons the interrupted periods and restarts the groups at their next boundary (spec R333). -/
  | debugResume (dt : Nat)
  /-- A write to STAT_CLEAR resets MAX_SPAN of every group (spec R337). -/
  | statClear (dt : Nat) (v : Byte)
  /-- A write to RESTART resets the scheduling trace index and its flags (spec R335). -/
  | traceRestart (dt : Nat) (v : Byte)
  /-- A statistics window ends and its TN1536-compatible values are published (spec R336). -/
  | statsWindowEnd (dt : Nat)
  /-- A PWM period starts, capturing the compare and releasing or counting trips (spec R342). -/
  | pwmPeriodStart (dt : Nat) (pw : Pw)
  /-- The PWM reference falls at the compare time (spec R343). -/
  | pwmCompareEvent (dt : Nat) (pw : Pw)
  /-- A dead time elapses and the output turns on unless forced (spec R345). -/
  | deadTimeExpiry (dt : Nat) (pw : Pw) (high : Bool)
  /-- A masked trip input forces both outputs off for the rest of the period and counts the period as tripped (spec R348). -/
  | pwmTrip (dt : Nat) (pin : Pw) (level : Bool)
  /-- A COMPARE write is sent towards the channel shadow (spec R347). -/
  | pwmCompareWrite (dt : Nat) (pw : Pw) (v : BitVec 32)
  /-- The written compare reaches the shadow, ordered against the capture (spec R347). -/
  | pwmCompareArrival (dt : Nat) (pw : Pw)
  /-- A write to CLEAR ends a latch and resets TRIP_COUNT, or is refused while a trip is high (spec R351). -/
  | pwmClear (dt : Nat) (pw : Pw) (v : Byte)
  /-- A raised source is counted, classified and reacted to (spec R358). -/
  | damperEvent (dt : Nat)
  /-- A source's window ends without reaching COUNT_N and IN_WINDOW returns to 0 (spec R361). -/
  | damperWindowEnd (dt : Nat) (src : Byte)
  /-- A write to FORCE injects one event of the source (spec R360). -/
  | faultForce (dt : Nat) (src : Byte) (v : Byte)
  /-- A write to CLEAR clears a source whose LIVE is 0 (spec R367). -/
  | faultClear (dt : Nat) (src : Byte) (v : Byte)
  /-- A write to CLEAR_ALL clears every source whose LIVE is 0 (spec R367). -/
  | faultClearAll (dt : Nat) (v : Byte)
  /-- A completion monitor detects a stalled core path and raises its source (spec R15). -/
  | coreStall (dt : Nat) (path : CorePath)
  /-- An invalid dual-rail code is detected on a handshake, which raises F019 (spec R15). -/
  | invalidDualRail (dt : Nat)
  /-- A parity error on a bundled datapath raises F021 (spec R378). -/
  | parityError (dt : Nat)
  /-- SECDED finds a correctable or uncorrectable error on a memory read (spec R378). -/
  | memoryReadError (dt : Nat) (loc : MemAt) (correctable : Bool)
  /-- A scrubber pass over SRAM and MRAM completes (spec R378). -/
  | scrubPass (dt : Nat)
  /-- A write to a slot's START begins a maintenance activity, or is refused (spec R384). -/
  | maintStart (dt : Nat) (slot : Fin 4) (v : Byte)
  /-- A write to ABORT stops a running activity unless completion came first (spec R386). -/
  | maintAbort (dt : Nat) (slot : Fin 4) (v : Byte) (done : Option Bool)
  /-- A maintenance activity completes or fails, with F249 and F250 on failure (spec R383). -/
  | maintActivityDone (dt : Nat) (slot : Fin 4) (ok : Bool) (value : BitVec 32)
  /-- The engine starts an automatic activity or retries a refused one (spec R387). -/
  | maintAutoStart (dt : Nat)
  /-- PROOF_AGE exceeds PROOF_INTERVAL, which sets PROOF_DUE and raises F252 (spec R388). -/
  | proofDue (dt : Nat)
  /-- A HEARTBEAT frame opens each 1,000 ns twin-link interval (spec R396). -/
  | heartbeatSend (dt : Nat)
  /-- A partner HEARTBEAT updates partner state, the lease and DELTA_TT (spec R397). -/
  | heartbeatReceive (dt : Nat) (hb : Heartbeat) (crcOk : Bool)
  /-- An EMBER frame is written into a retention slot, which completes when its CRC checks (spec R405). -/
  | emberFrameReceive (dt : Nat) (slot : Fin 2) (off : Fin 512) (e : BitVec 64) (bytes : List Byte) (crcOk : Bool)
  /-- A partner STATUS frame updates the PARTNER object (spec R396). -/
  | statusFrameReceive (dt : Nat) (st : TwinStatus) (crcOk : Bool)
  /-- An HB_IN edge renews the HB path and distinguishes NORMAL from FAILED (spec R398). -/
  | hbInEdge (dt : Nat)
  /-- A heartbeat path sees nothing for T_HB, which sets its leaf and raises F208 or F209 (spec R399). -/
  | twinPathLost (dt : Nat) (fibre : Bool)
  /-- ACT_IN starts toggling, which forces TX_DIS high (spec R392). -/
  | actInToggle (dt : Nat)
  /-- 1,000 ns without an ACT_IN edge make it quiet, releasing the interlock and letting a takeover start ACT_OUT (spec R392). -/
  | actInQuiet (dt : Nat)
  /-- The core wakes and its wake check completes during takeover (spec R406). -/
  | coreWakeDone (dt : Nat) (ok : Bool)
  /-- The chosen ember is checked and applied to the device (spec R408). -/
  | emberLoadDone (dt : Nat)
  /-- At B(m) the new frame grid starts and the arms resume in OPEN with CAUSE TAKEOVER (spec R410). -/
  | takeoverResume (dt : Nat)
  /-- No HOLD for LEASE_TIME + LEASE_MARGIN lets the ACTIVE device take the lease (spec R401). -/
  | leaseExpiry (dt : Nat)
  /-- Gratuitous ARP and unsolicited NA are sent at 0, 50 and 100 ms after the lease is taken (spec R402). -/
  | identityAnnounce (dt : Nat)
  /-- The ACTIVE device finishes streaming an ember (spec R405). -/
  | emberStreamDone (dt : Nat)
  /-- Every SLOW_PERIOD the newest complete slot is copied to MRAM (spec R405). -/
  | slowCopy (dt : Nat)
  /-- A write to ARM admits a record, or refuses it, and takes a segment (spec R423). -/
  | acqArm (dt : Nat) (v : Byte)
  /-- A write to ABORT aborts a record, or is ignored as late after end TT (spec R426). -/
  | acqAbort (dt : Nat) (v : Byte)
  /-- PRE_TIME elapses and the record goes from FILLING to ARMED (spec R426). -/
  | acqPretimeElapsed (dt : Nat)
  /-- All entries up to end TT are written and the record is DONE (spec R426). -/
  | acqRecordDone (dt : Nat)
  /-- A write to RELEASE empties a DONE or ABORTED segment (spec R425). -/
  | segmentRelease (dt : Nat) (seg : Fin 16) (v : Byte)
  /-- A filtered TRIG_IN edge is a trigger condition (spec R431). -/
  | trigInEdge (dt : Nat) (pin : Fin 2) (rising : Bool)
  /-- A falling XTRIG edge not caused by the device is a trigger condition (spec R433). -/
  | xtrigEdge (dt : Nat)
  /-- XTRIG held low beyond XTRIG_STUCK sets the leaf and raises F254 (spec R433). -/
  | xtrigStuck (dt : Nat)
  /-- XTRIG_WIDTH elapses and the device releases XTRIG (spec R432). -/
  | xtrigDriveEnd (dt : Nat)
  /-- A write to FORCE is a trigger condition while the engine is open (spec R442). -/
  | triggerForce (dt : Nat) (v : Byte)
  /-- The trigger point is resolved and delivered to every consumer, with TRIG_OUT and XTRIG driven (spec R432). -/
  | triggerResolve (dt : Nat)
  /-- A write to ASH_ARM starts ash from the next SI (spec R437). -/
  | ashArm (dt : Nat) (v : Byte)
  /-- A write to ASH_STOP stops ash and records its rows (spec R437). -/
  | ashStop (dt : Nat) (v : Byte)
  /-- After POST rows past a trigger, ash stops (spec R437). -/
  | ashPostDone (dt : Nat)
  /-- A snapshot copies all event counters at one tick (spec R439). -/
  | ecSnap (dt : Nat) (v : Byte)
  /-- A TB PLL that was out of lock locks again, which clears live leaf PLL_UNLOCK (spec R133). -/
  | pllRelock (dt : Nat)
  /-- VREF returns within ±1 % of nominal, so the converters give VALID words again and live leaf VREF clears (spec R228). -/
  | vrefRestored (dt : Nat)
  /-- The shared XTRIG line rises again, which clears live leaf XTRIG_STUCK and re-admits XTRIG conditions once it has been high for 1,000 ns (spec R433). -/
  | xtrigReleased (dt : Nat)
deriving DecidableEq, Repr

/-- The time a command carries: how long after the one before it, in 100 ps. -/
def Instr.dt : Instr → Nat
  | .poresetAssert dt _ => dt
  | .poresetRelease dt _ => dt
  | .vddCoreLow dt _ => dt
  | .vddCoreRecovered dt _ => dt
  | .clocksPhaseDone dt => dt
  | .fusePhaseDone dt _ _ => dt
  | .memoryPhaseDone dt _ _ _ => dt
  | .selfTestDone dt _ _ _ => dt
  | .imagePhaseDone dt _ => dt
  | .networkBootTimeout dt => dt
  | .twinStartWindowEnd dt => dt
  | .deblock dt => dt
  | .block dt => dt
  | .swap dt => dt
  | .reset dt => dt
  | .reload dt => dt
  | .frameBoundary dt => dt
  | .stnInChange dt _ _ => dt
  | .closeArm dt _ => dt
  | .closePulseEnd dt _ => dt
  | .leafAck dt _ _ _ => dt
  | .registerWrite dt _ _ _ _ => dt
  | .testSpaceWrite dt _ _ _ => dt
  | .lockSet dt _ => dt
  | .commitMapWrite dt _ _ => dt
  | .summaryRead dt _ => dt
  | .commitStrobe dt _ => dt
  | .commitInEdge dt _ => dt
  | .commitTimeArm dt _ => dt
  | .commitTimeFire dt => dt
  | .iopRead dt _ => dt
  | .iopWrite dt _ => dt
  | .iopReadBlock dt _ => dt
  | .iopWriteBlock dt _ => dt
  | .iopCommit dt _ => dt
  | .dupCacheExpiry dt => dt
  | .notify dt _ => dt
  | .spiRead dt _ => dt
  | .spiWrite dt _ => dt
  | .spiReadBlock dt _ => dt
  | .spiWriteBlock dt _ => dt
  | .netLinkChange dt _ _ => dt
  | .prpSupervision dt => dt
  | .netServiceRequest dt _ _ => dt
  | .imageWindowWrite dt _ _ => dt
  | .imageVerify dt _ => dt
  | .imageVerifyDone dt => dt
  | .imageErase dt _ => dt
  | .rateWrite dt _ _ => dt
  | .timeLatch dt _ => dt
  | .stToTtConvert dt _ => dt
  | .servoMeasurement dt => dt
  | .servoSourceLost dt => dt
  | .ptpSync dt _ _ _ => dt
  | .ptpFollowUp dt _ _ => dt
  | .ptpAnnounce dt _ _ => dt
  | .ptpAnnounceTimeout dt _ _ => dt
  | .ptpPdelayReq dt _ => dt
  | .ptpPdelayResp dt _ _ _ => dt
  | .pdelayInterval dt _ => dt
  | .ppsInEdge dt _ => dt
  | .ppsMissing dt => dt
  | .ppsOutRise dt => dt
  | .ppsOutFall dt => dt
  | .compareArm dt _ _ => dt
  | .compareDisarm dt _ _ => dt
  | .farCompareScan dt => dt
  | .compareFire dt _ => dt
  | .trigOutPulseEnd dt _ => dt
  | .ttXcheck dt _ => dt
  | .pllUnlock dt => dt
  | .refclkLoss dt => dt
  | .downlinkSlot dt _ => dt
  | .sodReceive dt _ _ _ _ => dt
  | .sodSlotMissed dt _ _ _ => dt
  | .announceReceive dt _ _ => dt
  | .tinderCollision dt _ _ => dt
  | .rangingWindowEnd dt _ _ => dt
  | .admitTimeout dt _ => dt
  | .absentAfterExpiry dt _ => dt
  | .unexpectedBurst dt _ => dt
  | .mgmtResponseReceive dt _ _ _ => dt
  | .mgmtResponseTimeout dt _ _ => dt
  | .cellMgmtStart dt _ => dt
  | .strangerIdentify dt _ _ => dt
  | .strangerClear dt _ _ => dt
  | .turfSerialWrite dt _ _ => dt
  | .modeChangeStart dt _ => dt
  | .modeChangeAbort dt _ => dt
  | .modeChangeDecision dt => dt
  | .modeForceTimeout dt => dt
  | .modeChangeCommit dt => dt
  | .conversionStart dt _ => dt
  | .conversionDone dt _ _ _ _ _ => dt
  | .urgentWrite dt _ _ => dt
  | .calRequest dt _ _ => dt
  | .calAll dt _ => dt
  | .calDone dt _ _ => dt
  | .vrefFault dt => dt
  | .ocCrossing dt _ _ => dt
  | .ocRelease dt _ => dt
  | .ocReadback dt _ _ _ => dt
  | .gauEdge dt _ _ => dt
  | .gauStandstill dt _ => dt
  | .gauConversion dt _ _ _ => dt
  | .angleCompareArm dt _ _ => dt
  | .angleCompareDisarm dt _ _ => dt
  | .angleCompareFire dt _ => dt
  | .flueDatFrame dt => dt
  | .armSample dt _ => dt
  | .laneSelection dt _ => dt
  | .armOpen dt _ => dt
  | .armClose dt _ => dt
  | .armHold dt _ => dt
  | .armBlock dt _ => dt
  | .armDeblock dt _ => dt
  | .armWatchdogExpiry dt _ => dt
  | .rankingSwitch dt _ => dt
  | .cellRetire dt _ => dt
  | .cellRelease dt _ => dt
  | .groupsWrite dt _ _ => dt
  | .laneAudit dt _ _ => dt
  | .spareIn dt _ => dt
  | .spareLoadDone dt _ => dt
  | .kilnGrant dt _ => dt
  | .nodeComplete dt _ _ => dt
  | .rgDeadline dt _ => dt
  | .nodeCancel dt _ _ => dt
  | .gateOpen dt _ => dt
  | .gateClose dt _ => dt
  | .graphCheck dt _ => dt
  | .graphCheckDone dt => dt
  | .debugHalt dt => dt
  | .debugResume dt => dt
  | .statClear dt _ => dt
  | .traceRestart dt _ => dt
  | .statsWindowEnd dt => dt
  | .pwmPeriodStart dt _ => dt
  | .pwmCompareEvent dt _ => dt
  | .deadTimeExpiry dt _ _ => dt
  | .pwmTrip dt _ _ => dt
  | .pwmCompareWrite dt _ _ => dt
  | .pwmCompareArrival dt _ => dt
  | .pwmClear dt _ _ => dt
  | .damperEvent dt => dt
  | .damperWindowEnd dt _ => dt
  | .faultForce dt _ _ => dt
  | .faultClear dt _ _ => dt
  | .faultClearAll dt _ => dt
  | .coreStall dt _ => dt
  | .invalidDualRail dt => dt
  | .parityError dt => dt
  | .memoryReadError dt _ _ => dt
  | .scrubPass dt => dt
  | .maintStart dt _ _ => dt
  | .maintAbort dt _ _ _ => dt
  | .maintActivityDone dt _ _ _ => dt
  | .maintAutoStart dt => dt
  | .proofDue dt => dt
  | .heartbeatSend dt => dt
  | .heartbeatReceive dt _ _ => dt
  | .emberFrameReceive dt _ _ _ _ _ => dt
  | .statusFrameReceive dt _ _ => dt
  | .hbInEdge dt => dt
  | .twinPathLost dt _ => dt
  | .actInToggle dt => dt
  | .actInQuiet dt => dt
  | .coreWakeDone dt _ => dt
  | .emberLoadDone dt => dt
  | .takeoverResume dt => dt
  | .leaseExpiry dt => dt
  | .identityAnnounce dt => dt
  | .emberStreamDone dt => dt
  | .slowCopy dt => dt
  | .acqArm dt _ => dt
  | .acqAbort dt _ => dt
  | .acqPretimeElapsed dt => dt
  | .acqRecordDone dt => dt
  | .segmentRelease dt _ _ => dt
  | .trigInEdge dt _ _ => dt
  | .xtrigEdge dt => dt
  | .xtrigStuck dt => dt
  | .xtrigDriveEnd dt => dt
  | .triggerForce dt _ => dt
  | .triggerResolve dt => dt
  | .ashArm dt _ => dt
  | .ashStop dt _ => dt
  | .ashPostDone dt => dt
  | .ecSnap dt _ => dt
  | .pllRelock dt => dt
  | .vrefRestored dt => dt
  | .xtrigReleased dt => dt

end Sys2Proof
end

