-- ==== Sys2Proof/Machine/Bits.lean ====
section
/-!
DEFINITION. Bit fields, byte order and two's complement: the helpers every unit shares (spec R30, R31).
-/
namespace Sys2Proof.Machine

/-- Bit `k` of `n`. -/
def bit (n k : Nat) : Bool := n.testBit k

/-- `n` with bit `k` set. -/
def setBit (n k : Nat) : Nat := n ||| (1 <<< k)

/-- `n` with the bits of `m` cleared. -/
def clearBits (n m : Nat) : Nat := n ^^^ (n &&& m)

/-- `n` with bit `k` set to `b`. -/
def putBit (n k : Nat) (b : Bool) : Nat := if b then setBit n k else clearBits n (1 <<< k)

/-- Bits `[lo + width - 1 : lo]` of `n`. -/
def field (n lo width : Nat) : Nat := (n >>> lo) % 2 ^ width

/-- 1 for true, 0 for false: the BOOLEAN bytes of spec R30. -/
def b2n (b : Bool) : Nat := if b then 1 else 0

/-- The number a two's complement pattern of `w` bits stands for. -/
def toSigned (w n : Nat) : Int :=
  let m := n % 2 ^ w
  if 2 * m < 2 ^ w then (m : Int) else (m : Int) - (2 ^ w : Nat)

/-- The two's complement pattern of `w` bits of a number, wrapping. -/
def ofSigned (w : Nat) (i : Int) : Nat := (i % ((2 ^ w : Nat) : Int)).toNat

/-- A number saturated to the range of `w` bits of two's complement. -/
def satSigned (w : Nat) (i : Int) : Int :=
  let top : Int := ((2 ^ (w - 1) : Nat) : Int)
  if i < -top then -top else if i ≥ top then top - 1 else i

/-- `n` bytes of a value, least significant first (spec R31). -/
def leBytes : Nat → Nat → List Byte
  | 0, _ => []
  | n + 1, v => BitVec.ofNat 8 v :: leBytes n (v / 256)

/-- `n` bytes of a value, most significant first (spec R167). -/
def beBytes (n v : Nat) : List Byte := (leBytes n v).reverse

/-- The value of bytes that stand least significant first (spec R31). -/
def ofLe : List Byte → Nat
  | [] => 0
  | b :: bs => b.toNat + 256 * ofLe bs

/-- The value of bytes that stand most significant first. -/
def ofBe (bs : List Byte) : Nat := ofLe bs.reverse

/-- Round an integer quotient to the nearest, halves away from zero upwards (`d > 0`). -/
def divRound (n d : Int) : Int := (2 * n + d) / (2 * d)

/-- How many of the low `n` bits of `m` are 1. -/
def popCount : Nat → Nat → Nat
  | 0, _ => 0
  | n + 1, m => m % 2 + popCount n (m / 2)

/-- Update entry `i` of a list; an index beyond the end changes nothing. -/
def modifyAt {α : Type} (f : α → α) : Nat → List α → List α
  | _, [] => []
  | 0, x :: xs => f x :: xs
  | i + 1, x :: xs => x :: modifyAt f i xs

end Sys2Proof.Machine
end

