-- ==== Sys2Proof/Machine/Crc.lean ====
section
/-!
DEFINITION. The check codes of the manual as bitwise shift registers: the CRC-8 of the service SPI (spec R67) and the
CRC-16 and CRC-32 of the Septef link and of the configuration image.
-/
namespace Sys2Proof.Machine

/-- One bit of an unreflected CRC of width `w`: shift left, XOR the polynomial if the bit shifted out differs. -/
def crcBit (w poly : Nat) (r : Nat) (b : Bool) : Nat :=
  let top := r.testBit (w - 1)
  let r' := (r * 2) % 2 ^ w
  if top != b then r' ^^^ poly else r'

/-- One byte, most significant bit first. -/
def crcByte (w poly : Nat) (r : Nat) (b : Byte) : Nat :=
  [7, 6, 5, 4, 3, 2, 1, 0].foldl (fun r k => crcBit w poly r (b.toNat.testBit k)) r

/-- An unreflected CRC of a byte string. -/
def crcMsb (w poly init : Nat) (bs : List Byte) : Nat := bs.foldl (crcByte w poly) init

/-- One bit of a reflected CRC: shift right. -/
def crcBitR (poly : Nat) (r : Nat) (b : Bool) : Nat :=
  if r.testBit 0 != b then (r / 2) ^^^ poly else r / 2

/-- One byte, least significant bit first. -/
def crcByteR (poly : Nat) (r : Nat) (b : Byte) : Nat :=
  [0, 1, 2, 3, 4, 5, 6, 7].foldl (fun r k => crcBitR poly r (b.toNat.testBit k)) r

/-- The CRC-8 of the service SPI: polynomial 0x07, initial value 0, nothing reflected (spec R67). -/
def crc8 (bs : List Byte) : Nat := crcMsb 8 0x07 0 bs

/-- The CRC-16 of the Septef link: polynomial 0x1021, initial value 0xFFFF (spec R168). -/
def crc16 (bs : List Byte) : Nat := crcMsb 16 0x1021 0xFFFF bs

/-- The CRC-32 of images, beacons and records: polynomial 0x04C11DB7 reflected, initial value and final XOR all ones
(spec R85). -/
def crc32 (bs : List Byte) : Nat := (bs.foldl (crcByteR 0xEDB88320) 0xFFFFFFFF) ^^^ 0xFFFFFFFF

end Sys2Proof.Machine
end

