-- ==== Sys2Proof/Machine/F32.lean ====
section
/-!
DEFINITION. IEEE 754 binary32 arithmetic, round to nearest even (spec R30, R303), as exact dyadic arithmetic that is
rounded once. A finite value is (sign, m, e) for ±m·2^e.
-/
namespace Sys2Proof.Machine

namespace F32

def zero : F32 := 0
def one : F32 := 0x3F800000#32
def half : F32 := 0x3F000000#32
/-- The quiet NaN the model writes. -/
def nan : F32 := 0x7FC00000#32

def sign (x : F32) : Bool := x.toNat / 2 ^ 31 % 2 == 1
def expo (x : F32) : Nat := x.toNat / 2 ^ 23 % 256
def frac (x : F32) : Nat := x.toNat % 2 ^ 23

def isNaN (x : F32) : Bool := expo x == 255 && frac x != 0
def isInf (x : F32) : Bool := expo x == 255 && frac x == 0
def isFinite (x : F32) : Bool := expo x != 255
def isZero (x : F32) : Bool := x.toNat % 2 ^ 31 == 0

def inf (neg : Bool) : F32 := BitVec.ofNat 32 ((if neg then 2 ^ 31 else 0) + 0x7F800000)
def signedZero (neg : Bool) : F32 := if neg then 0x80000000#32 else 0

/-- Mantissa of a finite value, hidden bit included. -/
def mant (x : F32) : Nat := if expo x == 0 then frac x else frac x + 2 ^ 23
/-- Exponent of the mantissa's last bit. -/
def qexp (x : F32) : Int := (max (expo x) 1 : Nat) - 150

/-- Divide by 2^k, round to nearest, ties to even. -/
def shrRne (m k : Nat) : Nat :=
  let q := m >>> k
  let r := m % 2 ^ k
  if 2 * r > 2 ^ k then q + 1 else if 2 * r == 2 ^ k then q + q % 2 else q

/-- The binary32 value nearest ±m·2^e, ties to even, overflow to infinity, subnormals kept. -/
def round (neg : Bool) (m : Nat) (e : Int) : F32 :=
  if m == 0 then signedZero neg else
  let n : Int := (Nat.log2 m : Nat)
  let q : Int := max (e + n - 23) (-149)
  let k := if q > e then shrRne m (q - e).toNat else m <<< (e - q).toNat
  let bits := (q + 149).toNat * 2 ^ 23 + k
  if bits ≥ 0x7F800000 then inf neg else BitVec.ofNat 32 ((if neg then 2 ^ 31 else 0) + bits)

/-- The binary32 value nearest the integer i·2^e; an exact zero is +0. -/
def ofScaled (i : Int) (e : Int) : F32 := round (decide (i < 0)) i.natAbs e

def ofInt (i : Int) : F32 := ofScaled i 0
def ofNat (n : Nat) : F32 := round false n 0

/-- The signed mantissa of a finite value. -/
def smant (x : F32) : Int := if sign x then -(mant x : Int) else (mant x : Int)

def neg (x : F32) : F32 := x ^^^ 0x80000000#32
def abs (x : F32) : F32 := x &&& 0x7FFFFFFF#32

/-- Exact sum of two dyadics as integer and exponent. -/
def addDyadic (i : Int) (e : Int) (j : Int) (f : Int) : Int × Int :=
  let g := min e f
  (i * 2 ^ (e - g).toNat + j * 2 ^ (f - g).toNat, g)

def add (x y : F32) : F32 :=
  if isNaN x || isNaN y then nan
  else if isInf x then (if isInf y && sign x != sign y then nan else x)
  else if isInf y then y
  else
    let (i, e) := addDyadic (smant x) (qexp x) (smant y) (qexp y)
    if i == 0 then signedZero (sign x && sign y) else ofScaled i e

def sub (x y : F32) : F32 := if isNaN y then nan else add x (neg y)

def mul (x y : F32) : F32 :=
  let s := sign x != sign y
  if isNaN x || isNaN y then nan
  else if isInf x || isInf y then (if isZero x || isZero y then nan else inf s)
  else round s (mant x * mant y) (qexp x + qexp y)

/-- x·y + z with one rounding. -/
def fma (x y z : F32) : F32 :=
  let s := sign x != sign y
  if isNaN x || isNaN y || isNaN z then nan
  else if isInf x || isInf y then
    (if isZero x || isZero y then nan else if isInf z && sign z != s then nan else inf s)
  else if isInf z then z
  else
    let p : Int := if s then -(mant x * mant y : Nat) else (mant x * mant y : Nat)
    let (i, e) := addDyadic p (qexp x + qexp y) (smant z) (qexp z)
    if i == 0 then signedZero (s && sign z) else ofScaled i e

def div (x y : F32) : F32 :=
  let s := sign x != sign y
  if isNaN x || isNaN y then nan
  else if isInf x then (if isInf y then nan else inf s)
  else if isInf y then signedZero s
  else if isZero y then (if isZero x then nan else inf s)
  else
    let n := mant x * 2 ^ 64
    let q := n / mant y
    let st := if n % mant y == 0 then 0 else 1
    round s (2 * q + st) (qexp x - qexp y - 65)

/-- Integer square root by digit recurrence on `fuel` bits. -/
def isqrtAux : Nat → Nat → Nat → Nat
  | 0, _, r => r
  | k + 1, n, r => let t := r + 2 ^ k; isqrtAux k n (if t * t ≤ n then t else r)

def sqrt (x : F32) : F32 :=
  if isNaN x then nan
  else if isZero x then x
  else if sign x then nan
  else if isInf x then x
  else
    let e := qexp x - 64
    let (m, e) := if e % 2 == 0 then (mant x * 2 ^ 64, e) else (mant x * 2 ^ 65, e - 1)
    let r := isqrtAux 48 m 0
    let st := if r * r == m then 0 else 1
    round false (2 * r + st) (e / 2 - 1)

/-- Order key: a total order on non-NaN values in which both zeros are equal. -/
def okey (x : F32) : Int :=
  let m : Int := (x.toNat % 2 ^ 31 : Nat)
  if sign x then -m else m

def lt (x y : F32) : Bool := !isNaN x && !isNaN y && decide (okey x < okey y)
def le (x y : F32) : Bool := !isNaN x && !isNaN y && decide (okey x ≤ okey y)
def eq (x y : F32) : Bool := !isNaN x && !isNaN y && decide (okey x = okey y)

/-- The larger and the smaller value; the first where they compare equal. -/
def max (x y : F32) : F32 := if lt x y then y else x
def min (x y : F32) : F32 := if lt y x then y else x

/-- floor of a finite value. -/
def floor (x : F32) : Int :=
  if qexp x ≥ 0 then smant x * 2 ^ (qexp x).toNat else smant x / ((2 ^ (-qexp x).toNat : Nat) : Int)

/-- Nearest integer of a finite value, ties to even. -/
def toIntRne (x : F32) : Int :=
  let m := if qexp x ≥ 0 then mant x * 2 ^ (qexp x).toNat else shrRne (mant x) (-qexp x).toNat
  if sign x then -(m : Int) else (m : Int)

/-- Nearest integer of a finite value, ties away from zero. -/
def toIntHalfAway (x : F32) : Int :=
  let m := if qexp x ≥ 0 then mant x * 2 ^ (qexp x).toNat
    else (2 * mant x + 2 ^ (-qexp x).toNat) / 2 ^ ((-qexp x).toNat + 1)
  if sign x then -(m : Int) else (m : Int)

/-- A subnormal becomes a zero of its sign. -/
def flush (x : F32) : F32 := if expo x == 0 then signedZero (sign x) else x

/-- The exact value of a finite datum. -/
def toRat (x : F32) : Rat :=
  if qexp x ≥ 0 then ((smant x * 2 ^ (qexp x).toNat : Int) : Rat) else mkRat (smant x) (2 ^ (-qexp x).toNat)

/-- The binary32 value nearest a rational. -/
def ofRat (q : Rat) : F32 :=
  let k : Nat := 64 + Nat.log2 q.den
  let n := q.num.natAbs * 2 ^ k
  round (decide (q.num < 0)) (2 * (n / q.den) + (if n % q.den == 0 then 0 else 1)) (-(k : Int) - 1)

end F32

end Sys2Proof.Machine
end

