-- ==== Sys2Proof/Config.lean ====
section
/-!
DEFINITION. What one device fixes (its fuses, its Holent test space) and the free values: results the spec leaves
open. A constant here has no body, so nothing can be proved about its value.
-/
namespace Sys2Proof.Config

/-- The serial number in the fuses (spec R34, R81). -/
opaque serial : BitVec 32

/-- MAC_BASE in the fuses (spec R72, R81). -/
opaque macBase : BitVec 48

/-- A fresh open value for each count: what the spec leaves undefined or does not state. -/
opaque free : Nat → BitVec 64

/-- Whether index and subindex name an entry of the RT test space 0x2F00–0x2FFF; the spec lists none (spec R39). -/
opaque testEntry : Nat → Nat → Bool

/-- The size in bytes of a test-space entry, and its value after reset (spec R39). -/
opaque testSize : Nat → Nat → Nat
opaque testReset : Nat → Nat → Nat

/-- The next record index of the fault log and whether its ring has wrapped, as manufacture left them (spec R374). -/
opaque logIndex : BitVec 13
opaque logWrapped : Bool

/-- Hours since the last completed planned swap, as kept in MRAM (spec R388). -/
opaque proofAge : BitVec 32

/-- By how many units in the last place a result of SINCOS (0, 1), ATAN2 (2), EXP (3) and LOG (4) of the kiln lies off
the nearest value: 2 more than this, modulo 5; the spec bounds it by 2 and fixes it no further (spec R303). -/
opaque ulp : Nat → F32 → F32 → BitVec 8

/-- atan2(0, 0), which the spec does not state. -/
opaque atan2Zero : F32 → F32 → F32

/-- Whether the stall of a core path (numbered as its source) keeps the core from renewing its ACT_OUT request: the spec
says that a core which stalls stops ACT_OUT, and not which paths the renewal takes (spec R391). -/
opaque renewPath : Nat → Bool

/-- One cell of an ember (spec R403). -/
structure EmberCell where
  slot : Nat
  state : Nat
  cmd : Nat
  seq : Nat
  excluded : Bool
  eqd : Nat
  dl : Nat
  eqAdj : Nat
  swCount : Nat
  stateTt : Nat
deriving DecidableEq, Repr, Inhabited

/-- One node of an ember (spec R403): S0–S3, published outputs with their STALE marks, gate state, with the state that a gate in
CHANGING turns to, and whether the next execution re-initializes (log 107). -/
structure EmberNode where
  node : Nat
  s : List Nat
  out0 : Nat
  out1 : Nat
  status : Nat
  gateTo : Option Nat
  reinit : Bool
deriving DecidableEq, Repr, Inhabited

/-- An ember (spec R403, R404, R414): frame count and boundary in the sender's TT; sender; arm states with r_new; the
sink values with STALE marks; MULT and PHASE of the rate groups; lanes; profiles with the arms of a change in progress;
the servo; cells; nodes; configuration entries (key, size, value) in their order; whether it is marked incomplete and
whether it carries SWAP. -/
structure Ember where
  e : Nat
  be : Nat
  serial : Nat
  generation : Nat
  devState : Nat
  arms : List (Nat × Nat)
  sinks : List (Nat × Bool)
  rgs : List (Nat × Nat)
  laneMap : Nat
  failedLanes : Nat
  profiles : List Nat
  modeArms : Nat
  servoState : Nat
  integ : Rat
  rate : Nat
  offset : Nat
  epoch : Nat
  cells : List EmberCell
  nodes : List EmberNode
  config : List (Nat × Nat × Nat)
  incomplete : Bool
  swap : Bool
deriving DecidableEq, Repr, Inhabited

/-- Bytes 0 to 196,603 of an ember on the twin link and in MRAM: the spec gives its sections and their sizes, and no
layout within them (spec R403). -/
opaque emberByte : Ember → Nat → Byte

/-- What the 196,608 bytes of a complete ember say. -/
opaque emberOf : List Byte → Ember

end Sys2Proof.Config
end

