-- ==== Sys2Proof/Machine/Tab.lean ====
section
/-!
DEFINITION. Sparse tables: key and value pairs with strictly rising keys. An unlisted key holds the default its
reader names. Registers, cells, arms, ports and fault sources are kept so.
-/
namespace Sys2Proof.Machine

/-- A sparse table. -/
abbrev Tab (α : Type) := List (Nat × α)

/-- The entry of a key, if the table lists one. -/
def Tab.find {α : Type} : Tab α → Nat → Option α
  | [], _ => none
  | (k, v) :: t, key => if key == k then some v else Tab.find t key

/-- The value of a key; `d` where the table lists none. -/
def Tab.get {α : Type} (t : Tab α) (key : Nat) (d : α) : α := (Tab.find t key).getD d

/-- Store a value under a key; the keys keep rising. -/
def Tab.put {α : Type} : Tab α → Nat → α → Tab α
  | [], key, v => [(key, v)]
  | (k, w) :: t, key, v =>
    if key < k then (key, v) :: (k, w) :: t
    else if key == k then (key, v) :: t
    else (k, w) :: Tab.put t key v

/-- Drop a key. -/
def Tab.drop {α : Type} (t : Tab α) (key : Nat) : Tab α := t.filter (fun e => e.1 != key)

/-- Keys rise strictly. -/
def Tab.sorted {α : Type} : Tab α → Bool
  | [] => true
  | [_] => true
  | (k, _) :: (k', v') :: t => decide (k < k') && Tab.sorted ((k', v') :: t)

end Sys2Proof.Machine
end

