-- ==== Sys2Proof/Machine/State.lean ====
section
/-!
DEFINITION. The state of the TN3072: its object dictionary as plain numbers, what each unit holds beside it, the byte
areas of MRAM and SRAM, and the queue of waiting commands. Plain data throughout.
-/
namespace Sys2Proof.Machine

/-- Why a command stops the block. -/
inductive Fault where
  /-- Raised by `exec` on a command that is not well formed (`Instr.wf`): no TN3072 can meet such operands. Safe. -/
  | illFormed
deriving DecidableEq, Repr

/-- Why a command has no meaning. -/
inductive Refusal where
  /-- Raised by an arm of `exec` whose command has no meaning yet. Safe. -/
  | notModelled (mnemonic : String)
deriving DecidableEq, Repr

/-- The byte areas of MRAM and SRAM (spec R26, R27), canonical: addresses rise strictly, no entry is 0x00, which is
what an unlisted address reads as (log 3). -/
abbrev Memory := List Host.Cell

/-- What a command does to the byte areas: write bytes from an address on, or clear a range. -/
inductive MemOp where
  | write (addr : Nat) (bytes : List Byte)
  | clear (addr : Nat) (len : Nat)
deriving DecidableEq, Repr

/-- What a frame of the field network carries: a UDP datagram, ARP and neighbour discovery answers and announcements, echo
replies, PRP supervision, and the peer-delay messages of PTP with their domain, VLAN tag (VID, PCP), clock identity, correction in 2^-16 ns, the
requester they answer and two stamps (spec R63, R71, R73, R118–R120). -/
inductive NetMsg where
  | udp (src dst : IpAddr) (srcPort dstPort : Nat) (payload : List Byte)
  | arp (addr : Nat) (gratuitous : Bool)
  | neighbour (addr : Nat) (unsolicited : Bool)
  | echo (src dst : IpAddr) (payload : List Byte)
  | supervision
  | pdelayReq (domain : Nat) (vlan : Option (Nat × Nat)) (clock seq : Nat) (correction : Int)
  | pdelayResp (domain : Nat) (vlan : Option (Nat × Nat)) (clock seq reqId reqPort : Nat) (correction : Int) (receipt response : Nat)
deriving DecidableEq, Repr

/-- What leaves the chip during one command: frames of the field network with their port, source MAC address and, in PRP,
the redundancy control trailer; answers of the service SPI; slots of the cell links with the running disparity before them (true positive), the idle symbols
before the content and the fill symbols after it in the last slot of a frame (spec R138, R166, R167); frames of the twin link
of Flue; and the read of the QSPI flash: command, 24-bit address, dummy clocks (spec R473). -/
inductive Out where
  | frame (net mac : Nat) (rct : Option Rct) (msg : NetMsg)
  | spi (bytes : List Byte)
  | slot (port : Nat) (rd : Bool) (pre : Nat) (k28 : Nat) (bytes : List Byte) (post : Nat)
  | heartbeat (hb : Heartbeat)
  | twinEmber (slot off e : Nat) (data : List Byte)
  | twinStatus (st : TwinStatus)
  | flue (bytes : List Byte)
  | qspi (command : Byte) (address : BitVec 24) (dummy : Nat)
deriving DecidableEq, Repr

/-- An old value of a sub-entry that samples with SI < `k` still use (spec R50). -/
structure Old where
  k : Nat
  key : Nat
  old : Nat
deriving DecidableEq, Repr

/-- A request the fabric keeps for retransmissions (spec R64). -/
structure Kept where
  src : IpAddr
  port : Nat
  seq : Nat
  content : List Byte
  response : List Byte
  dst : IpAddr
  at_ : Nat
deriving DecidableEq, Repr

/-- One notify destination: the 0x2004 bits that rose since its last NOTIFY, whether a NOTIFY waits, when the last
one left, and its next SEQ (spec R58, R63). -/
structure NotifyX where
  bits : Nat := 0
  queued : Bool := false
  last : Option Nat := none
  seq : Nat := 0
deriving DecidableEq, Repr

/-- One item of an IOP request (spec R63). -/
inductive IopItem where
  | read (idx sub : Nat)
  | write (idx sub : Nat) (data : List Byte)
  | readBlock (head : List Byte) (idx sub off n : Nat)
  | writeBlock (head : List Byte) (idx sub off n : Nat) (data : List Byte)
  | commit (mask : Nat)
deriving DecidableEq, Repr

/-- An IOP request whose ARM_CMD write waits for its sample (spec R256): the request and the ports its response leaves on,
the arm, the number of items, the bytes of the response so far, the items that follow, and the status once the sample has
been processed. -/
structure IopWait where
  udp : Udp
  ports : List Nat
  arm : Nat
  count : Nat
  body : List Byte
  left : List IopItem
  result : Option Nat
deriving DecidableEq, Repr

/-- A service SPI write of ARM_CMD that waits for its sample (spec R68, R256): the arm, the status once the sample has been
processed, and whether its transaction is still the one on the pins. -/
structure SpiWait where
  arm : Nat
  result : Option Nat := none
  heard : Bool := true
deriving DecidableEq, Repr

/-- The fabric's access paths beside their objects (spec R38, R64, R68, R71, R256): the IOP request or the SPI access that
waits for an arm, the requests of each path that came after it, kept requests, notify destinations, PRP frames seen
(sender, sequence number, when), the PRP sequence number of the next frame sent, and when supervision is due. -/
structure NetX where
  wait : Option IopWait := none
  spiWait : Option SpiWait := none
  spiQueue : List (List Byte) := []
  queue : List (Udp × List Nat) := []
  kept : List Kept := []
  notify : Tab NotifyX := []
  seen : List (Nat × Nat × Nat) := []
  txSeq : Nat := 0
  supervisionAt : Nat := 0
deriving DecidableEq, Repr

/-- Kindling and the device state beside 0x2000, 0x2009 and 0x200B (spec R76–R106): the rising edge of PORESET_N (`now`),
whether PORESET_N or VDD_CORE holds the device in RESET, whether the image phase is that of a RELOAD, whether kindling
waits for a delivery, whether that is network boot, the interface types of NET0 and NET1 in it (spec R88), since when a port
has link in it, the slot (1 A, 2 B) that is being verified and whether IOP asked for that, and the one that holds the loaded
image; whether a deblock waits for its boundary; the levels of the strap balls with TEST_EN as bit 4, and TEST_EN as sampled (spec
R454); the raw levels of STN_IN; the GAUs whose
compare a close pulse is armed on (bit mask) and the close pulses that run (GAU, rise in `now`); whether the SOSC domain
holds ERR_N and TRIP_REQ (spec R372); the entry into CONFIGURED (`now`), and whether the twin start decision has been taken
(spec R100). -/
structure Kindle where
  edgeAt : Nat := 0
  poresetLow : Bool := true
  vddLow : Bool := false
  reload : Bool := false
  waiting : Bool := false
  netBoot : Bool := false
  bootIf0 : Nat := 0
  bootIf1 : Nat := 0
  netLinkAt : Option Nat := none
  verify : Option Nat := none
  verifyNet : Bool := false
  slot : Option Nat := none
  deblock : Bool := false
  strapPins : Nat := 0
  testEn : Bool := false
  stnRaw : Nat := 0
  closeArm : Nat := 0
  close : Tab Nat := []
  sosc : Bool := false
  configuredAt : Nat := 0
  decided : Bool := false
deriving DecidableEq, Repr

/-- The JTAG port (spec R475): the instruction register, which IEEE 1149.1 starts at IDCODE, and the boundary register (log 103). -/
structure JtagX where
  ir : Byte := 0x01
  boundary : Nat := 0
deriving DecidableEq, Repr

/-- Frame boundaries (spec R16, R306): whether they run and have begun, the count and the TT of the frame that runs,
the TT of the one before, and the TT of the next boundary. -/
structure Frame where
  run : Bool := false
  started : Bool := false
  n : Nat := 0
  bn : Nat := 0
  bnOld : Nat := 0
  next : Nat := 0
deriving DecidableEq, Repr

/-- The PTP offset measurement or PPS edge that the servo has yet to use: TT of the event, its reference time and
its station time in 100 ps, or a Sync that waits for its Follow_Up (spec R114, R118). -/
structure Measure where
  tt : Int
  ref : Rat
deriving DecidableEq, Repr

/-- A two-step Sync that waits for its Follow_Up: port, sender, sequence number, plane TT of its arrival and
correction (spec R118, R120). -/
structure SyncX where
  net : Nat
  srcId : Nat
  srcPort : Nat
  seq : Nat
  tt : Int
  correction : Int
deriving DecidableEq, Repr

/-- One PTP port (spec R118, R119): the best Announce heard with its sender, when and at which interval (log2 s), the
Pdelay_Req that waits for its answer (sequence number, plane TT), the next sequence number, and when the next
Pdelay_Req is due (`now`). -/
structure PtpPortX where
  ann : Option PtpAnnounce := none
  srcId : Nat := 0
  srcPort : Nat := 0
  annAt : Nat := 0
  annLog : Int := 0
  req : Option (Nat × Int) := none
  seq : Nat := 0
  due : Nat := 0
deriving DecidableEq, Repr

/-- The time base beside its objects (spec R107–R132): the servo's integrator as an exact number, the reference time
of its last event, how many θ in a row lay within LOCK_THRESHOLD, the measurement and the Sync that wait, when the last Sync
of the selected master came and at which interval (log2 s), the PTP ports, the last PPS_IN edge seen, PPS_OUT with its rise (`now`) and the station seconds pulsed as intervals, RATE,
OFFSET and EPOCH_SEC before each change of the last 2,000 ns, the pulses on TRIG_OUT by pin (start and end in TT),
and whether the commit compare is far. -/
structure TimeX where
  integ : Rat := 0
  lastRef : Option Rat := none
  lockRun : Nat := 0
  measure : Option Measure := none
  sync : Option SyncX := none
  syncAt : Nat := 0
  syncLog : Int := 0
  ports : Tab PtpPortX := []
  ppsSeen : Option Nat := none
  ppsOut : Bool := false
  ppsOutAt : Nat := 0
  pulsed : List (Int × Int) := []
  changes : List (Nat × Int × Int × Nat) := []
  trig : Tab (Nat × Nat) := []
  commitFar : Bool := false
deriving DecidableEq, Repr

/-- A downlink command that waits for a slot (spec R172–R175): group or unicast with its destination, opcode, EXEC and
FLAGS; its SEQ where the lane has given it one already; whether it is a switching command, a repeat of R191, a repeat
of the BLOCK broadcast, or one that waits for the limit of R189. -/
structure DlCmd where
  group : Bool := false
  dest : Nat := 0
  op : Nat
  seq : Option Nat := none
  exec : Nat := 0
  flags : Nat := 0
  isRepeat : Bool := false
  limited : Bool := false
deriving DecidableEq, Repr

/-- A unicast command that has left for a cell (spec R190): its SEQ, opcode, the switching state it leaves the cell in,
the TT at which its first bit left the balls, and whether it was a repeat. -/
structure SentCmd where
  seq : Nat
  op : Nat
  state : Nat
  tt : Nat
  isRepeat : Bool := false
deriving DecidableEq, Repr

/-- The uplink and slot plan that a port runs in the present frame (spec R143, R161). -/
structure Plan where
  eq : Nat := 4400
  nSod : Nat := 128
  mgmt : Nat := 8
  lo : Nat := 0
  hi : Nat := 400
deriving DecidableEq, Repr

/-- A management transaction (spec R196): TID, target slot, response slot, message bytes without CRC, how many tries
have been sent, the first frame whose slot may hold the response, the frame in which it is expected, and whether it is the seed of R291. -/
structure Txn where
  tid : Nat
  slot : Nat
  rsp : Nat
  param : Nat
  body : List Byte
  tries : Nat := 0
  due : Option Nat := none
  expect : Option Nat := none
  seed : Bool := false
deriving DecidableEq, Repr

/-- A management message of a port (spec R193, R194): its bytes, and the TID of the transaction it is a try of, and the cell slot that it
admits. -/
structure MgmtMsg where
  bytes : List Byte
  tid : Option Nat := none
  admitSlot : Option Nat := none
deriving DecidableEq, Repr

/-- A BLOCK confirmation run (spec R192): when its BLOCK left, in which frame, and how many good sods each address has sent in
which that BLOCK was due. -/
structure RunX where
  tt : Nat
  frame : Nat
  good : Tab Nat := []
deriving DecidableEq, Repr

/-- One port beside its object (spec R135–R164, R192–R197). -/
structure PortX where
  /-- TX_DIS released; released with the frame that runs, whose beacon's start symbol has yet to leave (spec R136). -/
  live : Bool := false
  fresh : Bool := false
  /-- Running disparity of the downlink: positive (spec R167, log 84). -/
  rd : Bool := false
  /-- TX_DIS follows once the BLOCK in the dedicated FIFO has left. -/
  closing : Bool := false
  /-- Since when (TT) no condition forces TX_DIS high; none while one does. -/
  freeSince : Option Nat := none
  /-- The dedicated BLOCK FIFO of R24. -/
  blockWord : Bool := false
  stackQ : List DlCmd := []
  otherQ : List DlCmd := []
  /-- From a BLOCK until the arm next enters OPEN (spec R23). -/
  ban : Bool := false
  /-- When the last other command's slot began (TT). -/
  lastOther : Option Nat := none
  /-- The last slot used: frame and index. -/
  slotUsed : Option (Nat × Nat) := none
  /-- When group BLOCKs left the balls (TT), newest first; one of those older than any command still in flight stays. -/
  blocks : List Nat := []
  /-- Starts (TT) of the RX_BRST pulses that decoded bursts of this frame and the one before call for (spec R142). -/
  brst : List Nat := []
  run : Option RunX := none
  plan : Plan := {}
  /-- The plan of the frame before, whose late bursts may still arrive, and the cell ranged in it. -/
  planOld : Plan := {}
  rangingOld : Option Nat := none
  /-- Fragments of this frame's beacon that have left. -/
  fragsSent : Nat := 4
  beaconLate : Bool := false
  /-- Bytes of the beacon as fixed when its first fragment left. -/
  beacon : List Byte := []
  tinderOpen : Bool := false
  /-- Fragments of the message that is leaving, and messages behind it. -/
  frags : List (List Byte) := []
  fragTid : Option Nat := none
  fragAdmit : Option Nat := none
  mgmtQ : List MgmtMsg := []
  txns : List Txn := []
  txnWait : List Txn := []
  tidNext : Nat := 0
  /-- Cell slots that wait for ranging, the one ranged in this frame, the frame of the last window. -/
  rangeQ : List Nat := []
  ranging : Option Nat := none
  lastRange : Option Nat := none
  /-- Error checks of R163 and R164. -/
  errCount : Nat := 0
  errRaised : Bool := false
  losSeen : Bool := false
  losRun : Nat := 0
  goodSeen : Bool := false
  /-- At the frame's start the port was live with an ACTIVE cell. -/
  hadActive : Bool := false
  silentRun : Nat := 0
  unexpSeen : Bool := false
  unexpRun : Nat := 0
  cleanRun : Nat := 0
deriving DecidableEq, Repr

/-- One cell slot beside its cell table and turf entries (spec R149, R154, R189–R192, R281, R291). -/
structure CellX where
  /-- Unicast commands that have left, newest first, and the state of the cell before them. -/
  sent : List SentCmd := []
  baseState : Nat := 3
  /-- TT of each new unicast command since the latest sod latch. -/
  recent : List Nat := []
  /-- Dispute: 0 none, 1 first repeat, 2 second repeat, 3 failed. -/
  stage : Nat := 0
  repeatTt : Option Nat := none
  /-- Arrival offsets of good sods since the mean restarted, in 50 ps, at most 16. -/
  eqBuf : List Int := []
  drifted : Bool := false
  /-- Frame and TT of the ADMIT, failures since ANNOUNCED, frame of entering STALE. -/
  admitFrame : Nat := 0
  admitTt : Nat := 0
  fails : Nat := 0
  staleFrame : Nat := 0
  /-- Estimator bases (spec R281), the last change of commanded state (SI, the sign before it), whether a base stands. -/
  vcapB : F32 := 0
  qB : Nat := 0
  chgSi : Nat := 0
  chgSign : Int := 0
  hasBase : Bool := false
  /-- Switching count: collected while a seed is pending; whether this cell was ACTIVE before since reset. -/
  collected : Nat := 0
  counted : Bool := false
  /-- The key's sum had to be limited, or was NaN, when it was last evaluated (spec R278). -/
  keySat : Bool := false
  /-- No echo check before the next unicast command (spec R412). -/
  echoHold : Bool := false
  /-- Latest good sod: PREP_ACK. -/
  prepAck : Bool := false
deriving DecidableEq, Repr

/-- A profile change (spec R203): its first frame p, its commit frame m, EXEC, PROFILE, arms, the targets, which of
them have acknowledged, which are excluded, and how many ABORT broadcasts remain. -/
structure ModeX where
  p : Nat := 0
  m : Nat := 0
  exec : Nat := 0
  profile : Nat := 0
  arms : Nat := 0
  targets : List Nat := []
  excluded : List Nat := []
  aborts : Nat := 0
deriving DecidableEq, Repr

/-- The cell link beside its objects: its ports, those whose arm changed and whose cells have yet to join the new arm's lane
(spec R158), and the profile change. -/
structure LinkX where
  ports : Tab PortX := []
  moved : List Nat := []
  mode : ModeX := {}
  /-- IDENTIFY repeats: port, serial, action, how many remain (spec R156). -/
  identify : List (Nat × Nat × Nat × Nat) := []
deriving DecidableEq, Repr

/-- The values that govern a key together (spec R279). -/
structure KeyVals where
  wV : F32 := 0
  wSoc : F32 := 0
  wT : F32 := 0
  wW : F32 := 0
  socTarget : F32 := 0x3F000000#32
  vNom : F32 := 0
  cEst : F32 := 0
  swFloor : Nat := 0
deriving DecidableEq, Repr

/-- A removal of a counted cell (spec R288): its slot, the new commanded state, the TT of the trigger, and whether a unicast command
goes with it. -/
structure Removal where
  slot : Nat
  state : Nat
  tt : Nat
  unicast : Bool
deriving DecidableEq, Repr

/-- One lane beside its object (spec R276–R286): the three rotation pointers, the key values in force and those of the
ranking being built, the arm charge Q (units of 2^-32 C, modulo 2^64) with its last 1,024 values, newest first, the SI
of the newest, and the current of the last VALID word. -/
structure LaneX where
  rotByp : Nat := 0
  rotPos : Nat := 0
  rotNeg : Nat := 0
  vals : KeyVals := {}
  building : Option KeyVals := none
  q : Nat := 0
  qHist : List Nat := []
  qSi : Nat := 0
  code : Int := 0
  /-- Removals that wait for the arm's first sample after their trigger (spec R288). -/
  removals : List Removal := []
  /-- The cell last granted and its KEY at the grant (spec R436). -/
  lastSlot : Nat := 0xFFFF
  lastKey : Int := 0
deriving DecidableEq, Repr

/-- A request of the arm loop to its lane (spec R248, R285): the SI, direction, how many levels were asked and how many
are left, how many were granted, n_fb before the sample, the feedback step, the current sign, whether it belongs to a
deblock burst. -/
structure SelReq where
  si : Nat
  dir : Int
  asked : Nat
  left : Nat
  granted : Nat := 0
  fb0 : Int
  dFb : Int
  pos : Bool
  burst : Bool := false
  /-- In a burst: insertions still asked for, and whether step 3 bypasses the rest. -/
  need : Nat := 0
  rest : Bool := false
deriving DecidableEq, Repr

/-- A word of an arm's merged stream as the loop takes it (spec R212, R218): its SI, VALID, code, leg, reason code. -/
structure WordX where
  si : Nat
  valid : Bool
  data : Int
  leg : Nat
  reason : Nat
  reduced : Bool := false
  /-- The leg whose words count alone while the pair runs REDUCED (spec R264). -/
  alone : Option Nat := none
deriving DecidableEq, Repr

/-- What the loop takes at a frame boundary (spec R244, R245): r_prev, r_new, the boundary's SI, samples per frame and
TF, V_KILN, VCAP_SUM and HEALTHY. -/
structure RefX where
  rPrev : F32 := 0
  rNew : F32 := 0
  si0 : Nat := 0
  ns : Nat := 100
  tf : Nat := 100000
  vKiln : F32 := 0
  vSum : F32 := 0
  healthy : Nat := 0
deriving DecidableEq, Repr

/-- A transition of R255 that is asked of an arm from outside its samples. -/
inductive ArmAct where
  | block
  | hold
  | loss
  | openArm
  | close
  | deblock
deriving DecidableEq, Repr

/-- A transition that waits for the arm's next sample: the least TT of the strobe at which it acts, its cause, and whether
an access waits for it (spec R256, R270). -/
structure ArmAsk where
  act : ArmAct
  cause : Nat
  from_ : Nat
  access : Bool := false
deriving DecidableEq, Repr

/-- One arm loop beside its object (spec R244–R271). -/
structure ArmX where
  /-- The present frame and the one before it. -/
  cur : RefX := {}
  old : RefX := {}
  dwellEnd : Nat := 0
  respEnd : Nat := 0
  lastDir : Int := 0
  ePrev : Int := 0
  nFb : Int := 0
  nCmd : Int := 0
  nFf : Int := 0
  pos : Bool := true
  /-- Words that wait for the loop, oldest first. -/
  words : List WordX := []
  /-- The last VALID words (code, leg), newest first, at most 64. -/
  recent : List (Int × Nat) := []
  /-- SIs of level events of the last 256 samples, newest first. -/
  events : List Nat := []
  /-- Feedback steps of the last 256 samples: SI and n_fb before, newest first. -/
  steps : List (Nat × Int) := []
  frozen : Bool := false
  invRun : Nat := 0
  invDone : Bool := false
  /-- Samples for which the recovery criterion has held; whether it held at the last sample. -/
  recover : Option Nat := none
  criterion : Bool := false
  openSince : Nat := 0
  req : Option SelReq := none
  /-- Deblock burst: 0 none, 1 inserting, 2 bypassing; complete since the arm left BLOCKED. -/
  burst : Nat := 0
  burstDone : Bool := false
  /-- Transitions that wait for a sample, oldest first. -/
  asks : List ArmAsk := []
  /-- Rank of the transition taken at SI `transSi` (spec R257). -/
  transSi : Nat := 0
  transRank : Nat := 0
  si : Nat := 0
  /-- The first sample of the frame that began after the burst completed. -/
  closeFrame : Option Nat := none
  staleFrames : Nat := 0
  /-- Codes of the VALID words of the present frame and of the one before, and how many (spec R313). -/
  meanSum : Int := 0
  meanN : Nat := 0
  oldSum : Int := 0
  oldN : Nat := 0
  /-- The converter named in V_POLE_CV, or in V_AC_CV, has given FF_INVALID_MAX words in a row that are not VALID (spec R269). -/
  ffPole : Bool := false
  ffAc : Bool := false
  tapErr : Int := 0
  tapBand : Nat := 0
  tapSlot : Nat := 0xFFFF
  tapFlags : Nat := 0
  tapRef : Int := 0
deriving DecidableEq, Repr

/-- The leg-sum check (spec R266): samples that wait for their six words (SI, words by arm), the run above the limit, and
whether it has tripped. -/
structure LegSumX where
  rows : List (Nat × List (Nat × Bool × F32)) := []
  run : Nat := 0
  tripped : Bool := false
deriving DecidableEq, Repr

/-- The spare lane: the arm being loaded (arm number + 1). -/
structure SpareX where
  arm : Nat := 0
deriving DecidableEq, Repr

/-- A raise on its way to the damper (spec R358): source, when it was raised, the arm it names (0xFF none), the AUX
value of its log record, whether it is forced, and for a source raised in KINDLING the class of the reaction taken (spec R369). -/
structure Raised where
  src : Nat
  at_ : Nat
  arm : Nat
  aux : Nat
  forced : Bool := false
  kindling : Option Nat := none
deriving DecidableEq, Repr

/-- The fields of a fault-log record (spec R373). -/
structure LogRec where
  tt : Nat
  src : Nat
  cls : Nat
  flags : Nat
  state : Nat
  arm : Nat
  inWindow : Nat
  aux : Nat
deriving DecidableEq, Repr

/-- What became of an event's record (spec R373): at an index of the ring, not due, or beyond the rate. -/
inductive RecAt where
  | at (i : Nat)
  | notDue
  | suppressed
deriving DecidableEq, Repr

/-- The last event of a source (spec R358, R368): when it was raised, the arms it names, and its record. -/
structure EventX where
  at_ : Nat
  named : Nat
  record : LogRec
  place : RecAt
deriving DecidableEq, Repr

/-- What the last CLEAR of a source ended (spec R367, R368): when, STATUS, CLASS, IN_WINDOW and the end of the window. -/
structure ClearX where
  at_ : Nat
  status : Nat
  cls : Nat
  inWindow : Nat
  winEnd : Option Nat
deriving DecidableEq, Repr

/-- The damper beside its objects (spec R358–R374): raises that wait in order, the end of each source's open window in
100 ps of `now`, the last event and the last clear of each source, the log rate (the second it counts in and how many records
it wrote) and when F251 was last raised for it. -/
structure DamperX where
  raised : List Raised := []
  winEnd : Tab Nat := []
  events : Tab EventX := []
  clears : Tab ClearX := []
  rateAt : Nat := 0
  rateN : Nat := 0
  suppressedAt : Option Nat := none
deriving DecidableEq, Repr

/-- A conversion (spec R215–R217): strobe TT, the SI of its slot, urgent or delayed, and whether its slot fell in a
calibration. -/
structure ConvX where
  strobe : Nat
  si : Nat
  urgent : Bool := false
  delayed : Bool := false
  cal : Bool := false
deriving DecidableEq, Repr

/-- A start: when its strobe is due, or was, and the SI of its slot. -/
structure StartX where
  due : Nat
  si : Nat
deriving DecidableEq, Repr

/-- One converter beside its object, and for the even member of a pair the channel of the pair (spec R211–R228). -/
structure CvX where
  /-- The conversion in progress, and the one before it while its word is on its way; until when (TT) the converter is
  occupied, and by an urgent conversion. -/
  conv : Option ConvX := none
  late : Option ConvX := none
  busyUntil : Nat := 0
  urgentUntil : Nat := 0
  pend : Option StartX := none
  urgentWait : Bool := false
  /-- An aborted conversion (its strobe and SI) that restarts when the urgent occupancy ends. -/
  restart : Option StartX := none
  /-- Words made invalid by changes: the first SI with analogue and total count for a pair; for a single converter the TT from
  which strobes are governed, and the counts still to come. -/
  settle : List (Nat × Nat × Nat) := []
  /-- The filter is emptied before the first word from this SI, or strobe TT for a single, on; the FILTER that strobes of a
  single before a TT still use, latest change first. -/
  emptyAt : List Nat := []
  filters : List (Nat × Nat) := []
  /-- Valid raw samples, newest first. -/
  raws : List Int := []
  exceeds : Bool := false
  /-- A calibration waits for the conversion in progress, which ends at `calFrom` (TT); what CAL_STATE read
  before; from which TT on the first word after one is SETTLING; REDUCED until its first VALID word; the converter whose words stand in. -/
  calWait : Bool := false
  calFrom : Nat := 0
  calPrev : Nat := 0
  calSettle : Option Nat := none
  reduced : Bool := false
  standIn : Option Nat := none
  lastValid : Option Nat := none
  /-- Words in a row that are not VALID, up to 255 (spec R269). -/
  badRun : Nat := 0
  /-- The latest VALID word with its strobe at or before the present frame boundary, for the snapshot: VALUE and strobe TT (spec
  R17). -/
  bVal : F32 := 0
  bAt : Option Nat := none
  /-- Leg sums of the pair: VALID codes, how many, samples taken, for each member; whether the last window was out. -/
  legSum0 : Int := 0
  legN0 : Nat := 0
  legCnt0 : Nat := 0
  legSum1 : Int := 0
  legN1 : Nat := 0
  legCnt1 : Nat := 0
  legBad : Bool := false
deriving DecidableEq, Repr

/-- One grid angle unit beside its object (spec R234–R240): whether the lines are known, the last legal edges (TT, reverse)
newest first, consecutive edges against DIR, conversions below and above AMP_MIN in a row, the last conversion (TT, angle),
the internal time compare, the TT since which no edge has come. -/
structure GauX where
  known : Bool := false
  edges : List (Nat × Bool) := []
  against : Nat := 0
  low : Nat := 0
  high : Nat := 0
  convTt : Nat := 0
  angle : Nat := 0
  hit : Option Nat := none
  lastEdge : Nat := 0
  /-- ANGLE, CYCLES and FREQ as latched at the present frame boundary (spec R236). -/
  bAngle : Nat := 0
  bCycles : Int := 0
  bFreq : F32 := 0
deriving DecidableEq, Repr

/-- Measurement beside its objects: converters, grid angle units, whether VREF is out of range, and FLUE_DAT. -/
structure MeasX where
  cvs : Tab CvX := []
  gaus : Tab GauX := []
  vrefBad : Bool := false
  /-- The bytes of the latest frame of FLUE_DAT and the TT of its start (spec R241). -/
  flue : List Byte := []
  flueAt : Nat := 0
deriving DecidableEq, Repr

/-- An entry of a stream: its TT, the TT that a block which begins with it shows, and its bytes (spec R427, R430). -/
structure EntryX where
  tt : Nat
  head : Nat
  bytes : List Byte
deriving DecidableEq, Repr

/-- One stream of a record: what it records as taken at the ARM (KIND, SOURCE, entry bytes, DECIM, STEP, the listed
slots of KIND 3), the entries of its open block, the number of that block and whether an uncorrectable error hit it, how many
words its converter produced since arming, and by listed slot one more than the latest frame with an entry (spec R419, R420,
R422, R430). -/
structure StreamX where
  kind : Nat := 0
  source : Nat := 0
  size : Nat := 0
  decim : Nat := 1
  step : Nat := 0
  slots : List Nat := []
  entries : List EntryX := []
  block : Nat := 0
  invalid : Bool := false
  words : Nat := 0
  seen : Tab Nat := []
deriving DecidableEq, Repr

/-- A closed block: its stream, its number, its entries, whether an uncorrectable error hit it, whether it
is the stream's last (spec R430). -/
structure BlockX where
  stream : Nat
  block : Nat
  entries : List EntryX
  invalid : Bool := false
  last : Bool := false
deriving DecidableEq, Repr

/-- Acquisition, trigger engine, ash and event counters beside their objects (spec R419–R440). -/
structure AcqX where
  /-- Whether the engine is open, since which TT, and the conditions recorded (bit, TT). -/
  engineOpen : Bool := false
  openTt : Nat := 0
  conds : List (Nat × Nat) := []
  /-- The present record: TT of its ARM, PRE_TIME and POST_TIME in 100 ps, bytes of a segment, the trigger (TT, SI, word), its flags. -/
  armTt : Nat := 0
  preTime : Nat := 0
  postTime : Nat := 0
  segBytes : Nat := 0
  trig : Option (Nat × Nat × Nat) := none
  shortPre : Bool := false
  abortLate : Bool := false
  /-- TT of the last change of RATE, OFFSET or EPOCH_SEC up to end TT. -/
  stChanged : Option Nat := none
  dataInvalid : Bool := false
  forced : Bool := false
  /-- Values the record header takes at TRIG_TT: RATE, OFFSET, EPOCH_SEC. -/
  hdrRate : Nat := 0
  hdrOffset : Nat := 0
  hdrEpoch : Nat := 0
  streams : Tab StreamX := []
  blocks : List BlockX := []
  /-- Order in which segments became DONE or ABORTED, oldest first. -/
  segOrder : List Nat := []
  /-- The XTRIG line: driven by this device until this TT; low since, high since (`now`). -/
  xDrive : Option Nat := none
  xLowAt : Option Nat := none
  xHighAt : Nat := 0
  xBlocked : Bool := false
  /-- The last VALID word of each converter, as the threshold units see it (spec R435). -/
  thrPrev : Tab Nat := []
  /-- Ash: rows written since ASH_ARM, SI of the newest row, rows still to write after a trigger, the trigger's SI, the
  next SI to look at. -/
  ashRows : Nat := 0
  ashSi : Nat := 0
  ashPost : Option Nat := none
  ashTrig : Option Nat := none
  ashNext : Nat := 0
  /-- By source code, what its value became at the SIs whose rows are not yet all written, newest first: SI and value (spec
  R436). -/
  ashLog : Tab (List (Nat × Nat)) := []
  /-- Event counters whose gate 2 is open. -/
  ecGate : Nat := 0
  /-- The tick whose events are held, and how many of each source it has seen (spec R438). -/
  ecTick : Nat := 0
  ecSeen : Tab Nat := []
  /-- The tick of the last snapshot (spec R439). -/
  snapTick : Option Nat := none
deriving DecidableEq, Repr

/-- One input of a node for a period (spec R306, R307): its value and STALE mark as captured at the period's start, or
the producer (2 × node + output) of a dependency edge; `conn` is false for KIND 0. -/
structure NodeArg where
  conn : Bool := false
  dep : Option Nat := none
  val : F32 := 0
  stale : Bool := false
deriving DecidableEq, Repr

/-- One node in force beside its object (spec R306–R327): DESC, the references IN0 to IN3, DUP; working outputs with
their STALE marks; the gate state that the next period takes and whether the next execution re-initializes; the state of
R320 in the present period (0 not yet run, 1 WAITING, 2 READY, 3 GRANTED, 4 DUP_READY, 5 DUP_GRANTED, 6 COMPLETE,
7 CANCELLED, 8 MISMATCHED) and its counter; the captured inputs, coefficients and table (X0, DX, points); when it
became ready; the core of a DUP node's first copy. -/
structure NodeX where
  desc : Nat := 0
  ins : List Nat := []
  dup : Bool := false
  work0 : F32 := 0
  work1 : F32 := 0
  stale0 : Bool := true
  stale1 : Bool := true
  gateTo : Option Nat := none
  reinit : Bool := false
  phase : Nat := 0
  count : Nat := 0
  args : List NodeArg := []
  coefs : List F32 := []
  x0 : F32 := 0
  dx : F32 := 0
  points : List F32 := []
  readyAt : Nat := 0
  core1 : Nat := 0
deriving DecidableEq, Repr

/-- One rate group (spec R306, R317): MULT, PHASE and MARGIN in force, whether a period runs, its start (TT), frame and
T in 100 ps, whether all its nodes have ended, whether it overran, the TT of its last completion, and its ready list. -/
structure RgX where
  mult : Nat := 1
  phase : Nat := 0
  margin : Nat := 200
  running : Bool := false
  start : Nat := 0
  /-- P_k of the running period in units of 100 ps, and the frame count at which it ends. -/
  period : Nat := 0
  endN : Nat := 0
  done : Bool := false
  overran : Bool := false
  lastDone : Nat := 0
  ready : List Nat := []
deriving DecidableEq, Repr

/-- One kiln core beside 0x2905 (spec R319, R331, R336): its node, when it was granted, the state it takes when that node
ends, granted time of the window and of the frame, since when the present grant is not yet accounted, the busiest
frame and the completions of the window. -/
structure KCoreX where
  node : Option Nat := none
  grantAt : Nat := 0
  leave : Option Nat := none
  busy : Nat := 0
  busyFrame : Nat := 0
  busyFrom : Nat := 0
  peak : Nat := 0
  nodes : Nat := 0
deriving DecidableEq, Repr

/-- Queue and wait figures of one rate group in the window that runs (spec R336); waits in 100 ps. -/
structure StatX where
  depthMax : Nat := 0
  depthSum : Nat := 0
  waitMax : Nat := 0
  waitSum : Nat := 0
  grants : Nat := 0
deriving DecidableEq, Repr

/-- The kiln beside its objects: whether it runs, is halted; whether an applied structure waits for the snapshot (spec
R330); the graph in force; sink references and what RG0's COPY sinks captured (spec R314); cores; the trace port's
buffer (when it runs empty, spec R334) and records still to come after a trigger; the window's figures. -/
structure KilnX where
  run : Bool := false
  halted : Bool := false
  reload : Bool := false
  nodes : Tab NodeX := []
  rgs : Tab RgX := [(1, { mult := 10 }), (2, { mult := 100 }), (3, { mult := 1000 })]
  sinks : Tab Nat := []
  sinkIn : Tab (F32 × Bool) := []
  cores : Tab KCoreX := []
  traceFree : Nat := 0
  tracePost : Option Nat := none
  stats : Tab StatX := []
  winFrames : Nat := 0
  winStart : Nat := 0
  /-- Sinks that took a value at the present frame boundary (spec R315, R344). -/
  taken : List Nat := []
deriving DecidableEq, Repr

/-- One PWM channel beside its object (spec R341–R353): whether it runs; the fields taken at the period start; compare in
force, start and end of the period (TT); r; the dead-time stage with what is still to turn on; the trip force, whether
the period is tripped, periods in a row without a trip; whether it waits for its first period start after a start or a
resume; whether its compare event is still to come; the compare shadow, and software writes on their way to it with
whether a capture has passed; the apply of the latest change of PERIOD or PHASE (TT); the last accepted CLEAR (tick, count, latch). -/
structure PwmX where
  run : Bool := false
  period : Nat := 62500
  phase : Nat := 0
  src : Nat := 0
  dtA : Nat := 10000
  dtB : Nat := 10000
  swap : Bool := false
  inv : Nat := 0
  mask : Nat := 0
  limit : Nat := 1
  reset : Nat := 0
  c : Nat := 0
  start : Nat := 0
  fin : Nat := 0
  r : Bool := false
  aOn : Bool := false
  bOn : Bool := false
  aDue : Option Nat := none
  bDue : Option Nat := none
  force : Bool := false
  tripped : Bool := false
  /-- The first rising edge of this period has been recorded (spec R349). -/
  edgeSeen : Bool := false
  clean : Nat := 0
  fresh : Bool := true
  fall : Option Nat := none
  shadow : Nat := 0
  transit : List (Nat × Bool) := []
  since : Nat := 0
  cleared : Option (Nat × Nat × Bool) := none
deriving DecidableEq, Repr

/-- The PWM unit: its channels, the levels of TRIP0 to TRIP5, and the tick of each input's last edge. -/
structure PwmUnitX where
  chans : Tab PwmX := []
  trips : Nat := 0
  edges : Tab Nat := []
deriving DecidableEq, Repr

/-- An activity that the engine is to start by itself: its code and instance, when a retry is due, and whether its
spare-in is followed by ARM_CMD OPEN and CLOSE (spec R387). -/
structure WantX where
  code : Nat
  inst : Nat
  at_ : Nat := 0
deriving DecidableEq, Repr

/-- The maintenance engine beside its objects (spec R382–R388): activities wanted, times of the last periodic starts,
correctable errors by SRAM row (times), MRAM blocks that gave one, hours kept in MRAM with the
time they count from, spares found at 0, the arm whose ARM_CMD CLOSE follows at the next frame boundary, and the spare core that
a CORE_TEST brought in, by slot. -/
structure MaintX where
  want : List WantX := []
  calAt : Nat := 0
  adcAt : Nat := 0
  wearAt : Nat := 0
  ce : Tab (List Nat) := []
  mramCe : List Nat := []
  proofBase : Nat := Config.proofAge.toNat
  proofAt : Nat := 0
  zero : Nat := 0
  closeArm : Option Nat := none
  brought : Tab Nat := []
deriving DecidableEq, Repr

/-- One retention slot (spec R405): the frame e of the ember it holds or receives, which of its 512 parts have arrived,
whether it is complete; of a complete one B(e) in the sender's TT, and whether it is marked incomplete or carries SWAP. -/
structure RetainX where
  e : Nat := 0
  got : Nat := 0
  complete : Bool := false
  be : Nat := 0
  partial_ : Bool := false
  swap : Bool := false
deriving DecidableEq, Repr

/-- A takeover in progress or behind (spec R406–R415): the TT of the declaration, whether the core is awake, whether the
ember is loaded, which one, the arm bits of the partner's last good HEARTBEAT, the arms resumed, whether it is a swap's,
B(m), the resumed arms that have yet to become CLOSED, and the cells to be sent a DEADMIT in frame m. -/
structure TakeX where
  declTt : Nat := 0
  awake : Bool := false
  loaded : Bool := false
  ember : Option Config.Ember := none
  bits : Option Nat := none
  resumed : Nat := 0
  swap : Bool := false
  bm : Nat := 0
  left : Nat := 0
  deadmit : List Nat := []
deriving DecidableEq, Repr

/-- Twin operation beside its objects (spec R390–R415). -/
structure TwinX where
  /-- ACT_IN counts as toggling; whether this device has yielded; whether step 2 of R406 has ended. -/
  actIn : Bool := false
  /-- ACT_IN has toggled since the entry into CONFIGURED. -/
  actSeen : Bool := false
  yielded : Bool := false
  released : Bool := false
  /-- Arm bits frozen by a yield, and the FAILED reason on both paths. -/
  frozen : Option Nat := none
  failed : Option Nat := none
  /-- A core path has stalled and the renewal of ACT_OUT with it (spec R391). -/
  stalled : Bool := false
  /-- HB_IN: its last edge, edge intervals below 150 ns in a row, whether it reads FAILED. -/
  hbAt : Option Nat := none
  hbShort : Nat := 0
  hbFailed : Bool := false
  /-- Each path judged lost; since when (`now`) the partner is judged. -/
  hbLost : Bool := false
  linkLost : Bool := false
  judgeFrom : Nat := 0
  /-- The last good HEARTBEAT with `now` and TT of its arrival. -/
  hb : Option (Heartbeat × Nat × Nat) := none
  /-- Results of the two-way method, newest first: DELTA_TT and the TT of the result; the last delay. -/
  deltas : List (Int × Nat) := []
  delay : Option Int := none
  /-- The last HOLD heard, and since when this device has been ACTIVE (`now`). -/
  holdAt : Option Nat := none
  activeAt : Option Nat := none
  /-- Announcements of the primary identity still due, and the take (`now`). -/
  annLeft : Nat := 0
  annAt : Nat := 0
  /-- The ember that streams, its next part and slot; the slot of the next one; the last boundary B(n) at which the device was ACTIVE. -/
  stream : Option Config.Ember := none
  streamOff : Nat := 0
  slot : Nat := 0
  lastB : Nat := 0
  /-- When the last HEARTBEAT left (`now`). -/
  sentAt : Option Nat := none
  /-- DEV_CMD SWAP: 0 none, 1 accepted, 2 its ember streams. -/
  swap : Nat := 0
  /-- Configuration entries (key, size) in the order recorded (spec R404). -/
  cfg : List (Nat × Nat) := []
  /-- The retention slots, the newest complete one, whether the area has shown an uncorrectable error. -/
  slots : Tab RetainX := []
  newest : Option Nat := none
  retError : Bool := false
  /-- The slow copy written since reset: when (`now`). The last STATUS frame heard: its reason (spec R417). -/
  slowAt : Option Nat := none
  stReason : Nat := 0
  statusAt : Nat := 0
  take : TakeX := {}
deriving DecidableEq, Repr
/-- The device: everything but the byte areas and the queue. -/
structure Dev where
  /-- Time since power-up, in 100 ps (log 1). -/
  now : Nat := 0
  /-- When TT was 0: at the end of the clocks phase of kindling (spec R107). -/
  ttZero : Option Nat := none
  /-- The object dictionary: values that differ from the reset values of `entryAt` (spec R29). -/
  regs : Tab Nat := []
  /-- Reserved bits that stand beside RO, RL and RC fields, as software wrote them (spec R8, R36, R37). -/
  rt : Tab Nat := []
  /-- Buffered writes that wait for a strobe (spec R45). -/
  shadow : Tab Nat := []
  /-- The apply index of the last strobe, and what it carried and did not apply, as captured (spec R52). -/
  lastApply : Nat := 0
  refused : Tab Nat := []
  /-- Values that samples before an apply index still use (spec R50). -/
  hist : List Old := []
  /-- Status of the last access (spec R62). -/
  status : Nat := 0
  /-- What the last access returned as data (spec R63). -/
  data : List Byte := []
  /-- How many free values have been used (log 2). -/
  freeCtr : Nat := 0
  /-- What the last command sent. -/
  out : List Out := []
  /-- What the present command does to the byte areas; empty between commands. -/
  memQ : List MemOp := []
  net : NetX := {}
  kindle : Kindle := {}
  jtag : JtagX := {}
  frame : Frame := {}
  time : TimeX := {}
  link : LinkX := {}
  cells : Tab CellX := []
  lanes : Tab LaneX := []
  arms : Tab ArmX := []
  legSum : LegSumX := {}
  spare : SpareX := {}
  damper : DamperX := {}
  acq : AcqX := {}
  meas : MeasX := {}
  kiln : KilnX := {}
  pwm : PwmUnitX := {}
  maint : MaintX := {}
  twin : TwinX := {}
deriving DecidableEq, Repr

/-- The block: its device, its byte areas and the commands that wait, first in, first out. -/
structure State where
  pending : List Instr := []
  mem : Memory := []
  dev : Dev := {}
deriving DecidableEq, Repr

/-- The block right after reset: PORESET_N low, every object at its reset value, nothing waiting (spec R6, R76, R96). -/
def State.reset : State := {}

end Sys2Proof.Machine
end

