-- ==== Sys2Proof/Machine/Mem.lean ====
section
/-!
DEFINITION. The byte areas of MRAM and SRAM that software reaches as bytes: one sparse list in canonical form
(addresses rise strictly, no listed byte is 0x00), and where the model lays the areas out (spec R26, R27; log 3).
-/
namespace Sys2Proof.Machine

/-- What an unlisted address reads as (log 3). -/
def Memory.empty : Byte := 0

/-- The canonical form: addresses rise strictly from `lo` on, and no entry equals what an unlisted address reads as. -/
def Memory.wfFrom (lo : Nat) : Memory → Bool
  | [] => true
  | (a, b) :: m => decide (lo ≤ a) && b != Memory.empty && Memory.wfFrom (a + 1) m

/-- The canonical form of a whole memory. -/
def Memory.wf (m : Memory) : Bool := Memory.wfFrom 0 m

/-- One byte. -/
def Memory.read : Memory → Nat → Byte
  | [], _ => Memory.empty
  | (k, b) :: m, a => if a = k then b else if a < k then Memory.empty else Memory.read m a

/-- A list whose first entry is `(a, b)`, unless `b` is what an unlisted address reads as. -/
def Memory.cons (a : Nat) (b : Byte) (m : Memory) : Memory := if b = Memory.empty then m else (a, b) :: m

/-- Store one byte. -/
def Memory.put : Memory → Nat → Byte → Memory
  | [], a, b => Memory.cons a b []
  | (k, c) :: m, a, b =>
    if a < k then Memory.cons a b ((k, c) :: m)
    else if a = k then Memory.cons a b m
    else (k, c) :: Memory.put m a b

/-- Store bytes from an address on. -/
def Memory.write (m : Memory) (a : Nat) : List Byte → Memory
  | [] => m
  | b :: bs => Memory.write (Memory.put m a b) (a + 1) bs

/-- Make a range read as unlisted. -/
def Memory.clear (m : Memory) (a len : Nat) : Memory :=
  m.filter (fun c => decide (c.1 < a) || decide (a + len ≤ c.1))

/-- `n` bytes from an address on. -/
def Memory.bytes (m : Memory) (a : Nat) : Nat → List Byte
  | 0 => []
  | n + 1 => m.read a :: Memory.bytes m (a + 1) n

/-- What one command asks of the byte areas. -/
def Memory.apply1 (m : Memory) : MemOp → Memory
  | .write a bs => m.write a bs
  | .clear a len => m.clear a len

/-- What one command asks of the byte areas, in order. -/
def Memory.apply (m : Memory) (ops : List MemOp) : Memory := ops.foldl Memory.apply1 m

/-- Image slots A and B (1,572,864 bytes each), slow ember copy and fault log: the 4 MiB of MRAM (spec R27). -/
def Mem.image (slot : Nat) : Nat := slot * 0x180000
def Mem.imageSize : Nat := 1572864
def Mem.slow : Nat := 0x300000
def Mem.slowSize : Nat := 524288
def Mem.log : Nat := 0x380000
def Mem.logSize : Nat := 262144
/-- Acquisition 12 MiB, ash 1 MiB, scheduling trace 256 KiB, the lookup tables in force and pending, the mailbox, the
ember retention area: SRAM (spec R26). -/
def Mem.acq : Nat := 0x1000000
def Mem.acqSize : Nat := 12582912
def Mem.ash : Nat := 0x2000000
def Mem.ashSize : Nat := 1048576
def Mem.trace : Nat := 0x3000000
def Mem.traceSize : Nat := 262144
def Mem.lookup (n : Nat) : Nat := 0x4000000 + 1024 * n
def Mem.lookupPending (n : Nat) : Nat := 0x4100000 + 1024 * n
def Mem.mailbox : Nat := 0x5000000
def Mem.response : Nat := 0x5000100
def Mem.ember (slot : Nat) : Nat := 0x6000000 + 0x40000 * slot
/-- Where MRAM ends and SRAM begins in this layout. -/
def Mem.mramEnd : Nat := 0x400000

end Sys2Proof.Machine
end

