-- ==== Sys2Proof/Machine/Entry.lean ====
section
/-!
DEFINITION. One row of the object dictionary: type, access, commit column, lock domain, admissible values and reset
value (spec R6, R7, R29, R30, R40).
-/
namespace Sys2Proof.Machine

/-- The data types of spec R30, with the size held apart: unsigned, two's complement, BOOLEAN, REAL32, DOMAIN, string. -/
inductive Ty where
  | u | i | b | f | dom | str
deriving DecidableEq, Repr

/-- The access codes of spec R6. -/
inductive Acc where
  | rw | ro | rl | rc | wp | lk | rt | ct
deriving DecidableEq, Repr

/-- The Commit column (spec R7): —, I, B. -/
inductive Com where
  | none | imm | buf
deriving DecidableEq, Repr

/-- The lock domains of spec R40, by their bit. -/
inductive LockDom where
  | prot | turf | safety | twinRole | armMap
deriving DecidableEq, Repr

/-- The bit of a lock domain in 0x2008 (spec R40). -/
def LockDom.bit : LockDom → Nat
  | .prot => 0
  | .turf => 1
  | .safety => 2
  | .twinRole => 3
  | .armMap => 4

/-- The values a write may carry; anything else returns RANGE. -/
inductive Chk where
  /-- Every value of the type. -/
  | any
  /-- Unsigned, from `lo` to `hi`. -/
  | rng (lo hi : Nat)
  /-- Two's complement, from `lo` to `hi`. -/
  | srng (lo hi : Int)
  /-- REAL32, from `lo` to `hi`, given as bits. -/
  | frng (lo hi : Nat)
  /-- Finite REAL32. -/
  | fin
  /-- Finite REAL32 above 0.0. -/
  | fpos
  /-- 0, or from `lo` to `hi`. -/
  | zeroOr (lo hi : Nat)
  /-- From `lo` to `hi`, or 0xFF. -/
  | orFF (lo hi : Nat)
  /-- One of the listed values. -/
  | among (l : List Nat)
  /-- Bits [3:0] at most `hi` (spec R104, R105). -/
  | nib (hi : Nat)
  /-- 0.0, or 1.0E-4 to 1.0 (spec R296). -/
  | cEst
  /-- START_SRC (spec R214): which codes depends on the converter. -/
  | startSrc
  /-- URGENT_SRC: 0 or a code of spec R214 other than GRID, CV12–CV17 (spec R217). -/
  | urgentSrc
  /-- Threshold converter: 0–17, no odd number below 12 (spec R443). -/
  | thrCv
  /-- Ash source (spec R436). -/
  | ashSrc
  /-- Event counter source (spec R440). -/
  | ecSrc
  /-- MULT of a rate group: RG0 is read-only 1 (spec R338). -/
  | mult
  /-- GROUPS: each byte 0 or 1–127 (spec R295). -/
  | groups
deriving DecidableEq, Repr

/-- Reset values: a constant, or a rule over the object's number `n` and the sub-entry's number `i`. -/
inductive Dflt where
  | c (v : Nat)
  | serial | macBase | commitMap | ain | nMod2 | nDiv2 | nth | mult | coreState | bitN | sinkValue
  | react | severeReact | countN | window | armMask | trip
deriving DecidableEq, Repr

/-- One row of an object table: index range, subindex range, type, size in bytes (0 for a DOMAIN), access, commit
column, lock domain, admissible values, reset value. -/
structure Entry where
  lo : Nat
  hi : Nat
  sub : Nat
  subHi : Nat
  ty : Ty
  size : Nat
  acc : Acc
  com : Com
  lock : Option LockDom
  chk : Chk
  dflt : Dflt
deriving DecidableEq, Repr

/-- The start-source codes of spec R214 other than GRID. -/
def isEventSrc (v : Nat) : Bool :=
  (0x10 ≤ v && v ≤ 0x1F) || (0x20 ≤ v && v ≤ 0x25) || (0x28 ≤ v && v ≤ 0x2D)

/-- The ash source codes of spec R436. -/
def isAshSrc (v : Nat) : Bool :=
  v ≤ 0x11 ||
  (0x200 ≤ v && v ≤ 0x25F && v % 16 ≤ 7) ||
  (0x300 ≤ v && v ≤ 0x35F && v % 16 ≤ 5) ||
  (0x400 ≤ v && v ≤ 0x417) || v == 0x500 || v == 0x501 || v == 0x510 || v == 0x600

/-- The event-counter source codes of spec R440. -/
def isEcSrc (v : Nat) : Bool := v ≤ 0x1C7 && v != 0x17E && v != 0x17F

/-- Whether a value may be written to sub-entry number `i` of object number `n` (spec R62: otherwise RANGE). -/
def Chk.ok (c : Chk) (size n _i v : Nat) : Bool :=
  let x : F32 := BitVec.ofNat 32 v
  match c with
  | .any => true
  | .rng lo hi => lo ≤ v && v ≤ hi
  | .srng lo hi => decide (lo ≤ toSigned (8 * size) v) && decide (toSigned (8 * size) v ≤ hi)
  | .frng lo hi => F32.isFinite x && F32.le (BitVec.ofNat 32 lo) x && F32.le x (BitVec.ofNat 32 hi)
  | .fin => F32.isFinite x
  | .fpos => F32.isFinite x && F32.lt F32.zero x
  | .zeroOr lo hi => v == 0 || (lo ≤ v && v ≤ hi)
  | .orFF lo hi => v == 0xFF || (lo ≤ v && v ≤ hi)
  | .among l => l.contains v
  | .nib hi => v % 16 ≤ hi
  | .cEst => F32.isZero x || (F32.isFinite x && F32.le 0x38D1B717#32 x && F32.le x F32.one)
  | .startSrc => v == 0 || (12 ≤ n && isEventSrc v)
  | .urgentSrc => v == 0 || (12 ≤ n && isEventSrc v)
  | .thrCv => v ≤ 17 && !(v < 12 && v % 2 == 1)
  | .ashSrc => isAshSrc v
  | .ecSrc => isEcSrc v
  | .mult => 1 ≤ n && 2 ≤ v && v ≤ 1000
  | .groups => (leBytes 8 v).all (fun b => decide (b.toNat ≤ 127))

/-- Reactions of the damper as their codes 0–6 (spec R362). -/
abbrev LOG : Nat := 0
abbrev ALARM : Nat := 1
abbrev ARM_HOLD : Nat := 2
abbrev ARM_BLOCK : Nat := 3
abbrev CONVERTER_BLOCK : Nat := 4
abbrev TAKEOVER_REQUEST : Nat := 5
abbrev SAFE_REACTION : Nat := 6

/-- One row of the default classification (spec R371): REACT, SEVERE_REACT, COUNT_N, WINDOW, ARM_MASK, TRIP. -/
structure Classing where
  react : Nat
  severe : Nat
  countN : Nat
  window : Nat
  armMask : Nat
  trip : Nat
deriving DecidableEq, Repr

/-- `n` lies in one of the ranges. -/
def inRanges (n : Nat) (l : List (Nat × Nat)) : Bool := l.any (fun r => decide (r.1 ≤ n) && decide (n ≤ r.2))

/-- The sources that no chapter defines. -/
def reservedSources : List (Nat × Nat) :=
  [(24, 30), (42, 47), (59, 62), (73, 78), (97, 103), (126, 142), (157, 158), (171, 190), (200, 206), (219, 222),
   (226, 226), (228, 236)]

/-- The sources of the LOG row of spec R371. -/
def logSources : List (Nat × Nat) :=
  [(38, 38), (51, 51), (53, 53), (56, 57), (69, 70), (96, 96), (121, 121), (124, 125), (150, 151), (156, 156),
   (166, 168), (227, 227), (240, 240), (243, 243), (251, 251)]

/-- The sources of the TAKEOVER_REQUEST row of spec R371 with ARM_MASK 0x3F. -/
def takeoverSources : List (Nat × Nat) := [(14, 16), (19, 20), (35, 35), (64, 66), (241, 241)]

/-- The default classification of a source (spec R371). -/
def classing (f : Nat) : Classing :=
  if inRanges f reservedSources then ⟨LOG, LOG, 1, 10, 0x00, 0⟩
  else if f ≤ 5 then ⟨TAKEOVER_REQUEST, TAKEOVER_REQUEST, 1, 10, 0x80, 0⟩
  else if f ≤ 12 || f == 153 then ⟨ARM_HOLD, ARM_HOLD, 1, 10, 0x80, 0⟩
  else if inRanges f takeoverSources then ⟨TAKEOVER_REQUEST, TAKEOVER_REQUEST, 1, 10, 0x3F, 0⟩
  else if f == 18 then ⟨SAFE_REACTION, SAFE_REACTION, 1, 10, 0x3F, 1⟩
  else if f == 21 then ⟨ALARM, TAKEOVER_REQUEST, 2, 1000000, 0x3F, 0⟩
  else if inRanges f [(80, 91), (95, 95), (237, 237), (119, 119)] then ⟨CONVERTER_BLOCK, CONVERTER_BLOCK, 1, 10, 0x3F, 0⟩
  else if f == 238 then ⟨CONVERTER_BLOCK, CONVERTER_BLOCK, 1, 10, 0x3F, 1⟩
  else if f == 49 then ⟨ALARM, ALARM, 1, 10, 0x3F, 1⟩
  else if inRanges f [(112, 117)] then ⟨ALARM, ARM_BLOCK, 3, 1000000, 0x80, 0⟩
  else if f == 120 || f == 155 then ⟨ARM_BLOCK, ARM_BLOCK, 1, 10, 0x80, 0⟩
  else if inRanges f [(144, 149)] then ⟨ALARM, ALARM, 1, 10, 0x80, 0⟩
  else if f == 160 then ⟨ALARM, CONVERTER_BLOCK, 3, 1000, 0x3F, 0⟩
  else if f == 164 then ⟨ALARM, TAKEOVER_REQUEST, 2, 10000000, 0x3F, 0⟩
  else if inRanges f logSources then ⟨LOG, LOG, 1, 10, 0x3F, 0⟩
  else ⟨ALARM, ALARM, 1, 10, 0x3F, 0⟩

/-- The reset value of sub-entry number `i` of object number `n`. -/
def Dflt.value (d : Dflt) (n i : Nat) : Nat :=
  match d with
  | .c v => v
  | .serial => Config.serial.toNat
  | .macBase => Config.macBase.toNat
  | .commitMap => if i == 7 then 7 else if i ≥ 8 then 0 else i
  | .ain => if n < 12 then n / 2 else n - 6
  | .nMod2 => n % 2
  | .nDiv2 => n / 2
  | .nth => n
  | .mult => 10 ^ n
  | .coreState => if i < 16 then 0 else 1
  | .bitN => 2 ^ n
  | .sinkValue => if i % 7 == 6 && i < 42 then 0x3F000000 else 0
  | .react => (classing n).react
  | .severeReact => (classing n).severe
  | .countN => (classing n).countN
  | .window => (classing n).window
  | .armMask => (classing n).armMask
  | .trip => (classing n).trip

end Sys2Proof.Machine
end

