-- ==== Sys2Proof/Machine/ObjTable.lean ====
section
/-!
DEFINITION. The object dictionary: one row for each row of the object tables of the chapters, with its index range,
subindex range, type, size, access, commit column, lock domain, admissible values and default (spec R29–R33, R6, R7).
-/
namespace Sys2Proof.Machine

/-- 0x1000 (spec R34). -/
def objDEVTYPE : List Entry :=
  [
    ⟨0x1000, 0x1000, 0x00, 0x00, .u, 4, .ro, .none, none, .any, .c 0x00000C00⟩]

/-- 0x1001 (spec R34). -/
def objERRSUM : List Entry :=
  [
    ⟨0x1001, 0x1001, 0x00, 0x00, .u, 1, .rc, .none, none, .any, .c 0x00⟩]

/-- 0x1008 (spec R34). -/
def objDEVNAME : List Entry :=
  [
    ⟨0x1008, 0x1008, 0x00, 0x00, .str, 6, .ro, .none, none, .any, .c 0⟩]

/-- 0x1018 (spec R34). -/
def objIDENT : List Entry :=
  [
    ⟨0x1018, 0x1018, 0x00, 0x00, .u, 1, .ro, .none, none, .any, .c 0x04⟩,
    ⟨0x1018, 0x1018, 0x01, 0x01, .u, 4, .ro, .none, none, .any, .c 0x484F4C54⟩,
    ⟨0x1018, 0x1018, 0x02, 0x02, .u, 4, .ro, .none, none, .any, .c 0x00003072⟩,
    ⟨0x1018, 0x1018, 0x03, 0x03, .u, 4, .ro, .none, none, .any, .c 0x000000B0⟩,
    ⟨0x1018, 0x1018, 0x04, 0x04, .u, 4, .ro, .none, none, .any, .serial⟩]

/-- 0x1100 (spec R72). -/
def objNET : List Entry :=
  [
    ⟨0x1100, 0x1100, 0x00, 0x00, .u, 1, .ro, .none, none, .any, .c 8⟩,
    ⟨0x1100, 0x1100, 0x01, 0x01, .u, 1, .rw, .buf, none, (.rng 0 1), .c 0⟩,
    ⟨0x1100, 0x1100, 0x02, 0x02, .u, 1, .rw, .buf, none, (.rng 0 1), .c 0⟩,
    ⟨0x1100, 0x1100, 0x03, 0x03, .u, 1, .rw, .buf, none, (.rng 0 1), .c 0⟩,
    ⟨0x1100, 0x1100, 0x04, 0x04, .b, 1, .rw, .buf, none, .any, .c 0x01⟩,
    ⟨0x1100, 0x1100, 0x05, 0x05, .b, 1, .rw, .buf, none, .any, .c 0x01⟩,
    ⟨0x1100, 0x1100, 0x06, 0x06, .u, 8, .ro, .none, none, .any, .macBase⟩,
    ⟨0x1100, 0x1100, 0x07, 0x07, .u, 2, .rw, .buf, none, .any, .c 2000⟩,
    ⟨0x1100, 0x1100, 0x08, 0x08, .u, 2, .rw, .buf, none, .any, .c 400⟩]

/-- 0x1101–0x1102 (spec R72). -/
def objNETP : List Entry :=
  [
    ⟨0x1101, 0x1102, 0x00, 0x00, .u, 1, .ro, .none, none, .any, .c 6⟩,
    ⟨0x1101, 0x1102, 0x01, 0x01, .b, 1, .rl, .none, none, .any, .c 0x00⟩,
    ⟨0x1101, 0x1102, 0x02, 0x02, .u, 8, .ct, .none, none, .any, .c 0⟩,
    ⟨0x1101, 0x1102, 0x03, 0x03, .u, 8, .ct, .none, none, .any, .c 0⟩,
    ⟨0x1101, 0x1102, 0x04, 0x04, .u, 4, .ct, .none, none, .any, .c 0⟩,
    ⟨0x1101, 0x1102, 0x05, 0x05, .u, 4, .ct, .none, none, .any, .c 0⟩,
    ⟨0x1101, 0x1102, 0x06, 0x06, .u, 8, .ct, .none, none, .any, .c 0⟩]

/-- 0x1110–0x1111 (spec R72). -/
def objV4 : List Entry :=
  [
    ⟨0x1110, 0x1111, 0x00, 0x00, .u, 1, .ro, .none, none, .any, .c 4⟩,
    ⟨0x1110, 0x1111, 0x01, 0x01, .b, 1, .rw, .buf, none, .any, .c 0x00⟩,
    ⟨0x1110, 0x1111, 0x02, 0x02, .u, 4, .rw, .buf, none, .any, .c 0⟩,
    ⟨0x1110, 0x1111, 0x03, 0x03, .u, 1, .rw, .buf, none, (.rng 0 32), .c 24⟩,
    ⟨0x1110, 0x1111, 0x04, 0x04, .u, 4, .rw, .buf, none, .any, .c 0⟩]

/-- 0x1112–0x1113 (spec R72). -/
def objV6 : List Entry :=
  [
    ⟨0x1112, 0x1113, 0x00, 0x00, .u, 1, .ro, .none, none, .any, .c 6⟩,
    ⟨0x1112, 0x1113, 0x01, 0x01, .b, 1, .rw, .buf, none, .any, .c 0x00⟩,
    ⟨0x1112, 0x1113, 0x02, 0x02, .u, 8, .rw, .buf, none, .any, .c 0⟩,
    ⟨0x1112, 0x1113, 0x03, 0x03, .u, 8, .rw, .buf, none, .any, .c 0⟩,
    ⟨0x1112, 0x1113, 0x04, 0x04, .u, 1, .rw, .buf, none, (.rng 0 128), .c 64⟩,
    ⟨0x1112, 0x1113, 0x05, 0x05, .u, 8, .rw, .buf, none, .any, .c 0⟩,
    ⟨0x1112, 0x1113, 0x06, 0x06, .u, 8, .rw, .buf, none, .any, .c 0⟩]

/-- 0x1114 (spec R72). -/
def objCONVIP : List Entry :=
  [
    ⟨0x1114, 0x1114, 0x00, 0x00, .u, 1, .ro, .none, none, .any, .c 6⟩,
    ⟨0x1114, 0x1114, 0x01, 0x01, .b, 1, .rw, .buf, none, .any, .c 0⟩,
    ⟨0x1114, 0x1114, 0x02, 0x02, .u, 4, .rw, .buf, none, .any, .c 0⟩,
    ⟨0x1114, 0x1114, 0x03, 0x03, .u, 1, .rw, .buf, none, (.rng 0 32), .c 0⟩,
    ⟨0x1114, 0x1114, 0x04, 0x04, .b, 1, .rw, .buf, none, .any, .c 0⟩,
    ⟨0x1114, 0x1114, 0x05, 0x05, .u, 8, .rw, .buf, none, .any, .c 0⟩,
    ⟨0x1114, 0x1114, 0x06, 0x06, .u, 8, .rw, .buf, none, .any, .c 0⟩]

/-- 0x1120 (spec R72). -/
def objIOP : List Entry :=
  [
    ⟨0x1120, 0x1120, 0x00, 0x00, .u, 1, .ro, .none, none, .any, .c 6⟩,
    ⟨0x1120, 0x1120, 0x01, 0x01, .u, 2, .rw, .buf, none, .any, .c 51744⟩,
    ⟨0x1120, 0x1120, 0x02, 0x02, .u, 2, .rw, .buf, none, (.rng 10 10000), .c 1000⟩,
    ⟨0x1120, 0x1120, 0x03, 0x03, .u, 4, .rw, .buf, none, (.rng 100 1000000), .c 1000⟩,
    ⟨0x1120, 0x1120, 0x04, 0x04, .b, 1, .rw, .buf, none, .any, .c 0x00⟩,
    ⟨0x1120, 0x1120, 0x05, 0x05, .u, 4, .ct, .none, none, .any, .c 0⟩,
    ⟨0x1120, 0x1120, 0x06, 0x06, .u, 4, .ct, .none, none, .any, .c 0⟩]

/-- 0x1121–0x1122 (spec R72). -/
def objNDEST : List Entry :=
  [
    ⟨0x1121, 0x1122, 0x00, 0x00, .u, 1, .ro, .none, none, .any, .c 5⟩,
    ⟨0x1121, 0x1122, 0x01, 0x01, .b, 1, .rw, .buf, none, .any, .c 0x00⟩,
    ⟨0x1121, 0x1122, 0x02, 0x02, .u, 1, .rw, .buf, none, (.among [4, 6]), .c 4⟩,
    ⟨0x1121, 0x1122, 0x03, 0x03, .u, 8, .rw, .buf, none, .any, .c 0⟩,
    ⟨0x1121, 0x1122, 0x04, 0x04, .u, 8, .rw, .buf, none, .any, .c 0⟩,
    ⟨0x1121, 0x1122, 0x05, 0x05, .u, 2, .rw, .buf, none, .any, .c 51744⟩]

/-- 0x1130–0x113F (spec R65). -/
def objALLOW : List Entry :=
  [
    ⟨0x1130, 0x113F, 0x00, 0x00, .u, 1, .ro, .none, none, .any, .c 0x05⟩,
    ⟨0x1130, 0x113F, 0x01, 0x01, .b, 1, .rw, .buf, none, .any, .c 0x00⟩,
    ⟨0x1130, 0x113F, 0x02, 0x02, .u, 1, .rw, .buf, none, (.among [4, 6]), .c 4⟩,
    ⟨0x1130, 0x113F, 0x03, 0x03, .u, 1, .rw, .buf, none, (.rng 0 128), .c 32⟩,
    ⟨0x1130, 0x113F, 0x04, 0x04, .u, 8, .rw, .buf, none, .any, .c 0⟩,
    ⟨0x1130, 0x113F, 0x05, 0x05, .u, 8, .rw, .buf, none, .any, .c 0⟩]

/-- 0x2000 (spec R34). -/
def objDEV : List Entry :=
  [
    ⟨0x2000, 0x2000, 0x00, 0x00, .u, 1, .ro, .none, none, .any, .c 2⟩,
    ⟨0x2000, 0x2000, 0x01, 0x01, .u, 1, .rl, .none, none, .any, .c 0x00⟩,
    ⟨0x2000, 0x2000, 0x02, 0x02, .u, 1, .rl, .none, none, .any, .c 0x00⟩]

/-- 0x2001 (spec R34). -/
def objDEVCMD : List Entry :=
  [
    ⟨0x2001, 0x2001, 0x00, 0x00, .u, 1, .wp, .imm, none, .any, .c 0x00⟩]

/-- 0x2002 (spec R48). -/
def objCOMMIT : List Entry :=
  [
    ⟨0x2002, 0x2002, 0x00, 0x00, .u, 1, .ro, .none, none, .any, .c 0x17⟩,
    ⟨0x2002, 0x2002, 0x01, 0x01, .u, 1, .wp, .imm, none, .any, .c 0x00⟩,
    ⟨0x2002, 0x2002, 0x02, 0x02, .u, 1, .rl, .none, none, .any, .c 0x00⟩,
    ⟨0x2002, 0x2002, 0x03, 0x03, .u, 1, .rw, .imm, none, .any, .c 0x00⟩,
    ⟨0x2002, 0x2002, 0x04, 0x04, .u, 1, .rw, .imm, none, .any, .c 0x00⟩,
    ⟨0x2002, 0x2002, 0x05, 0x05, .u, 1, .rw, .imm, none, (.rng 0 2), .c 0x00⟩,
    ⟨0x2002, 0x2002, 0x06, 0x06, .u, 1, .rw, .imm, none, .any, .c 0x00⟩,
    ⟨0x2002, 0x2002, 0x07, 0x07, .u, 8, .rw, .imm, none, .any, .c 0⟩,
    ⟨0x2002, 0x2002, 0x08, 0x08, .u, 1, .wp, .imm, none, .any, .c 0x00⟩,
    ⟨0x2002, 0x2002, 0x09, 0x09, .b, 1, .rl, .none, none, .any, .c 0x00⟩,
    ⟨0x2002, 0x2002, 0x10, 0x17, .u, 8, .rl, .none, none, .any, .c 0⟩]

/-- 0x2003 (spec R46). -/
def objCMAP : List Entry :=
  [
    ⟨0x2003, 0x2003, 0x00, 0x00, .u, 1, .ro, .none, none, .any, .c 0x0A⟩,
    ⟨0x2003, 0x2003, 0x01, 0x0A, .u, 1, .rw, .imm, some .armMap, (.rng 0 7), .commitMap⟩]

/-- 0x2004 (spec R53). -/
def objUNITSUM : List Entry :=
  [
    ⟨0x2004, 0x2004, 0x00, 0x00, .u, 4, .rc, .none, none, .any, .c 0⟩]

/-- 0x2005 (spec R56). -/
def objSUMCTL : List Entry :=
  [
    ⟨0x2005, 0x2005, 0x00, 0x00, .u, 1, .ro, .none, none, .any, .c 0x02⟩,
    ⟨0x2005, 0x2005, 0x01, 0x01, .u, 1, .rw, .imm, none, .any, .c 0xFF⟩,
    ⟨0x2005, 0x2005, 0x02, 0x02, .u, 4, .rw, .imm, none, .any, .c 0x00001FFF⟩]

/-- 0x2006 (spec R44). -/
def objREGST : List Entry :=
  [
    ⟨0x2006, 0x2006, 0x00, 0x00, .u, 1, .ro, .none, none, .any, .c 0x08⟩,
    ⟨0x2006, 0x2006, 0x01, 0x01, .u, 1, .rl, .none, none, .any, .c 0x00⟩,
    ⟨0x2006, 0x2006, 0x02, 0x02, .u, 1, .wp, .imm, none, .any, .c 0x00⟩,
    ⟨0x2006, 0x2006, 0x03, 0x03, .u, 1, .rt, .none, none, .any, .c 0x00⟩,
    ⟨0x2006, 0x2006, 0x04, 0x04, .u, 1, .rt, .none, none, .any, .c 0x00⟩,
    ⟨0x2006, 0x2006, 0x05, 0x05, .u, 4, .rl, .none, none, .any, .c 0x00000000⟩,
    ⟨0x2006, 0x2006, 0x06, 0x06, .u, 4, .ct, .none, none, .any, .c 0⟩,
    ⟨0x2006, 0x2006, 0x07, 0x07, .u, 4, .ct, .none, none, .any, .c 0⟩,
    ⟨0x2006, 0x2006, 0x08, 0x08, .u, 4, .ct, .none, none, .any, .c 0⟩]

/-- 0x2008 (spec R40). -/
def objLOCK : List Entry :=
  [
    ⟨0x2008, 0x2008, 0x00, 0x00, .u, 1, .lk, .imm, none, .any, .c 0⟩]

/-- 0x2009 (spec R91). -/
def objKINDLE : List Entry :=
  [
    ⟨0x2009, 0x2009, 0x00, 0x00, .u, 1, .ro, .none, none, .any, .c 0x0C⟩,
    ⟨0x2009, 0x2009, 0x01, 0x01, .u, 1, .ro, .none, none, .any, .c 0⟩,
    ⟨0x2009, 0x2009, 0x02, 0x02, .u, 1, .rl, .none, none, .any, .c 0x00⟩,
    ⟨0x2009, 0x2009, 0x03, 0x03, .u, 1, .ro, .none, none, .any, .c 0x00⟩,
    ⟨0x2009, 0x2009, 0x04, 0x04, .u, 4, .ro, .none, none, .any, .c 0⟩,
    ⟨0x2009, 0x2009, 0x05, 0x05, .u, 1, .rl, .none, none, .any, .c 0x06⟩,
    ⟨0x2009, 0x2009, 0x06, 0x06, .u, 1, .rl, .none, none, .any, .c 0x06⟩,
    ⟨0x2009, 0x2009, 0x07, 0x07, .u, 1, .rl, .none, none, .any, .c 0x06⟩,
    ⟨0x2009, 0x2009, 0x08, 0x08, .u, 4, .ro, .none, none, .any, .c 0⟩,
    ⟨0x2009, 0x2009, 0x09, 0x09, .u, 2, .ro, .none, none, .any, .c 0x0000⟩,
    ⟨0x2009, 0x2009, 0x0A, 0x0A, .u, 2, .ro, .none, none, .any, .c 0⟩,
    ⟨0x2009, 0x2009, 0x0B, 0x0B, .u, 4, .ro, .none, none, .any, .c 0⟩,
    ⟨0x2009, 0x2009, 0x0C, 0x0C, .u, 1, .ro, .none, none, .any, .c 0x00⟩]

/-- 0x200A (spec R93). -/
def objIMAGE : List Entry :=
  [
    ⟨0x200A, 0x200A, 0x00, 0x00, .u, 1, .ro, .none, none, .any, .c 0x04⟩,
    ⟨0x200A, 0x200A, 0x01, 0x01, .dom, 0, .rw, .imm, none, .any, .c 0⟩,
    ⟨0x200A, 0x200A, 0x02, 0x02, .u, 1, .ro, .none, none, .any, .c 1⟩,
    ⟨0x200A, 0x200A, 0x03, 0x03, .u, 1, .wp, .imm, none, .any, .c 0x00⟩,
    ⟨0x200A, 0x200A, 0x04, 0x04, .u, 1, .wp, .imm, none, .any, .c 0x00⟩]

/-- 0x200B (spec R103). -/
def objSTN : List Entry :=
  [
    ⟨0x200B, 0x200B, 0x00, 0x00, .u, 1, .ro, .none, none, .any, .c 0x1F⟩,
    ⟨0x200B, 0x200B, 0x01, 0x08, .u, 1, .rw, .buf, none, (.nib 6), .c 0x00⟩,
    ⟨0x200B, 0x200B, 0x09, 0x10, .u, 2, .rw, .buf, none, (.rng 0 1000), .c 10⟩,
    ⟨0x200B, 0x200B, 0x11, 0x18, .u, 1, .rw, .buf, none, (.nib 5), .c 0x00⟩,
    ⟨0x200B, 0x200B, 0x19, 0x19, .u, 1, .rl, .none, none, .any, .c 0x00⟩,
    ⟨0x200B, 0x200B, 0x1A, 0x1A, .u, 1, .rl, .none, none, .any, .c 0x00⟩,
    ⟨0x200B, 0x200B, 0x1B, 0x1B, .u, 4, .rw, .buf, none, (.rng 1000 1000000), .c 100000⟩,
    ⟨0x200B, 0x200B, 0x1C, 0x1C, .u, 1, .wp, .imm, none, .any, .c 0x00⟩,
    ⟨0x200B, 0x200B, 0x1D, 0x1D, .b, 1, .rl, .none, none, .any, .c 0x00⟩,
    ⟨0x200B, 0x200B, 0x1E, 0x1E, .u, 1, .rl, .none, none, .any, .c 0x00⟩,
    ⟨0x200B, 0x200B, 0x1F, 0x1F, .u, 1, .wp, .imm, none, .any, .c 0x00⟩]

/-- 0x2100 (spec R112). -/
def objTB : List Entry :=
  [
    ⟨0x2100, 0x2100, 0x00, 0x00, .u, 1, .ro, .none, none, .any, .c 0x0D⟩,
    ⟨0x2100, 0x2100, 0x01, 0x01, .u, 8, .ro, .none, none, .any, .c 0⟩,
    ⟨0x2100, 0x2100, 0x02, 0x02, .i, 4, .rw, .imm, none, (.srng (-219902325) 219902325), .c 0⟩,
    ⟨0x2100, 0x2100, 0x03, 0x03, .i, 8, .rw, .imm, none, .any, .c 0⟩,
    ⟨0x2100, 0x2100, 0x04, 0x04, .u, 8, .rw, .imm, none, .any, .c 0⟩,
    ⟨0x2100, 0x2100, 0x05, 0x05, .u, 1, .wp, .imm, none, .any, .c 0x00⟩,
    ⟨0x2100, 0x2100, 0x06, 0x06, .u, 8, .ro, .none, none, .any, .c 0⟩,
    ⟨0x2100, 0x2100, 0x07, 0x07, .u, 8, .ro, .none, none, .any, .c 0⟩,
    ⟨0x2100, 0x2100, 0x08, 0x08, .u, 8, .ro, .none, none, .any, .c 0⟩,
    ⟨0x2100, 0x2100, 0x09, 0x09, .i, 4, .ro, .none, none, .any, .c 0⟩,
    ⟨0x2100, 0x2100, 0x0A, 0x0A, .u, 2, .rl, .none, none, .any, .c 0x0000⟩,
    ⟨0x2100, 0x2100, 0x0B, 0x0B, .u, 2, .wp, .imm, none, .any, .c 0x0000⟩,
    ⟨0x2100, 0x2100, 0x0C, 0x0C, .u, 4, .ct, .none, none, .any, .c 0⟩,
    ⟨0x2100, 0x2100, 0x0D, 0x0D, .u, 4, .ct, .none, none, .any, .c 0⟩]

/-- 0x2101 (spec R113). -/
def objCONVT : List Entry :=
  [
    ⟨0x2101, 0x2101, 0x00, 0x00, .u, 1, .ro, .none, none, .any, .c 0x05⟩,
    ⟨0x2101, 0x2101, 0x01, 0x01, .u, 8, .rw, .imm, none, .any, .c 0⟩,
    ⟨0x2101, 0x2101, 0x02, 0x02, .u, 8, .rw, .imm, none, (.rng 0 9999999999), .c 0⟩,
    ⟨0x2101, 0x2101, 0x03, 0x03, .u, 1, .wp, .imm, none, .any, .c 0x00⟩,
    ⟨0x2101, 0x2101, 0x04, 0x04, .u, 8, .ro, .none, none, .any, .c 0⟩,
    ⟨0x2101, 0x2101, 0x05, 0x05, .u, 1, .ro, .none, none, .any, .c 0x00⟩]

/-- 0x2102 (spec R117). -/
def objSERVO : List Entry :=
  [
    ⟨0x2102, 0x2102, 0x00, 0x00, .u, 1, .ro, .none, none, .any, .c 0x0F⟩,
    ⟨0x2102, 0x2102, 0x01, 0x01, .b, 1, .rw, .buf, none, .any, .c 0x00⟩,
    ⟨0x2102, 0x2102, 0x02, 0x02, .u, 1, .rw, .buf, none, (.rng 0 1), .c 0⟩,
    ⟨0x2102, 0x2102, 0x03, 0x03, .f, 4, .rw, .buf, none, (.frng 0x0 0x40800000), .c 0x3F000000⟩,
    ⟨0x2102, 0x2102, 0x04, 0x04, .f, 4, .rw, .buf, none, (.frng 0x0 0x3F800000), .c 0x3D800000⟩,
    ⟨0x2102, 0x2102, 0x05, 0x05, .u, 1, .rw, .buf, none, (.rng 0 2), .c 1⟩,
    ⟨0x2102, 0x2102, 0x06, 0x06, .u, 4, .rw, .buf, none, (.rng 100 1000000000), .c 1000⟩,
    ⟨0x2102, 0x2102, 0x07, 0x07, .u, 4, .rw, .buf, none, (.rng 1000 200000), .c 100000⟩,
    ⟨0x2102, 0x2102, 0x08, 0x08, .u, 4, .rw, .buf, none, (.rng 1 1000000), .c 100⟩,
    ⟨0x2102, 0x2102, 0x09, 0x09, .u, 1, .rw, .buf, none, (.rng 1 255), .c 4⟩,
    ⟨0x2102, 0x2102, 0x0A, 0x0A, .u, 4, .rw, .buf, none, .any, .c 1000⟩,
    ⟨0x2102, 0x2102, 0x0B, 0x0B, .u, 1, .rl, .none, none, .any, .c 0⟩,
    ⟨0x2102, 0x2102, 0x0C, 0x0C, .i, 4, .ro, .none, none, .any, .c 0⟩,
    ⟨0x2102, 0x2102, 0x0D, 0x0D, .u, 4, .ro, .none, none, .any, .c 0⟩,
    ⟨0x2102, 0x2102, 0x0E, 0x0E, .u, 8, .ro, .none, none, .any, .c 0⟩,
    ⟨0x2102, 0x2102, 0x0F, 0x0F, .i, 8, .ro, .none, none, .any, .c 0⟩]

/-- 0x2103 (spec R121). -/
def objPTP : List Entry :=
  [
    ⟨0x2103, 0x2103, 0x00, 0x00, .u, 1, .ro, .none, none, .any, .c 0x0D⟩,
    ⟨0x2103, 0x2103, 0x01, 0x01, .u, 1, .rw, .buf, none, .any, .c 0⟩,
    ⟨0x2103, 0x2103, 0x02, 0x02, .u, 1, .rw, .buf, none, .any, .c 0x03⟩,
    ⟨0x2103, 0x2103, 0x03, 0x03, .b, 1, .rw, .buf, none, .any, .c 0x00⟩,
    ⟨0x2103, 0x2103, 0x04, 0x04, .u, 2, .rw, .buf, none, (.rng 0 4094), .c 0⟩,
    ⟨0x2103, 0x2103, 0x05, 0x05, .u, 1, .rw, .buf, none, (.rng 0 7), .c 4⟩,
    ⟨0x2103, 0x2103, 0x06, 0x06, .u, 1, .rw, .buf, none, (.rng 2 10), .c 3⟩,
    ⟨0x2103, 0x2103, 0x07, 0x07, .i, 1, .rw, .buf, none, (.srng (-3) 4), .c 0⟩,
    ⟨0x2103, 0x2103, 0x08, 0x08, .u, 1, .rw, .buf, none, (.rng 2 10), .c 3⟩,
    ⟨0x2103, 0x2103, 0x09, 0x09, .u, 8, .ro, .none, none, .any, .c 0⟩,
    ⟨0x2103, 0x2103, 0x0A, 0x0A, .u, 2, .ro, .none, none, .any, .c 0⟩,
    ⟨0x2103, 0x2103, 0x0B, 0x0B, .u, 1, .ro, .none, none, .any, .c 0⟩,
    ⟨0x2103, 0x2103, 0x0C, 0x0C, .u, 4, .ct, .none, none, .any, .c 0⟩,
    ⟨0x2103, 0x2103, 0x0D, 0x0D, .u, 4, .ct, .none, none, .any, .c 0⟩]

/-- 0x2104–0x2105 (spec R121). -/
def objPTPP : List Entry :=
  [
    ⟨0x2104, 0x2105, 0x00, 0x00, .u, 1, .ro, .none, none, .any, .c 0x06⟩,
    ⟨0x2104, 0x2105, 0x01, 0x01, .u, 4, .rw, .buf, none, .any, .c 0⟩,
    ⟨0x2104, 0x2105, 0x02, 0x02, .u, 4, .rw, .buf, none, .any, .c 0⟩,
    ⟨0x2104, 0x2105, 0x03, 0x03, .i, 4, .rw, .buf, none, .any, .c 0⟩,
    ⟨0x2104, 0x2105, 0x04, 0x04, .u, 4, .ro, .none, none, .any, .c 512⟩,
    ⟨0x2104, 0x2105, 0x05, 0x05, .u, 4, .ro, .none, none, .any, .c 768⟩,
    ⟨0x2104, 0x2105, 0x06, 0x06, .i, 4, .ro, .none, none, .any, .c 0⟩]

/-- 0x2106 (spec R124). -/
def objPPS : List Entry :=
  [
    ⟨0x2106, 0x2106, 0x00, 0x00, .u, 1, .ro, .none, none, .any, .c 0x0A⟩,
    ⟨0x2106, 0x2106, 0x01, 0x01, .b, 1, .rw, .buf, none, .any, .c 0x00⟩,
    ⟨0x2106, 0x2106, 0x02, 0x02, .u, 1, .rw, .buf, none, (.rng 0 1), .c 0⟩,
    ⟨0x2106, 0x2106, 0x03, 0x03, .u, 4, .rw, .buf, none, .any, .c 0⟩,
    ⟨0x2106, 0x2106, 0x04, 0x04, .u, 8, .ro, .none, none, .any, .c 0⟩,
    ⟨0x2106, 0x2106, 0x05, 0x05, .i, 4, .ro, .none, none, .any, .c 0⟩,
    ⟨0x2106, 0x2106, 0x06, 0x06, .u, 4, .rw, .buf, none, .any, .c 1000⟩,
    ⟨0x2106, 0x2106, 0x07, 0x07, .u, 1, .rw, .buf, none, (.rng 0 1), .c 0⟩,
    ⟨0x2106, 0x2106, 0x08, 0x08, .u, 4, .rw, .buf, none, (.rng 1000 900000), .c 100000⟩,
    ⟨0x2106, 0x2106, 0x09, 0x09, .b, 1, .rw, .buf, none, .any, .c 0x01⟩,
    ⟨0x2106, 0x2106, 0x0A, 0x0A, .i, 4, .rw, .buf, none, .any, .c 0⟩]

/-- 0x2110–0x211F (spec R133). -/
def objTC : List Entry :=
  [
    ⟨0x2110, 0x211F, 0x00, 0x00, .u, 1, .ro, .none, none, .any, .c 0x09⟩,
    ⟨0x2110, 0x211F, 0x01, 0x01, .u, 8, .rw, .imm, none, .any, .c 0⟩,
    ⟨0x2110, 0x211F, 0x02, 0x02, .u, 8, .rw, .imm, none, (.zeroOr 1000 4611686018427387904), .c 0⟩,
    ⟨0x2110, 0x211F, 0x03, 0x03, .u, 1, .rw, .imm, none, .any, .c 0x00⟩,
    ⟨0x2110, 0x211F, 0x04, 0x04, .u, 1, .wp, .imm, none, .any, .c 0x00⟩,
    ⟨0x2110, 0x211F, 0x05, 0x05, .u, 1, .wp, .imm, none, .any, .c 0x00⟩,
    ⟨0x2110, 0x211F, 0x06, 0x06, .u, 1, .rl, .none, none, .any, .c 0x00⟩,
    ⟨0x2110, 0x211F, 0x07, 0x07, .u, 8, .ro, .none, none, .any, .c 0⟩,
    ⟨0x2110, 0x211F, 0x08, 0x08, .u, 4, .ct, .none, none, .any, .c 0⟩,
    ⟨0x2110, 0x211F, 0x09, 0x09, .u, 1, .wp, .imm, none, .any, .c 0x00⟩]

/-- 0x2200 (spec R160). -/
def objLINK : List Entry :=
  [
    ⟨0x2200, 0x2200, 0x00, 0x00, .u, 1, .ro, .none, none, .any, .c 0x0C⟩,
    ⟨0x2200, 0x2200, 0x01, 0x01, .u, 2, .rw, .buf, none, (.rng 100 200), .c 100⟩,
    ⟨0x2200, 0x2200, 0x02, 0x02, .u, 1, .rw, .buf, none, (.rng 16 255), .c 16⟩,
    ⟨0x2200, 0x2200, 0x03, 0x03, .u, 1, .rw, .buf, none, (.rng 1 15), .c 3⟩,
    ⟨0x2200, 0x2200, 0x04, 0x04, .u, 1, .rw, .buf, none, (.rng 1 10), .c 6⟩,
    ⟨0x2200, 0x2200, 0x05, 0x05, .u, 2, .rw, .buf, none, (.rng 100 65535), .c 10000⟩,
    ⟨0x2200, 0x2200, 0x06, 0x06, .u, 1, .rw, .buf, none, (.rng 1 64), .c 16⟩,
    ⟨0x2200, 0x2200, 0x07, 0x07, .u, 2, .rw, .buf, none, (.rng 64 65535), .c 100⟩,
    ⟨0x2200, 0x2200, 0x08, 0x08, .u, 1, .rw, .imm, some .turf, (.rng 0 1), .c 0⟩,
    ⟨0x2200, 0x2200, 0x09, 0x09, .u, 1, .rl, .none, none, .any, .c 0⟩,
    ⟨0x2200, 0x2200, 0x0A, 0x0A, .u, 4, .ct, .none, none, .any, .c 0⟩,
    ⟨0x2200, 0x2200, 0x0B, 0x0B, .u, 4, .ct, .none, none, .any, .c 0⟩,
    ⟨0x2200, 0x2200, 0x0C, 0x0C, .u, 1, .rl, .none, none, .any, .c 0xFF⟩]

/-- 0x2201 (spec R158). -/
def objPMAP : List Entry :=
  [
    ⟨0x2201, 0x2201, 0x00, 0x00, .u, 1, .ro, .none, none, .any, .c 0x19⟩,
    ⟨0x2201, 0x2201, 0x01, 0x18, .u, 1, .rw, .buf, some .armMap, (.orFF 0 5), .c 0xFF⟩,
    ⟨0x2201, 0x2201, 0x19, 0x19, .u, 1, .rl, .none, none, .any, .c 0x00⟩]

/-- 0x2203 (spec R159). -/
def objADM : List Entry :=
  [
    ⟨0x2203, 0x2203, 0x00, 0x00, .u, 1, .ro, .none, none, .any, .c 0x06⟩,
    ⟨0x2203, 0x2203, 0x01, 0x06, .u, 2, .rw, .buf, some .turf, (.rng 0 1024), .c 0⟩]

/-- 0x2210 (spec R201). -/
def objMBX : List Entry :=
  [
    ⟨0x2210, 0x2210, 0x00, 0x00, .u, 1, .ro, .none, none, .any, .c 0x0B⟩,
    ⟨0x2210, 0x2210, 0x01, 0x01, .u, 2, .rw, .imm, none, (.rng 0 3071), .c 0⟩,
    ⟨0x2210, 0x2210, 0x02, 0x02, .u, 2, .rw, .imm, none, .any, .c 0⟩,
    ⟨0x2210, 0x2210, 0x03, 0x03, .u, 1, .rw, .imm, none, (.rng 0 1), .c 0⟩,
    ⟨0x2210, 0x2210, 0x04, 0x04, .u, 1, .rw, .imm, none, (.rng 1 29), .c 0⟩,
    ⟨0x2210, 0x2210, 0x05, 0x05, .dom, 0, .rw, .imm, none, .any, .c 0⟩,
    ⟨0x2210, 0x2210, 0x06, 0x06, .u, 1, .wp, .imm, none, .any, .c 0x00⟩,
    ⟨0x2210, 0x2210, 0x07, 0x07, .u, 1, .rl, .none, none, .any, .c 0⟩,
    ⟨0x2210, 0x2210, 0x08, 0x08, .u, 1, .ro, .none, none, .any, .c 0x00⟩,
    ⟨0x2210, 0x2210, 0x09, 0x09, .u, 1, .ro, .none, none, .any, .c 0⟩,
    ⟨0x2210, 0x2210, 0x0A, 0x0A, .dom, 0, .ro, .none, none, .any, .c 0⟩,
    ⟨0x2210, 0x2210, 0x0B, 0x0B, .u, 1, .rw, .imm, none, (.rng 1 8), .c 3⟩]

/-- 0x2211 (spec R205). -/
def objMODE : List Entry :=
  [
    ⟨0x2211, 0x2211, 0x00, 0x00, .u, 1, .ro, .none, none, .any, .c 0x12⟩,
    ⟨0x2211, 0x2211, 0x01, 0x01, .u, 1, .rw, .imm, none, (.rng 0 63), .c 0x00⟩,
    ⟨0x2211, 0x2211, 0x02, 0x02, .u, 1, .rw, .imm, none, (.rng 0 15), .c 0⟩,
    ⟨0x2211, 0x2211, 0x03, 0x03, .u, 2, .rw, .imm, none, (.rng 0 1024), .c 0⟩,
    ⟨0x2211, 0x2211, 0x04, 0x04, .u, 2, .rw, .imm, none, (.rng 4 500), .c 16⟩,
    ⟨0x2211, 0x2211, 0x05, 0x05, .u, 2, .rw, .imm, none, (.rng 4 500), .c 16⟩,
    ⟨0x2211, 0x2211, 0x06, 0x06, .u, 1, .wp, .imm, none, .any, .c 0x00⟩,
    ⟨0x2211, 0x2211, 0x07, 0x07, .u, 1, .wp, .imm, none, .any, .c 0x00⟩,
    ⟨0x2211, 0x2211, 0x08, 0x08, .u, 1, .rl, .none, none, .any, .c 0⟩,
    ⟨0x2211, 0x2211, 0x09, 0x09, .u, 8, .ro, .none, none, .any, .c 0⟩,
    ⟨0x2211, 0x2211, 0x0A, 0x0A, .u, 2, .ro, .none, none, .any, .c 0⟩,
    ⟨0x2211, 0x2211, 0x0B, 0x0B, .u, 2, .ro, .none, none, .any, .c 0⟩,
    ⟨0x2211, 0x2211, 0x0C, 0x0C, .u, 2, .ro, .none, none, .any, .c 0⟩,
    ⟨0x2211, 0x2211, 0x0D, 0x12, .u, 1, .rw, .imm, none, (.rng 0 15), .c 0⟩]

/-- 0x2212 (spec R209). -/
def objLSTAT : List Entry :=
  [
    ⟨0x2212, 0x2212, 0x00, 0x00, .u, 1, .ro, .none, none, .any, .c 0x0D⟩,
    ⟨0x2212, 0x2212, 0x01, 0x01, .u, 2, .rl, .none, none, .any, .c 0x0000⟩,
    ⟨0x2212, 0x2212, 0x02, 0x02, .u, 2, .wp, .imm, none, .any, .c 0x0000⟩,
    ⟨0x2212, 0x2212, 0x03, 0x03, .u, 4, .ct, .none, none, .any, .c 0⟩,
    ⟨0x2212, 0x2212, 0x04, 0x04, .u, 4, .ct, .none, none, .any, .c 0⟩,
    ⟨0x2212, 0x2212, 0x05, 0x05, .u, 4, .ct, .none, none, .any, .c 0⟩,
    ⟨0x2212, 0x2212, 0x06, 0x06, .u, 4, .ct, .none, none, .any, .c 0⟩,
    ⟨0x2212, 0x2212, 0x07, 0x07, .u, 4, .ct, .none, none, .any, .c 0⟩,
    ⟨0x2212, 0x2212, 0x08, 0x08, .u, 4, .ct, .none, none, .any, .c 0⟩,
    ⟨0x2212, 0x2212, 0x09, 0x09, .u, 4, .ct, .none, none, .any, .c 0⟩,
    ⟨0x2212, 0x2212, 0x0A, 0x0A, .u, 4, .ct, .none, none, .any, .c 0⟩,
    ⟨0x2212, 0x2212, 0x0B, 0x0B, .u, 4, .ct, .none, none, .any, .c 0⟩,
    ⟨0x2212, 0x2212, 0x0C, 0x0C, .u, 4, .ct, .none, none, .any, .c 0⟩,
    ⟨0x2212, 0x2212, 0x0D, 0x0D, .u, 2, .rl, .none, none, .any, .c 0xFFFF⟩]

/-- 0x2300–0x2317 (spec R161). -/
def objPORT : List Entry :=
  [
    ⟨0x2300, 0x2317, 0x00, 0x00, .u, 1, .ro, .none, none, .any, .c 0x1F⟩,
    ⟨0x2300, 0x2317, 0x01, 0x01, .u, 2, .rw, .buf, none, (.rng 1000 5000), .c 4400⟩,
    ⟨0x2300, 0x2317, 0x02, 0x02, .u, 1, .rw, .buf, none, (.rng 1 128), .c 128⟩,
    ⟨0x2300, 0x2317, 0x03, 0x03, .u, 1, .rw, .buf, none, (.rng 0 8), .c 8⟩,
    ⟨0x2300, 0x2317, 0x04, 0x04, .u, 2, .rw, .buf, none, (.rng 0 3150), .c 0⟩,
    ⟨0x2300, 0x2317, 0x05, 0x05, .u, 2, .rw, .buf, none, (.rng 0 3150), .c 400⟩,
    ⟨0x2300, 0x2317, 0x06, 0x06, .i, 2, .rw, .buf, none, (.srng (-1000) 1000), .c 0⟩,
    ⟨0x2300, 0x2317, 0x07, 0x07, .b, 1, .rw, .buf, none, .any, .c 0x01⟩,
    ⟨0x2300, 0x2317, 0x08, 0x08, .u, 1, .rl, .none, none, .any, .c 0x00⟩,
    ⟨0x2300, 0x2317, 0x09, 0x09, .i, 4, .ro, .none, none, .any, .c 0⟩,
    ⟨0x2300, 0x2317, 0x0A, 0x0A, .u, 2, .rl, .none, none, .any, .c 0x0000⟩,
    ⟨0x2300, 0x2317, 0x0B, 0x0B, .u, 2, .wp, .imm, none, .any, .c 0x0000⟩,
    ⟨0x2300, 0x2317, 0x0C, 0x0C, .u, 1, .rl, .none, none, .any, .c 0⟩,
    ⟨0x2300, 0x2317, 0x0D, 0x0D, .u, 1, .rl, .none, none, .any, .c 0⟩,
    ⟨0x2300, 0x2317, 0x0E, 0x0E, .u, 2, .ro, .none, none, .any, .c 0xFFFF⟩,
    ⟨0x2300, 0x2317, 0x0F, 0x0F, .u, 4, .ro, .none, none, .any, .c 0⟩] ++
  [
    ⟨0x2300, 0x2317, 0x10, 0x10, .u, 2, .ro, .none, none, .any, .c 0⟩,
    ⟨0x2300, 0x2317, 0x11, 0x11, .u, 2, .ro, .none, none, .any, .c 0⟩,
    ⟨0x2300, 0x2317, 0x12, 0x12, .u, 8, .ct, .none, none, .any, .c 0⟩,
    ⟨0x2300, 0x2317, 0x13, 0x13, .u, 4, .ct, .none, none, .any, .c 0⟩,
    ⟨0x2300, 0x2317, 0x14, 0x14, .u, 4, .ct, .none, none, .any, .c 0⟩,
    ⟨0x2300, 0x2317, 0x15, 0x15, .u, 4, .ct, .none, none, .any, .c 0⟩,
    ⟨0x2300, 0x2317, 0x16, 0x16, .u, 4, .ct, .none, none, .any, .c 0⟩,
    ⟨0x2300, 0x2317, 0x17, 0x17, .u, 4, .ct, .none, none, .any, .c 0⟩,
    ⟨0x2300, 0x2317, 0x18, 0x18, .u, 4, .ct, .none, none, .any, .c 0⟩,
    ⟨0x2300, 0x2317, 0x19, 0x19, .u, 4, .ct, .none, none, .any, .c 0⟩,
    ⟨0x2300, 0x2317, 0x1A, 0x1A, .u, 4, .ct, .none, none, .any, .c 0⟩,
    ⟨0x2300, 0x2317, 0x1B, 0x1B, .u, 4, .ct, .none, none, .any, .c 0⟩,
    ⟨0x2300, 0x2317, 0x1C, 0x1C, .u, 4, .ct, .none, none, .any, .c 0⟩,
    ⟨0x2300, 0x2317, 0x1D, 0x1D, .u, 4, .ct, .none, none, .any, .c 0⟩,
    ⟨0x2300, 0x2317, 0x1E, 0x1E, .u, 2, .rw, .buf, none, (.rng 1 65535), .c 16⟩,
    ⟨0x2300, 0x2317, 0x1F, 0x1F, .u, 2, .ro, .none, none, .any, .c 0⟩]

/-- 0x9000–0x9BFF (spec R157). -/
def objTURF : List Entry :=
  [
    ⟨0x9000, 0x9BFF, 0x00, 0x00, .u, 1, .ro, .none, none, .any, .c 0x03⟩,
    ⟨0x9000, 0x9BFF, 0x01, 0x01, .u, 8, .rw, .imm, some .turf, .any, .c 0⟩,
    ⟨0x9000, 0x9BFF, 0x02, 0x02, .u, 1, .rl, .none, none, .any, .c 0x00⟩,
    ⟨0x9000, 0x9BFF, 0x03, 0x03, .u, 1, .rl, .none, none, .any, .c 0xFF⟩]

/-- 0x9E00–0x9E3F (spec R156). -/
def objSTRANGER : List Entry :=
  [
    ⟨0x9E00, 0x9E3F, 0x00, 0x00, .u, 1, .ro, .none, none, .any, .c 0x08⟩,
    ⟨0x9E00, 0x9E3F, 0x01, 0x01, .u, 8, .ro, .none, none, .any, .c 0⟩,
    ⟨0x9E00, 0x9E3F, 0x02, 0x02, .u, 1, .ro, .none, none, .any, .c 0xFF⟩,
    ⟨0x9E00, 0x9E3F, 0x03, 0x03, .u, 1, .ro, .none, none, .any, .c 0⟩,
    ⟨0x9E00, 0x9E3F, 0x04, 0x04, .u, 8, .ro, .none, none, .any, .c 0⟩,
    ⟨0x9E00, 0x9E3F, 0x05, 0x05, .u, 8, .ro, .none, none, .any, .c 0⟩,
    ⟨0x9E00, 0x9E3F, 0x06, 0x06, .u, 4, .ct, .none, none, .any, .c 0⟩,
    ⟨0x9E00, 0x9E3F, 0x07, 0x07, .u, 1, .wp, .imm, none, .any, .c 0x00⟩,
    ⟨0x9E00, 0x9E3F, 0x08, 0x08, .u, 1, .wp, .imm, none, .any, .c 0x00⟩]

/-- 0x2400 (spec R226). -/
def objMEAS : List Entry :=
  [
    ⟨0x2400, 0x2400, 0x00, 0x00, .u, 1, .ro, .none, none, .any, .c 0x05⟩,
    ⟨0x2400, 0x2400, 0x01, 0x01, .u, 2, .rl, .none, none, .any, .c 0x0000⟩,
    ⟨0x2400, 0x2400, 0x02, 0x02, .u, 2, .wp, .imm, none, .any, .c 0x0000⟩,
    ⟨0x2400, 0x2400, 0x03, 0x03, .u, 1, .wp, .imm, none, .any, .c 0x00⟩,
    ⟨0x2400, 0x2400, 0x04, 0x04, .u, 4, .ct, .none, none, .any, .c 0⟩,
    ⟨0x2400, 0x2400, 0x05, 0x05, .u, 2, .rw, .buf, none, (.rng 1 4096), .c 64⟩]

/-- 0x2401–0x2412 (spec R229). -/
def objCV : List Entry :=
  [
    ⟨0x2401, 0x2412, 0x00, 0x00, .u, 1, .ro, .none, none, .any, .c 0x12⟩,
    ⟨0x2401, 0x2412, 0x01, 0x01, .u, 1, .rw, .buf, none, (.rng 0 23), .ain⟩,
    ⟨0x2401, 0x2412, 0x02, 0x02, .u, 1, .rw, .buf, none, (.rng 0 2), .c 0⟩,
    ⟨0x2401, 0x2412, 0x03, 0x03, .u, 1, .rw, .buf, none, (.rng 0 5), .c 0⟩,
    ⟨0x2401, 0x2412, 0x04, 0x04, .u, 1, .rw, .buf, none, .startSrc, .c 0x00⟩,
    ⟨0x2401, 0x2412, 0x05, 0x05, .u, 1, .rw, .buf, none, (.rng 1 255), .c 1⟩,
    ⟨0x2401, 0x2412, 0x06, 0x06, .u, 1, .rw, .buf, none, (.rng 0 1), .c 0⟩,
    ⟨0x2401, 0x2412, 0x07, 0x07, .u, 2, .rw, .buf, none, .any, .c 0⟩,
    ⟨0x2401, 0x2412, 0x08, 0x08, .u, 1, .rw, .buf, none, .urgentSrc, .c 0x00⟩,
    ⟨0x2401, 0x2412, 0x09, 0x09, .u, 1, .wp, .imm, none, .any, .c 0x00⟩,
    ⟨0x2401, 0x2412, 0x0A, 0x0A, .f, 4, .rw, .buf, none, .fin, .c 0x3F800000⟩,
    ⟨0x2401, 0x2412, 0x0B, 0x0B, .f, 4, .rw, .buf, none, .fin, .c 0x0⟩,
    ⟨0x2401, 0x2412, 0x0C, 0x0C, .u, 1, .wp, .imm, none, .any, .c 0x00⟩,
    ⟨0x2401, 0x2412, 0x0D, 0x0D, .u, 1, .rl, .none, none, .any, .c 0⟩,
    ⟨0x2401, 0x2412, 0x0E, 0x0E, .u, 1, .rw, .buf, none, (.orFF 12 17), .c 0xFF⟩,
    ⟨0x2401, 0x2412, 0x0F, 0x0F, .u, 4, .ro, .none, none, .any, .c 0⟩] ++
  [
    ⟨0x2401, 0x2412, 0x10, 0x10, .u, 8, .ro, .none, none, .any, .c 0⟩,
    ⟨0x2401, 0x2412, 0x11, 0x11, .f, 4, .ro, .none, none, .any, .c 0x0⟩,
    ⟨0x2401, 0x2412, 0x12, 0x12, .u, 8, .ct, .none, none, .any, .c 0⟩]

/-- 0x2420–0x242B (spec R233). -/
def objOC : List Entry :=
  [
    ⟨0x2420, 0x242B, 0x00, 0x00, .u, 1, .ro, .none, none, .any, .c 0x09⟩,
    ⟨0x2420, 0x242B, 0x01, 0x01, .b, 1, .rw, .buf, some .prot, .any, .c 0x00⟩,
    ⟨0x2420, 0x242B, 0x02, 0x02, .u, 2, .rw, .buf, some .prot, (.rng 0 1023), .c 1023⟩,
    ⟨0x2420, 0x242B, 0x03, 0x03, .u, 2, .rw, .buf, some .prot, (.rng 0 1023), .c 0⟩,
    ⟨0x2420, 0x242B, 0x04, 0x04, .u, 1, .rw, .buf, some .prot, (.rng 0 15), .c 4⟩,
    ⟨0x2420, 0x242B, 0x05, 0x05, .u, 1, .rl, .none, none, .any, .c 0x00⟩,
    ⟨0x2420, 0x242B, 0x06, 0x06, .u, 1, .rl, .none, none, .any, .c 0x00⟩,
    ⟨0x2420, 0x242B, 0x07, 0x07, .u, 1, .wp, .imm, none, .any, .c 0x00⟩,
    ⟨0x2420, 0x242B, 0x08, 0x08, .u, 4, .ct, .none, none, .any, .c 0⟩,
    ⟨0x2420, 0x242B, 0x09, 0x09, .u, 8, .ro, .none, none, .any, .c 0⟩]

/-- 0x2480 (spec R242). -/
def objFLUE : List Entry :=
  [
    ⟨0x2480, 0x2480, 0x00, 0x00, .u, 1, .ro, .none, none, .any, .c 0x04⟩,
    ⟨0x2480, 0x2480, 0x01, 0x01, .u, 1, .rw, .buf, none, (.rng 0 1), .c 0⟩,
    ⟨0x2480, 0x2480, 0x02, 0x02, .b, 1, .rw, .buf, none, .any, .c 0x00⟩,
    ⟨0x2480, 0x2480, 0x03, 0x03, .b, 1, .rw, .buf, none, .any, .c 0x00⟩,
    ⟨0x2480, 0x2480, 0x04, 0x04, .u, 2, .rw, .buf, none, (.rng 10 1000), .c 10⟩]

/-- 0x2481–0x2482 (spec R242). -/
def objGAU : List Entry :=
  [
    ⟨0x2481, 0x2482, 0x00, 0x00, .u, 1, .ro, .none, none, .any, .c 0x13⟩,
    ⟨0x2481, 0x2482, 0x01, 0x01, .b, 1, .rw, .buf, none, .any, .c 0x00⟩,
    ⟨0x2481, 0x2482, 0x02, 0x02, .u, 1, .rw, .buf, none, (.rng 0 100), .c 20⟩,
    ⟨0x2481, 0x2482, 0x03, 0x03, .u, 2, .rw, .buf, none, (.rng 50 900), .c 200⟩,
    ⟨0x2481, 0x2482, 0x04, 0x04, .u, 4, .rw, .buf, none, (.rng 1000 10000000), .c 100000⟩,
    ⟨0x2481, 0x2482, 0x05, 0x05, .u, 4, .ro, .none, none, .any, .c 0⟩,
    ⟨0x2481, 0x2482, 0x06, 0x06, .i, 4, .ro, .none, none, .any, .c 0⟩,
    ⟨0x2481, 0x2482, 0x07, 0x07, .f, 4, .ro, .none, none, .any, .c 0x0⟩,
    ⟨0x2481, 0x2482, 0x08, 0x08, .u, 1, .rl, .none, none, .any, .c 0x00⟩,
    ⟨0x2481, 0x2482, 0x09, 0x09, .u, 1, .rl, .none, none, .any, .c 0x00⟩,
    ⟨0x2481, 0x2482, 0x0A, 0x0A, .u, 1, .wp, .imm, none, .any, .c 0x00⟩,
    ⟨0x2481, 0x2482, 0x0B, 0x0B, .u, 4, .ct, .none, none, .any, .c 0⟩,
    ⟨0x2481, 0x2482, 0x0C, 0x0C, .u, 1, .rw, .imm, none, (.rng 0 1), .c 0⟩,
    ⟨0x2481, 0x2482, 0x0D, 0x0D, .i, 4, .rw, .imm, none, .any, .c 0⟩,
    ⟨0x2481, 0x2482, 0x0E, 0x0E, .u, 4, .rw, .imm, none, .any, .c 0⟩,
    ⟨0x2481, 0x2482, 0x0F, 0x0F, .u, 1, .rw, .imm, none, .any, .c 0x00⟩] ++
  [
    ⟨0x2481, 0x2482, 0x10, 0x10, .u, 1, .wp, .imm, none, .any, .c 0x00⟩,
    ⟨0x2481, 0x2482, 0x11, 0x11, .u, 1, .wp, .imm, none, .any, .c 0x00⟩,
    ⟨0x2481, 0x2482, 0x12, 0x12, .u, 1, .rl, .none, none, .any, .c 0x00⟩,
    ⟨0x2481, 0x2482, 0x13, 0x13, .u, 8, .ro, .none, none, .any, .c 0⟩]

/-- 0x2500 (spec R272). -/
def objARMG : List Entry :=
  [
    ⟨0x2500, 0x2500, 0x00, 0x00, .u, 1, .ro, .none, none, .any, .c 0x08⟩,
    ⟨0x2500, 0x2500, 0x01, 0x01, .u, 1, .rl, .none, none, .any, .c 0x00⟩,
    ⟨0x2500, 0x2500, 0x02, 0x02, .u, 1, .wp, .imm, none, .any, .c 0x00⟩,
    ⟨0x2500, 0x2500, 0x03, 0x03, .b, 1, .rw, .buf, some .safety, .any, .c 0x00⟩,
    ⟨0x2500, 0x2500, 0x04, 0x04, .f, 4, .rw, .buf, some .safety, (.frng 0x41200000 0x457A0000), .c 0x43480000⟩,
    ⟨0x2500, 0x2500, 0x05, 0x05, .u, 2, .rw, .buf, some .safety, (.rng 5 1000), .c 20⟩,
    ⟨0x2500, 0x2500, 0x06, 0x06, .f, 4, .ro, .none, none, .any, .c 0x0⟩,
    ⟨0x2500, 0x2500, 0x07, 0x07, .u, 4, .ct, .none, none, .any, .c 0⟩,
    ⟨0x2500, 0x2500, 0x08, 0x08, .u, 1, .rl, .none, none, .any, .c 0xFF⟩]

/-- 0x2600–0x2605 (spec R273). -/
def objARM : List Entry :=
  [
    ⟨0x2600, 0x2605, 0x00, 0x00, .u, 1, .ro, .none, none, .any, .c 0x2B⟩,
    ⟨0x2600, 0x2605, 0x01, 0x01, .u, 1, .rl, .none, none, .any, .c 0x00⟩,
    ⟨0x2600, 0x2605, 0x02, 0x02, .u, 1, .rl, .none, none, .any, .c 0x00⟩,
    ⟨0x2600, 0x2605, 0x03, 0x03, .u, 1, .wp, .imm, none, .any, .c 0x00⟩,
    ⟨0x2600, 0x2605, 0x04, 0x04, .u, 1, .rw, .buf, none, (.rng 0 1), .nMod2⟩,
    ⟨0x2600, 0x2605, 0x05, 0x05, .u, 1, .rw, .buf, none, (.rng 0 2), .nDiv2⟩,
    ⟨0x2600, 0x2605, 0x06, 0x06, .u, 2, .rw, .buf, none, (.rng 1 16383), .c 256⟩,
    ⟨0x2600, 0x2605, 0x07, 0x07, .u, 2, .rw, .buf, none, (.rng 2 32767), .c 1024⟩,
    ⟨0x2600, 0x2605, 0x08, 0x08, .u, 1, .rw, .buf, none, (.rng 1 100), .c 4⟩,
    ⟨0x2600, 0x2605, 0x09, 0x09, .u, 1, .rw, .buf, none, (.rng 0 100), .c 10⟩,
    ⟨0x2600, 0x2605, 0x0A, 0x0A, .u, 1, .rw, .buf, none, (.rng 1 4), .c 1⟩,
    ⟨0x2600, 0x2605, 0x0B, 0x0B, .i, 2, .rw, .buf, none, (.srng (-1024) 1024), .c 0⟩,
    ⟨0x2600, 0x2605, 0x0C, 0x0C, .i, 2, .rw, .buf, none, (.srng (-1024) 1024), .c 0⟩,
    ⟨0x2600, 0x2605, 0x0D, 0x0D, .f, 4, .rw, .buf, none, (.frng 0x0 0x40000000), .c 0x3F800000⟩,
    ⟨0x2600, 0x2605, 0x0E, 0x0E, .f, 4, .rw, .buf, none, (.frng 0x0 0x40000000), .c 0x3F800000⟩,
    ⟨0x2600, 0x2605, 0x0F, 0x0F, .f, 4, .rw, .buf, none, (.frng 0x0 0x3F800000), .c 0x0⟩] ++
  [
    ⟨0x2600, 0x2605, 0x10, 0x10, .u, 1, .rw, .buf, none, (.orFF 12 17), .c 0xFF⟩,
    ⟨0x2600, 0x2605, 0x11, 0x11, .u, 1, .rw, .buf, none, (.orFF 12 17), .c 0xFF⟩,
    ⟨0x2600, 0x2605, 0x12, 0x12, .f, 4, .rw, .buf, none, (.frng 0x3F800000 0x461C4000), .c 0x42C80000⟩,
    ⟨0x2600, 0x2605, 0x13, 0x13, .u, 2, .rw, .buf, none, (.rng 0 4095), .c 82⟩,
    ⟨0x2600, 0x2605, 0x14, 0x14, .u, 4, .rw, .buf, some .safety, (.rng 100 100000), .c 2000⟩,
    ⟨0x2600, 0x2605, 0x15, 0x15, .b, 1, .rw, .buf, none, .any, .c 0x01⟩,
    ⟨0x2600, 0x2605, 0x16, 0x16, .b, 1, .rw, .buf, none, .any, .c 0x01⟩,
    ⟨0x2600, 0x2605, 0x17, 0x17, .u, 1, .rw, .buf, some .safety, (.rng 8 64), .c 16⟩,
    ⟨0x2600, 0x2605, 0x18, 0x18, .u, 2, .rw, .buf, some .safety, (.rng 0 255), .c 8⟩,
    ⟨0x2600, 0x2605, 0x19, 0x19, .u, 1, .rw, .buf, some .safety, (.rng 0 50), .c 14⟩,
    ⟨0x2600, 0x2605, 0x1A, 0x1A, .u, 1, .rw, .buf, some .safety, (.rng 2 64), .c 8⟩,
    ⟨0x2600, 0x2605, 0x1B, 0x1B, .u, 4, .rw, .buf, none, (.rng 10 1000), .c 50⟩,
    ⟨0x2600, 0x2605, 0x1C, 0x1C, .u, 1, .rw, .buf, none, (.rng 1 255), .c 3⟩,
    ⟨0x2600, 0x2605, 0x1D, 0x1D, .u, 1, .rw, .buf, none, (.rng 1 255), .c 20⟩,
    ⟨0x2600, 0x2605, 0x1E, 0x1E, .u, 2, .rl, .none, none, .any, .c 0x0000⟩,
    ⟨0x2600, 0x2605, 0x1F, 0x1F, .u, 2, .wp, .imm, none, .any, .c 0x0000⟩] ++
  [
    ⟨0x2600, 0x2605, 0x20, 0x20, .i, 2, .ro, .none, none, .any, .c 0⟩,
    ⟨0x2600, 0x2605, 0x21, 0x21, .i, 2, .ro, .none, none, .any, .c 0⟩,
    ⟨0x2600, 0x2605, 0x22, 0x22, .i, 2, .ro, .none, none, .any, .c 0⟩,
    ⟨0x2600, 0x2605, 0x23, 0x23, .f, 4, .ro, .none, none, .any, .c 0x0⟩,
    ⟨0x2600, 0x2605, 0x24, 0x24, .f, 4, .ro, .none, none, .any, .c 0x0⟩,
    ⟨0x2600, 0x2605, 0x25, 0x25, .u, 8, .ct, .none, none, .any, .c 0⟩,
    ⟨0x2600, 0x2605, 0x26, 0x26, .u, 4, .ct, .none, none, .any, .c 0⟩,
    ⟨0x2600, 0x2605, 0x27, 0x27, .u, 4, .ct, .none, none, .any, .c 0⟩,
    ⟨0x2600, 0x2605, 0x28, 0x28, .u, 4, .ct, .none, none, .any, .c 0⟩,
    ⟨0x2600, 0x2605, 0x29, 0x29, .u, 4, .ct, .none, none, .any, .c 0⟩,
    ⟨0x2600, 0x2605, 0x2A, 0x2A, .u, 8, .ro, .none, none, .any, .c 0⟩,
    ⟨0x2600, 0x2605, 0x2B, 0x2B, .u, 8, .ro, .none, none, .any, .c 0⟩]

/-- 0x2700 (spec R297). -/
def objSTACKG : List Entry :=
  [
    ⟨0x2700, 0x2700, 0x00, 0x00, .u, 1, .ro, .none, none, .any, .c 0x04⟩,
    ⟨0x2700, 0x2700, 0x01, 0x01, .u, 1, .rl, .none, none, .any, .c 0x00⟩,
    ⟨0x2700, 0x2700, 0x02, 0x02, .u, 1, .wp, .imm, none, .any, .c 0x00⟩,
    ⟨0x2700, 0x2700, 0x03, 0x03, .u, 2, .rl, .none, none, .any, .c 0xFFFF⟩,
    ⟨0x2700, 0x2700, 0x04, 0x04, .u, 1, .rl, .none, none, .any, .c 0xFF⟩]

/-- 0x2800–0x2805 (spec R296). -/
def objLANE : List Entry :=
  [
    ⟨0x2800, 0x2805, 0x00, 0x00, .u, 1, .ro, .none, none, .any, .c 0x27⟩,
    ⟨0x2800, 0x2805, 0x01, 0x01, .u, 2, .rl, .none, none, .any, .c 0x0000⟩,
    ⟨0x2800, 0x2805, 0x02, 0x02, .u, 2, .wp, .imm, none, .any, .c 0x0000⟩,
    ⟨0x2800, 0x2805, 0x03, 0x03, .f, 4, .rw, .buf, none, (.frng 0x0 0x461C4000), .c 0x0⟩,
    ⟨0x2800, 0x2805, 0x04, 0x04, .f, 4, .rw, .buf, none, .cEst, .c 0x0⟩,
    ⟨0x2800, 0x2805, 0x05, 0x05, .u, 2, .rw, .buf, none, (.rng 0 1000), .c 20⟩,
    ⟨0x2800, 0x2805, 0x06, 0x06, .u, 1, .rw, .buf, none, (.rng 1 15), .c 3⟩,
    ⟨0x2800, 0x2805, 0x07, 0x07, .b, 1, .rw, .buf, none, .any, .c 0x01⟩,
    ⟨0x2800, 0x2805, 0x08, 0x08, .b, 1, .rw, .buf, none, .any, .c 0x01⟩,
    ⟨0x2800, 0x2805, 0x09, 0x09, .u, 2, .rw, .buf, none, (.rng 0 1024), .c 0⟩,
    ⟨0x2800, 0x2805, 0x0A, 0x0A, .f, 4, .rw, .buf, none, (.frng 0x3F000000 0x447A0000), .c 0x41A00000⟩,
    ⟨0x2800, 0x2805, 0x0B, 0x0B, .u, 1, .rw, .buf, none, (.rng 0 1), .c 0⟩,
    ⟨0x2800, 0x2805, 0x0C, 0x0C, .f, 4, .rw, .buf, none, .fin, .c 0x0⟩,
    ⟨0x2800, 0x2805, 0x0D, 0x0D, .f, 4, .rw, .buf, none, .fin, .c 0x0⟩,
    ⟨0x2800, 0x2805, 0x0E, 0x0E, .f, 4, .rw, .buf, none, .fin, .c 0x0⟩,
    ⟨0x2800, 0x2805, 0x0F, 0x0F, .f, 4, .rw, .buf, none, .fin, .c 0x0⟩] ++
  [
    ⟨0x2800, 0x2805, 0x10, 0x10, .f, 4, .rw, .buf, none, (.frng 0x0 0x3F800000), .c 0x3F000000⟩,
    ⟨0x2800, 0x2805, 0x11, 0x11, .f, 4, .ro, .none, none, .any, .c 0x0⟩,
    ⟨0x2800, 0x2805, 0x12, 0x12, .f, 4, .ro, .none, none, .any, .c 0x0⟩,
    ⟨0x2800, 0x2805, 0x13, 0x13, .f, 4, .ro, .none, none, .any, .c 0x0⟩,
    ⟨0x2800, 0x2805, 0x14, 0x14, .f, 4, .ro, .none, none, .any, .c 0x0⟩,
    ⟨0x2800, 0x2805, 0x15, 0x15, .f, 4, .ro, .none, none, .any, .c 0x3F000000⟩,
    ⟨0x2800, 0x2805, 0x16, 0x16, .u, 8, .ro, .none, none, .any, .c 0⟩,
    ⟨0x2800, 0x2805, 0x17, 0x17, .u, 4, .ro, .none, none, .any, .c 0⟩,
    ⟨0x2800, 0x2805, 0x18, 0x18, .u, 2, .ro, .none, none, .any, .c 0⟩,
    ⟨0x2800, 0x2805, 0x19, 0x19, .f, 4, .ro, .none, none, .any, .c 0x0⟩,
    ⟨0x2800, 0x2805, 0x1A, 0x1A, .f, 4, .ro, .none, none, .any, .c 0x0⟩,
    ⟨0x2800, 0x2805, 0x1B, 0x1B, .f, 4, .ro, .none, none, .any, .c 0x0⟩,
    ⟨0x2800, 0x2805, 0x1C, 0x1C, .f, 4, .ro, .none, none, .any, .c 0x0⟩,
    ⟨0x2800, 0x2805, 0x1D, 0x1D, .f, 4, .ro, .none, none, .any, .c 0x0⟩,
    ⟨0x2800, 0x2805, 0x1E, 0x1E, .f, 4, .ro, .none, none, .any, .c 0x0⟩,
    ⟨0x2800, 0x2805, 0x1F, 0x1F, .u, 8, .ro, .none, none, .any, .c 0⟩] ++
  [
    ⟨0x2800, 0x2805, 0x20, 0x20, .u, 2, .ro, .none, none, .any, .c 0⟩,
    ⟨0x2800, 0x2805, 0x21, 0x21, .u, 2, .ro, .none, none, .any, .c 0⟩,
    ⟨0x2800, 0x2805, 0x22, 0x22, .u, 2, .ro, .none, none, .any, .c 0⟩,
    ⟨0x2800, 0x2805, 0x23, 0x23, .u, 2, .ro, .none, none, .any, .c 0⟩,
    ⟨0x2800, 0x2805, 0x24, 0x24, .u, 8, .ct, .none, none, .any, .c 0⟩,
    ⟨0x2800, 0x2805, 0x25, 0x25, .u, 4, .ct, .none, none, .any, .c 0⟩,
    ⟨0x2800, 0x2805, 0x26, 0x26, .f, 4, .ro, .none, none, .any, .c 0x0⟩,
    ⟨0x2800, 0x2805, 0x27, 0x27, .u, 1, .ro, .none, none, .any, .nth⟩]

/-- 0x2806 (spec R301). -/
def objSPARE : List Entry :=
  [
    ⟨0x2806, 0x2806, 0x00, 0x00, .u, 1, .ro, .none, none, .any, .c 0x07⟩,
    ⟨0x2806, 0x2806, 0x01, 0x01, .u, 1, .wp, .imm, none, .any, .c 0x00⟩,
    ⟨0x2806, 0x2806, 0x02, 0x02, .u, 1, .rl, .none, none, .any, .c 0⟩,
    ⟨0x2806, 0x2806, 0x03, 0x03, .u, 1, .ro, .none, none, .any, .c 0xFF⟩,
    ⟨0x2806, 0x2806, 0x04, 0x04, .u, 4, .ro, .none, none, .any, .c 0x00543210⟩,
    ⟨0x2806, 0x2806, 0x05, 0x05, .u, 1, .ro, .none, none, .any, .c 0x00⟩,
    ⟨0x2806, 0x2806, 0x06, 0x06, .u, 1, .ro, .none, none, .any, .c 0⟩,
    ⟨0x2806, 0x2806, 0x07, 0x07, .u, 1, .rl, .none, none, .any, .c 1⟩]

/-- 0x8000–0x8BFF (spec R294). -/
def objCELL : List Entry :=
  [
    ⟨0x8000, 0x8BFF, 0x00, 0x00, .u, 1, .ro, .none, none, .any, .c 0x18⟩,
    ⟨0x8000, 0x8BFF, 0x01, 0x01, .u, 1, .rl, .none, none, .any, .c 0⟩,
    ⟨0x8000, 0x8BFF, 0x02, 0x02, .u, 1, .rl, .none, none, .any, .c 3⟩,
    ⟨0x8000, 0x8BFF, 0x03, 0x03, .u, 2, .rl, .none, none, .any, .c 0x0000⟩,
    ⟨0x8000, 0x8BFF, 0x04, 0x04, .f, 4, .ro, .none, none, .any, .c 0x0⟩,
    ⟨0x8000, 0x8BFF, 0x05, 0x05, .f, 4, .ro, .none, none, .any, .c 0x0⟩,
    ⟨0x8000, 0x8BFF, 0x06, 0x06, .f, 4, .ro, .none, none, .any, .c 0x0⟩,
    ⟨0x8000, 0x8BFF, 0x07, 0x07, .f, 4, .ro, .none, none, .any, .c 0x0⟩,
    ⟨0x8000, 0x8BFF, 0x08, 0x08, .f, 4, .ro, .none, none, .any, .c 0x0⟩,
    ⟨0x8000, 0x8BFF, 0x09, 0x09, .u, 8, .ro, .none, none, .any, .c 0⟩,
    ⟨0x8000, 0x8BFF, 0x0A, 0x0A, .f, 4, .ro, .none, none, .any, .c 0x0⟩,
    ⟨0x8000, 0x8BFF, 0x0B, 0x0B, .i, 4, .ro, .none, none, .any, .c 0⟩,
    ⟨0x8000, 0x8BFF, 0x0C, 0x0C, .u, 8, .ct, .none, none, .any, .c 0⟩,
    ⟨0x8000, 0x8BFF, 0x0D, 0x0D, .u, 1, .rl, .none, none, .any, .c 0⟩,
    ⟨0x8000, 0x8BFF, 0x0E, 0x0E, .u, 8, .ro, .none, none, .any, .c 0⟩,
    ⟨0x8000, 0x8BFF, 0x0F, 0x0F, .u, 4, .ro, .none, none, .any, .c 0⟩] ++
  [
    ⟨0x8000, 0x8BFF, 0x10, 0x10, .u, 2, .ro, .none, none, .any, .c 0⟩,
    ⟨0x8000, 0x8BFF, 0x11, 0x11, .u, 2, .ro, .none, none, .any, .c 0⟩,
    ⟨0x8000, 0x8BFF, 0x12, 0x12, .i, 2, .ro, .none, none, .any, .c 0⟩,
    ⟨0x8000, 0x8BFF, 0x13, 0x13, .u, 8, .rw, .imm, none, .groups, .c 0⟩,
    ⟨0x8000, 0x8BFF, 0x14, 0x14, .u, 1, .wp, .imm, none, .any, .c 0x00⟩,
    ⟨0x8000, 0x8BFF, 0x15, 0x15, .u, 1, .ro, .none, none, .any, .c 0⟩,
    ⟨0x8000, 0x8BFF, 0x16, 0x16, .u, 4, .ct, .none, none, .any, .c 0⟩,
    ⟨0x8000, 0x8BFF, 0x17, 0x17, .u, 4, .ct, .none, none, .any, .c 0⟩,
    ⟨0x8000, 0x8BFF, 0x18, 0x18, .u, 4, .ro, .none, none, .any, .c 0⟩]

/-- 0x2900 (spec R337). -/
def objKILN : List Entry :=
  [
    ⟨0x2900, 0x2900, 0x00, 0x00, .u, 1, .ro, .none, none, .any, .c 0x12⟩,
    ⟨0x2900, 0x2900, 0x01, 0x01, .u, 2, .rl, .none, none, .any, .c 0x0000⟩,
    ⟨0x2900, 0x2900, 0x02, 0x02, .u, 2, .wp, .imm, none, .any, .c 0x0000⟩,
    ⟨0x2900, 0x2900, 0x03, 0x03, .u, 1, .rl, .none, none, .any, .c 0⟩,
    ⟨0x2900, 0x2900, 0x04, 0x04, .u, 1, .wp, .imm, none, .any, .c 0x00⟩,
    ⟨0x2900, 0x2900, 0x05, 0x05, .u, 1, .rl, .none, none, .any, .c 0⟩,
    ⟨0x2900, 0x2900, 0x06, 0x06, .u, 1, .ro, .none, none, .any, .c 0x00⟩,
    ⟨0x2900, 0x2900, 0x07, 0x07, .u, 2, .ro, .none, none, .any, .c 0xFFFF⟩,
    ⟨0x2900, 0x2900, 0x08, 0x08, .u, 2, .ro, .none, none, .any, .c 0⟩,
    ⟨0x2900, 0x2900, 0x09, 0x09, .u, 4, .ro, .none, none, .any, .c 0⟩,
    ⟨0x2900, 0x2900, 0x0A, 0x0A, .u, 4, .ct, .none, none, .any, .c 0⟩,
    ⟨0x2900, 0x2900, 0x0B, 0x0B, .u, 4, .ct, .none, none, .any, .c 0⟩,
    ⟨0x2900, 0x2900, 0x0C, 0x0C, .u, 4, .ct, .none, none, .any, .c 0⟩,
    ⟨0x2900, 0x2900, 0x0D, 0x0D, .u, 4, .ct, .none, none, .any, .c 0⟩,
    ⟨0x2900, 0x2900, 0x0E, 0x0E, .u, 2, .rl, .none, none, .any, .c 0xFFFF⟩,
    ⟨0x2900, 0x2900, 0x0F, 0x0F, .u, 1, .wp, .imm, none, .any, .c 0x00⟩] ++
  [
    ⟨0x2900, 0x2900, 0x10, 0x10, .u, 2, .ro, .none, none, .any, .c 0xFFFF⟩,
    ⟨0x2900, 0x2900, 0x11, 0x11, .b, 1, .rl, .none, none, .any, .c 0x00⟩,
    ⟨0x2900, 0x2900, 0x12, 0x12, .u, 4, .ct, .none, none, .any, .c 0⟩]

/-- 0x2901–0x2904 (spec R338). A write may carry a MARGIN out of its range: the graph check finds it (spec R329, log 94). -/
def objRG : List Entry :=
  [
    ⟨0x2901, 0x2904, 0x00, 0x00, .u, 1, .ro, .none, none, .any, .c 0x09⟩,
    ⟨0x2901, 0x2904, 0x01, 0x01, .u, 2, .rw, .buf, none, .mult, .mult⟩,
    ⟨0x2901, 0x2904, 0x02, 0x02, .u, 2, .rw, .buf, none, .any, .c 0⟩,
    ⟨0x2901, 0x2904, 0x03, 0x03, .u, 4, .rw, .buf, none, .any, .c 200⟩,
    ⟨0x2901, 0x2904, 0x04, 0x04, .u, 2, .ro, .none, none, .any, .c 0⟩,
    ⟨0x2901, 0x2904, 0x05, 0x05, .u, 4, .ro, .none, none, .any, .c 0⟩,
    ⟨0x2901, 0x2904, 0x06, 0x06, .u, 4, .ro, .none, none, .any, .c 0⟩,
    ⟨0x2901, 0x2904, 0x07, 0x07, .u, 8, .ct, .none, none, .any, .c 0⟩,
    ⟨0x2901, 0x2904, 0x08, 0x08, .u, 4, .ct, .none, none, .any, .c 0⟩,
    ⟨0x2901, 0x2904, 0x09, 0x09, .u, 4, .ro, .none, none, .any, .c 0⟩]

/-- 0x2901: MULT of RG0 is read-only (spec R338). -/
def objRG0 : List Entry := objRG.map (fun e => if e.sub == 1 then { e with acc := .ro, com := .none, chk := .any } else e)

/-- 0x2905 (spec R338). -/
def objCORES : List Entry :=
  [
    ⟨0x2905, 0x2905, 0x00, 0x00, .u, 1, .ro, .none, none, .any, .c 0x26⟩,
    ⟨0x2905, 0x2905, 0x01, 0x12, .u, 1, .rl, .none, none, .any, .coreState⟩,
    ⟨0x2905, 0x2905, 0x13, 0x13, .u, 1, .rl, .none, none, .any, .c 16⟩,
    ⟨0x2905, 0x2905, 0x14, 0x14, .u, 1, .rl, .none, none, .any, .c 2⟩,
    ⟨0x2905, 0x2905, 0x15, 0x26, .u, 8, .ct, .none, none, .any, .c 0⟩]

/-- 0x2908 (spec R335). -/
def objTRACE : List Entry :=
  [
    ⟨0x2908, 0x2908, 0x00, 0x00, .u, 1, .ro, .none, none, .any, .c 0x0B⟩,
    ⟨0x2908, 0x2908, 0x01, 0x01, .b, 1, .rw, .imm, none, .any, .c 0x00⟩,
    ⟨0x2908, 0x2908, 0x02, 0x02, .u, 1, .rw, .imm, none, .any, .c 0x7F⟩,
    ⟨0x2908, 0x2908, 0x03, 0x03, .u, 1, .rw, .imm, none, .any, .c 0x0F⟩,
    ⟨0x2908, 0x2908, 0x04, 0x04, .u, 1, .rw, .imm, none, (.rng 0 2), .c 0⟩,
    ⟨0x2908, 0x2908, 0x05, 0x05, .u, 2, .rw, .imm, none, (.rng 0 32767), .c 16384⟩,
    ⟨0x2908, 0x2908, 0x06, 0x06, .b, 1, .rl, .none, none, .any, .c 0x00⟩,
    ⟨0x2908, 0x2908, 0x07, 0x07, .u, 2, .ro, .none, none, .any, .c 0⟩,
    ⟨0x2908, 0x2908, 0x08, 0x08, .b, 1, .rl, .none, none, .any, .c 0x00⟩,
    ⟨0x2908, 0x2908, 0x09, 0x09, .u, 4, .ct, .none, none, .any, .c 0⟩,
    ⟨0x2908, 0x2908, 0x0A, 0x0A, .dom, 0, .ro, .none, none, .any, .c 0⟩,
    ⟨0x2908, 0x2908, 0x0B, 0x0B, .u, 1, .wp, .imm, none, .any, .c 0x00⟩]

/-- 0x2910 (spec R316). -/
def objSINKSRC : List Entry :=
  [
    ⟨0x2910, 0x2910, 0x00, 0x00, .u, 1, .ro, .none, none, .any, .c 0x70⟩,
    ⟨0x2910, 0x2910, 0x01, 0x70, .u, 2, .rw, .buf, none, .any, .c 0x0000⟩]

/-- 0x2911 (spec R316). -/
def objSINKVAL : List Entry :=
  [
    ⟨0x2911, 0x2911, 0x00, 0x00, .u, 1, .ro, .none, none, .any, .c 0x70⟩,
    ⟨0x2911, 0x2911, 0x01, 0x70, .f, 4, .ro, .none, none, .any, .sinkValue⟩]

/-- 0x2912 (spec R316). -/
def objSINKSTALE : List Entry :=
  [
    ⟨0x2912, 0x2912, 0x00, 0x00, .u, 1, .ro, .none, none, .any, .c 0x02⟩,
    ⟨0x2912, 0x2912, 0x01, 0x01, .u, 8, .rl, .none, none, .any, .c 0⟩,
    ⟨0x2912, 0x2912, 0x02, 0x02, .u, 8, .rl, .none, none, .any, .c 0⟩]

/-- 0x2920–0x2921 (spec R339). -/
def objPARAM : List Entry :=
  [
    ⟨0x2920, 0x2921, 0x00, 0x00, .u, 1, .ro, .none, none, .any, .c 0x80⟩,
    ⟨0x2920, 0x2921, 0x01, 0x80, .f, 4, .rw, .buf, none, .fin, .c 0x0⟩]

/-- 0x2960–0x297F (spec R339). -/
def objLOOKUP : List Entry :=
  [
    ⟨0x2960, 0x297F, 0x00, 0x00, .u, 1, .ro, .none, none, .any, .c 0x04⟩,
    ⟨0x2960, 0x297F, 0x01, 0x01, .u, 2, .rw, .buf, none, (.rng 2 256), .c 2⟩,
    ⟨0x2960, 0x297F, 0x02, 0x02, .f, 4, .rw, .buf, none, .fin, .c 0x0⟩,
    ⟨0x2960, 0x297F, 0x03, 0x03, .f, 4, .rw, .buf, none, .fpos, .c 0x3F800000⟩,
    ⟨0x2960, 0x297F, 0x04, 0x04, .dom, 0, .rw, .buf, none, .any, .c 0⟩]

/-- 0x3000–0x3FFF (spec R310). -/
def objNODE : List Entry :=
  [
    ⟨0x3000, 0x3FFF, 0x00, 0x00, .u, 1, .ro, .none, none, .any, .c 0x1A⟩,
    ⟨0x3000, 0x3FFF, 0x01, 0x01, .u, 4, .rw, .buf, none, .any, .c 0x00000000⟩,
    ⟨0x3000, 0x3FFF, 0x02, 0x05, .u, 2, .rw, .buf, none, .any, .c 0x0000⟩,
    ⟨0x3000, 0x3FFF, 0x06, 0x06, .b, 1, .rw, .buf, some .safety, .any, .c 0x00⟩,
    ⟨0x3000, 0x3FFF, 0x07, 0x0E, .f, 4, .rw, .buf, none, .fin, .c 0x0⟩,
    ⟨0x3000, 0x3FFF, 0x0F, 0x12, .f, 4, .ro, .none, none, .any, .c 0x0⟩,
    ⟨0x3000, 0x3FFF, 0x13, 0x13, .f, 4, .ro, .none, none, .any, .c 0x0⟩,
    ⟨0x3000, 0x3FFF, 0x14, 0x14, .f, 4, .ro, .none, none, .any, .c 0x0⟩,
    ⟨0x3000, 0x3FFF, 0x15, 0x15, .u, 2, .rl, .none, none, .any, .c 0x0000⟩,
    ⟨0x3000, 0x3FFF, 0x16, 0x16, .u, 1, .wp, .imm, none, .any, .c 0x00⟩,
    ⟨0x3000, 0x3FFF, 0x17, 0x17, .u, 1, .wp, .imm, none, .any, .c 0x00⟩,
    ⟨0x3000, 0x3FFF, 0x18, 0x18, .u, 1, .ro, .none, none, .any, .c 0xFF⟩,
    ⟨0x3000, 0x3FFF, 0x19, 0x19, .u, 2, .ro, .none, none, .any, .c 0⟩,
    ⟨0x3000, 0x3FFF, 0x1A, 0x1A, .u, 4, .ct, .none, none, .any, .c 0⟩]

/-- 0x5000 (spec R336). -/
def objSTATS : List Entry :=
  [
    ⟨0x5000, 0x5000, 0x00, 0x00, .u, 1, .ro, .none, none, .any, .c 0x03⟩,
    ⟨0x5000, 0x5000, 0x01, 0x01, .u, 2, .rw, .imm, none, (.rng 1 10000), .c 100⟩,
    ⟨0x5000, 0x5000, 0x02, 0x02, .u, 4, .ct, .none, none, .any, .c 0⟩,
    ⟨0x5000, 0x5000, 0x03, 0x03, .u, 4, .ro, .none, none, .any, .c 0⟩]

/-- 0x5001–0x5004 (spec R336). -/
def objSTATRG : List Entry :=
  [
    ⟨0x5001, 0x5004, 0x00, 0x00, .u, 1, .ro, .none, none, .any, .c 0x05⟩,
    ⟨0x5001, 0x5004, 0x01, 0x01, .u, 2, .ro, .none, none, .any, .c 0⟩,
    ⟨0x5001, 0x5004, 0x02, 0x02, .f, 4, .ro, .none, none, .any, .c 0x0⟩,
    ⟨0x5001, 0x5004, 0x03, 0x03, .u, 4, .ro, .none, none, .any, .c 0⟩,
    ⟨0x5001, 0x5004, 0x04, 0x04, .f, 4, .ro, .none, none, .any, .c 0x0⟩,
    ⟨0x5001, 0x5004, 0x05, 0x05, .u, 4, .ro, .none, none, .any, .c 0⟩]

/-- 0x5010–0x5021 (spec R336). -/
def objSTATK : List Entry :=
  [
    ⟨0x5010, 0x5021, 0x00, 0x00, .u, 1, .ro, .none, none, .any, .c 0x03⟩,
    ⟨0x5010, 0x5021, 0x01, 0x01, .u, 2, .ro, .none, none, .any, .c 0⟩,
    ⟨0x5010, 0x5021, 0x02, 0x02, .u, 2, .ro, .none, none, .any, .c 0⟩,
    ⟨0x5010, 0x5021, 0x03, 0x03, .u, 4, .ro, .none, none, .any, .c 0⟩]

/-- 0x2A00 (spec R355). -/
def objPWMG : List Entry :=
  [
    ⟨0x2A00, 0x2A00, 0x00, 0x00, .u, 1, .ro, .none, none, .any, .c 0x05⟩,
    ⟨0x2A00, 0x2A00, 0x01, 0x01, .u, 1, .rl, .none, none, .any, .c 0x00⟩,
    ⟨0x2A00, 0x2A00, 0x02, 0x02, .u, 1, .wp, .imm, none, .any, .c 0x00⟩,
    ⟨0x2A00, 0x2A00, 0x03, 0x03, .u, 8, .ro, .none, none, .any, .c 0⟩,
    ⟨0x2A00, 0x2A00, 0x04, 0x04, .u, 4, .ct, .none, none, .any, .c 0⟩,
    ⟨0x2A00, 0x2A00, 0x05, 0x05, .u, 1, .rl, .none, none, .any, .c 0xFF⟩]

/-- 0x2A10–0x2A15 (spec R356). -/
def objPWM : List Entry :=
  [
    ⟨0x2A10, 0x2A15, 0x00, 0x00, .u, 1, .ro, .none, none, .any, .c 0x16⟩,
    ⟨0x2A10, 0x2A15, 0x01, 0x01, .b, 1, .rw, .buf, none, .any, .c 0x00⟩,
    ⟨0x2A10, 0x2A15, 0x02, 0x02, .u, 4, .rw, .buf, none, (.rng 32 16777216), .c 62500⟩,
    ⟨0x2A10, 0x2A15, 0x03, 0x03, .u, 4, .rw, .buf, none, .any, .c 0⟩,
    ⟨0x2A10, 0x2A15, 0x04, 0x04, .u, 1, .rw, .buf, none, (.rng 0 1), .c 0⟩,
    ⟨0x2A10, 0x2A15, 0x05, 0x05, .u, 4, .rw, .imm, none, (.rng 0 268435455), .c 0⟩,
    ⟨0x2A10, 0x2A15, 0x06, 0x06, .u, 4, .ro, .none, none, .any, .c 0⟩,
    ⟨0x2A10, 0x2A15, 0x07, 0x07, .u, 2, .rw, .buf, none, (.rng 0 65000), .c 10000⟩,
    ⟨0x2A10, 0x2A15, 0x08, 0x08, .u, 2, .rw, .buf, none, (.rng 0 65000), .c 10000⟩,
    ⟨0x2A10, 0x2A15, 0x09, 0x09, .b, 1, .rw, .buf, none, .any, .c 0x00⟩,
    ⟨0x2A10, 0x2A15, 0x0A, 0x0A, .u, 1, .rw, .buf, none, .any, .c 0x00⟩,
    ⟨0x2A10, 0x2A15, 0x0B, 0x0B, .u, 1, .rw, .buf, some .prot, .any, .bitN⟩,
    ⟨0x2A10, 0x2A15, 0x0C, 0x0C, .u, 1, .rw, .buf, some .prot, (.rng 1 255), .c 1⟩,
    ⟨0x2A10, 0x2A15, 0x0D, 0x0D, .u, 2, .rw, .buf, some .prot, .any, .c 0⟩,
    ⟨0x2A10, 0x2A15, 0x0E, 0x0E, .u, 1, .rl, .none, none, .any, .c 0⟩,
    ⟨0x2A10, 0x2A15, 0x0F, 0x0F, .u, 1, .wp, .imm, none, .any, .c 0x00⟩] ++
  [
    ⟨0x2A10, 0x2A15, 0x10, 0x10, .u, 1, .rl, .none, none, .any, .c 0x00⟩,
    ⟨0x2A10, 0x2A15, 0x11, 0x11, .u, 1, .rl, .none, none, .any, .c 0x00⟩,
    ⟨0x2A10, 0x2A15, 0x12, 0x12, .u, 1, .wp, .imm, none, .any, .c 0x00⟩,
    ⟨0x2A10, 0x2A15, 0x13, 0x13, .u, 4, .ct, .none, none, .any, .c 0⟩,
    ⟨0x2A10, 0x2A15, 0x14, 0x14, .u, 4, .ct, .none, none, .any, .c 0⟩,
    ⟨0x2A10, 0x2A15, 0x15, 0x15, .u, 8, .ct, .none, none, .any, .c 0⟩,
    ⟨0x2A10, 0x2A15, 0x16, 0x16, .u, 8, .ro, .none, none, .any, .c 0⟩]

/-- 0x2B00 (spec R374). -/
def objDAMP : List Entry :=
  [
    ⟨0x2B00, 0x2B00, 0x00, 0x00, .u, 1, .ro, .none, none, .any, .c 0x12⟩,
    ⟨0x2B00, 0x2B00, 0x01, 0x01, .u, 1, .rl, .none, none, .any, .c 0x00⟩,
    ⟨0x2B00, 0x2B00, 0x02, 0x02, .u, 1, .wp, .imm, none, .any, .c 0x00⟩,
    ⟨0x2B00, 0x2B00, 0x03, 0x03, .u, 1, .rw, .buf, some .safety, (.rng 0 6), .c 3⟩,
    ⟨0x2B00, 0x2B00, 0x04, 0x04, .b, 1, .rw, .buf, some .safety, .any, .c 0x00⟩,
    ⟨0x2B00, 0x2B00, 0x05, 0x05, .u, 1, .rw, .buf, some .safety, (.rng 0 6), .c 1⟩,
    ⟨0x2B00, 0x2B00, 0x06, 0x06, .u, 1, .rl, .none, none, .any, .c 0xFF⟩,
    ⟨0x2B00, 0x2B00, 0x07, 0x07, .u, 2, .rl, .none, none, .any, .c 0xFFFF⟩,
    ⟨0x2B00, 0x2B00, 0x08, 0x0B, .u, 8, .rl, .none, none, .any, .c 0⟩,
    ⟨0x2B00, 0x2B00, 0x0C, 0x0C, .u, 8, .ct, .none, none, .any, .c 0⟩,
    ⟨0x2B00, 0x2B00, 0x0D, 0x0D, .u, 1, .wp, .imm, none, .any, .c 0x00⟩,
    ⟨0x2B00, 0x2B00, 0x0E, 0x0E, .u, 2, .ro, .none, none, .any, .c 0⟩,
    ⟨0x2B00, 0x2B00, 0x0F, 0x0F, .u, 4, .ct, .none, none, .any, .c 0⟩,
    ⟨0x2B00, 0x2B00, 0x10, 0x10, .dom, 0, .ro, .none, none, .any, .c 0⟩,
    ⟨0x2B00, 0x2B00, 0x11, 0x11, .b, 1, .ro, .none, none, .any, .c 0⟩,
    ⟨0x2B00, 0x2B00, 0x12, 0x12, .u, 8, .ro, .none, none, .any, .c 0⟩]

/-- 0x4000–0x40FF (spec R375). -/
def objFSRC : List Entry :=
  [
    ⟨0x4000, 0x40FF, 0x00, 0x00, .u, 1, .ro, .none, none, .any, .c 0x0E⟩,
    ⟨0x4000, 0x40FF, 0x01, 0x01, .u, 1, .rw, .buf, some .safety, (.rng 0 6), .react⟩,
    ⟨0x4000, 0x40FF, 0x02, 0x02, .u, 1, .rw, .buf, some .safety, (.rng 0 6), .severeReact⟩,
    ⟨0x4000, 0x40FF, 0x03, 0x03, .u, 1, .rw, .buf, some .safety, (.rng 1 255), .countN⟩,
    ⟨0x4000, 0x40FF, 0x04, 0x04, .u, 4, .rw, .buf, some .safety, (.rng 10 10000000), .window⟩,
    ⟨0x4000, 0x40FF, 0x05, 0x05, .u, 1, .rw, .buf, some .safety, .any, .armMask⟩,
    ⟨0x4000, 0x40FF, 0x06, 0x06, .b, 1, .rw, .buf, some .safety, .any, .trip⟩,
    ⟨0x4000, 0x40FF, 0x07, 0x07, .u, 1, .rl, .none, none, .any, .c 0x00⟩,
    ⟨0x4000, 0x40FF, 0x08, 0x08, .u, 1, .rl, .none, none, .any, .c 0xFF⟩,
    ⟨0x4000, 0x40FF, 0x09, 0x09, .u, 1, .wp, .imm, none, .any, .c 0x00⟩,
    ⟨0x4000, 0x40FF, 0x0A, 0x0A, .u, 1, .wp, .imm, none, .any, .c 0x00⟩,
    ⟨0x4000, 0x40FF, 0x0B, 0x0B, .u, 4, .ct, .none, none, .any, .c 0⟩,
    ⟨0x4000, 0x40FF, 0x0C, 0x0C, .u, 8, .ro, .none, none, .any, .c 0⟩,
    ⟨0x4000, 0x40FF, 0x0D, 0x0D, .u, 8, .ro, .none, none, .any, .c 0⟩,
    ⟨0x4000, 0x40FF, 0x0E, 0x0E, .u, 1, .rl, .none, none, .any, .c 0⟩]

/-- 0x2C00 (spec R416). -/
def objTWIN : List Entry :=
  [
    ⟨0x2C00, 0x2C00, 0x00, 0x00, .u, 1, .ro, .none, none, .any, .c 0x12⟩,
    ⟨0x2C00, 0x2C00, 0x01, 0x01, .b, 1, .rw, .buf, some .twinRole, .any, .c 0x00⟩,
    ⟨0x2C00, 0x2C00, 0x02, 0x02, .u, 2, .rw, .buf, some .twinRole, (.rng 20 200), .c 30⟩,
    ⟨0x2C00, 0x2C00, 0x03, 0x03, .u, 2, .rw, .buf, some .twinRole, (.rng 5 1000), .c 20⟩,
    ⟨0x2C00, 0x2C00, 0x04, 0x04, .u, 2, .rw, .buf, some .twinRole, (.rng 1 1000), .c 5⟩,
    ⟨0x2C00, 0x2C00, 0x05, 0x05, .u, 2, .rw, .buf, some .twinRole, (.rng 1 100), .c 2⟩,
    ⟨0x2C00, 0x2C00, 0x06, 0x06, .u, 2, .rw, .buf, some .twinRole, (.rng 10 3600), .c 10⟩,
    ⟨0x2C00, 0x2C00, 0x07, 0x07, .u, 2, .rw, .buf, some .twinRole, (.rng 10 3600), .c 60⟩,
    ⟨0x2C00, 0x2C00, 0x08, 0x08, .u, 2, .rt, .none, none, .any, .c 0⟩,
    ⟨0x2C00, 0x2C00, 0x09, 0x09, .u, 1, .rl, .none, none, .any, .c 0⟩,
    ⟨0x2C00, 0x2C00, 0x0A, 0x0A, .u, 1, .rl, .none, none, .any, .c 0⟩,
    ⟨0x2C00, 0x2C00, 0x0B, 0x0B, .u, 1, .rl, .none, none, .any, .c 0x00⟩,
    ⟨0x2C00, 0x2C00, 0x0C, 0x0C, .i, 8, .ro, .none, none, .any, .c 0⟩,
    ⟨0x2C00, 0x2C00, 0x0D, 0x0D, .u, 4, .ro, .none, none, .any, .c 0⟩,
    ⟨0x2C00, 0x2C00, 0x0E, 0x0E, .u, 2, .rl, .none, none, .any, .c 0x0000⟩,
    ⟨0x2C00, 0x2C00, 0x0F, 0x0F, .u, 2, .wp, .imm, none, .any, .c 0x0000⟩] ++
  [
    ⟨0x2C00, 0x2C00, 0x10, 0x10, .u, 4, .ct, .none, none, .any, .c 0⟩,
    ⟨0x2C00, 0x2C00, 0x11, 0x11, .u, 4, .ct, .none, none, .any, .c 0⟩,
    ⟨0x2C00, 0x2C00, 0x12, 0x12, .u, 4, .ct, .none, none, .any, .c 0⟩]

/-- 0x2C01 (spec R417). -/
def objPARTNER : List Entry :=
  [
    ⟨0x2C01, 0x2C01, 0x00, 0x00, .u, 1, .ro, .none, none, .any, .c 0x09⟩,
    ⟨0x2C01, 0x2C01, 0x01, 0x01, .u, 1, .rl, .none, none, .any, .c 0xFF⟩,
    ⟨0x2C01, 0x2C01, 0x02, 0x02, .b, 1, .rl, .none, none, .any, .c 0x00⟩,
    ⟨0x2C01, 0x2C01, 0x03, 0x03, .u, 1, .rl, .none, none, .any, .c 0⟩,
    ⟨0x2C01, 0x2C01, 0x04, 0x04, .u, 4, .ro, .none, none, .any, .c 0⟩,
    ⟨0x2C01, 0x2C01, 0x05, 0x05, .u, 4, .ro, .none, none, .any, .c 0⟩,
    ⟨0x2C01, 0x2C01, 0x06, 0x06, .u, 1, .ro, .none, none, .any, .c 0xFF⟩,
    ⟨0x2C01, 0x2C01, 0x07, 0x07, .u, 4, .ro, .none, none, .any, .c 0⟩,
    ⟨0x2C01, 0x2C01, 0x08, 0x08, .u, 4, .ro, .none, none, .any, .c 0⟩,
    ⟨0x2C01, 0x2C01, 0x09, 0x09, .f, 4, .ro, .none, none, .any, .c 0x0⟩]

/-- 0x2C02 (spec R417). -/
def objEMBER : List Entry :=
  [
    ⟨0x2C02, 0x2C02, 0x00, 0x00, .u, 1, .ro, .none, none, .any, .c 0x08⟩,
    ⟨0x2C02, 0x2C02, 0x01, 0x01, .u, 4, .ct, .none, none, .any, .c 0⟩,
    ⟨0x2C02, 0x2C02, 0x02, 0x02, .u, 4, .ro, .none, none, .any, .c 0⟩,
    ⟨0x2C02, 0x2C02, 0x03, 0x03, .u, 8, .ro, .none, none, .any, .c 0⟩,
    ⟨0x2C02, 0x2C02, 0x04, 0x04, .u, 1, .ro, .none, none, .any, .c 0xFF⟩,
    ⟨0x2C02, 0x2C02, 0x05, 0x05, .u, 2, .rl, .none, none, .any, .c 0⟩,
    ⟨0x2C02, 0x2C02, 0x06, 0x06, .u, 8, .ro, .none, none, .any, .c 0⟩,
    ⟨0x2C02, 0x2C02, 0x07, 0x07, .u, 4, .ct, .none, none, .any, .c 0⟩,
    ⟨0x2C02, 0x2C02, 0x08, 0x08, .dom, 0, .ro, .none, none, .any, .c 0⟩]

/-- 0x2C03 (spec R417). -/
def objTKO : List Entry :=
  [
    ⟨0x2C03, 0x2C03, 0x00, 0x00, .u, 1, .ro, .none, none, .any, .c 0x09⟩,
    ⟨0x2C03, 0x2C03, 0x01, 0x01, .u, 1, .ro, .none, none, .any, .c 0⟩,
    ⟨0x2C03, 0x2C03, 0x02, 0x02, .u, 1, .ro, .none, none, .any, .c 0⟩,
    ⟨0x2C03, 0x2C03, 0x03, 0x03, .u, 1, .ro, .none, none, .any, .c 0xFF⟩,
    ⟨0x2C03, 0x2C03, 0x04, 0x04, .u, 8, .ro, .none, none, .any, .c 0⟩,
    ⟨0x2C03, 0x2C03, 0x05, 0x05, .u, 8, .ro, .none, none, .any, .c 0⟩,
    ⟨0x2C03, 0x2C03, 0x06, 0x06, .u, 4, .ro, .none, none, .any, .c 0⟩,
    ⟨0x2C03, 0x2C03, 0x07, 0x07, .u, 4, .ro, .none, none, .any, .c 0⟩,
    ⟨0x2C03, 0x2C03, 0x08, 0x08, .u, 8, .ro, .none, none, .any, .c 0⟩,
    ⟨0x2C03, 0x2C03, 0x09, 0x09, .u, 2, .ro, .none, none, .any, .c 0⟩]

/-- 0x2D00 (spec R441). -/
def objACQ : List Entry :=
  [
    ⟨0x2D00, 0x2D00, 0x00, 0x00, .u, 1, .ro, .none, none, .any, .c 0x0F⟩,
    ⟨0x2D00, 0x2D00, 0x01, 0x01, .u, 1, .rl, .none, none, .any, .c 0x00⟩,
    ⟨0x2D00, 0x2D00, 0x02, 0x02, .u, 1, .wp, .imm, none, .any, .c 0x00⟩,
    ⟨0x2D00, 0x2D00, 0x03, 0x03, .u, 1, .rl, .none, none, .any, .c 0⟩,
    ⟨0x2D00, 0x2D00, 0x04, 0x04, .u, 1, .wp, .imm, none, .any, .c 0x00⟩,
    ⟨0x2D00, 0x2D00, 0x05, 0x05, .u, 1, .wp, .imm, none, .any, .c 0x00⟩,
    ⟨0x2D00, 0x2D00, 0x06, 0x06, .u, 1, .ro, .none, none, .any, .c 0⟩,
    ⟨0x2D00, 0x2D00, 0x07, 0x07, .u, 1, .rw, .buf, none, (.among [1, 2, 4, 8, 16]), .c 1⟩,
    ⟨0x2D00, 0x2D00, 0x08, 0x08, .u, 1, .ro, .none, none, .any, .c 0xFF⟩,
    ⟨0x2D00, 0x2D00, 0x09, 0x09, .b, 1, .rw, .buf, none, .any, .c 0x00⟩,
    ⟨0x2D00, 0x2D00, 0x0A, 0x0A, .b, 1, .rw, .buf, none, .any, .c 0x00⟩,
    ⟨0x2D00, 0x2D00, 0x0B, 0x0B, .u, 4, .rw, .buf, none, (.rng 0 1000000), .c 1000⟩,
    ⟨0x2D00, 0x2D00, 0x0C, 0x0C, .u, 4, .rw, .buf, none, (.rng 10 1000000), .c 4000⟩,
    ⟨0x2D00, 0x2D00, 0x0D, 0x0D, .f, 4, .ro, .none, none, .any, .c 0x0⟩,
    ⟨0x2D00, 0x2D00, 0x0E, 0x0E, .u, 4, .ro, .none, none, .any, .c 0⟩,
    ⟨0x2D00, 0x2D00, 0x0F, 0x0F, .u, 4, .ct, .none, none, .any, .c 0⟩]

/-- 0x2D01 (spec R442). -/
def objTRIG : List Entry :=
  [
    ⟨0x2D01, 0x2D01, 0x00, 0x00, .u, 1, .ro, .none, none, .any, .c 0x0C⟩,
    ⟨0x2D01, 0x2D01, 0x01, 0x01, .u, 2, .rw, .buf, none, .any, .c 0x0200⟩,
    ⟨0x2D01, 0x2D01, 0x02, 0x02, .u, 1, .rw, .buf, none, .any, .c 0x00⟩,
    ⟨0x2D01, 0x2D01, 0x03, 0x03, .b, 1, .rw, .buf, none, .any, .c 0x00⟩,
    ⟨0x2D01, 0x2D01, 0x04, 0x04, .u, 2, .rw, .buf, none, (.rng 1 1000), .c 10⟩,
    ⟨0x2D01, 0x2D01, 0x05, 0x05, .u, 4, .rw, .buf, none, (.rng 1000 1000000), .c 10000⟩,
    ⟨0x2D01, 0x2D01, 0x06, 0x06, .u, 1, .rw, .buf, none, (.rng 0 6), .c 3⟩,
    ⟨0x2D01, 0x2D01, 0x07, 0x07, .u, 1, .rw, .buf, none, (.rng 0 15), .c 0⟩,
    ⟨0x2D01, 0x2D01, 0x08, 0x08, .u, 1, .rw, .buf, none, .any, .c 0x00⟩,
    ⟨0x2D01, 0x2D01, 0x09, 0x09, .u, 2, .ro, .none, none, .any, .c 0x0000⟩,
    ⟨0x2D01, 0x2D01, 0x0A, 0x0A, .u, 8, .ro, .none, none, .any, .c 0⟩,
    ⟨0x2D01, 0x2D01, 0x0B, 0x0B, .u, 8, .ro, .none, none, .any, .c 0⟩,
    ⟨0x2D01, 0x2D01, 0x0C, 0x0C, .u, 1, .wp, .imm, none, .any, .c 0x00⟩]

/-- 0x2D02–0x2D05 (spec R443). -/
def objTHR : List Entry :=
  [
    ⟨0x2D02, 0x2D05, 0x00, 0x00, .u, 1, .ro, .none, none, .any, .c 0x03⟩,
    ⟨0x2D02, 0x2D05, 0x01, 0x01, .u, 1, .rw, .buf, none, .thrCv, .c 0⟩,
    ⟨0x2D02, 0x2D05, 0x02, 0x02, .i, 2, .rw, .buf, none, .any, .c 0⟩,
    ⟨0x2D02, 0x2D05, 0x03, 0x03, .u, 1, .rw, .buf, none, (.rng 0 2), .c 2⟩]

/-- 0x2D10–0x2D1F (spec R444). -/
def objSTRM : List Entry :=
  [
    ⟨0x2D10, 0x2D1F, 0x00, 0x00, .u, 1, .ro, .none, none, .any, .c 0x06⟩,
    ⟨0x2D10, 0x2D1F, 0x01, 0x01, .u, 1, .rw, .buf, none, (.rng 0 3), .c 0⟩,
    ⟨0x2D10, 0x2D1F, 0x02, 0x02, .u, 2, .rw, .buf, none, .any, .c 0⟩,
    ⟨0x2D10, 0x2D1F, 0x03, 0x03, .u, 2, .rw, .buf, none, .any, .c 1⟩,
    ⟨0x2D10, 0x2D1F, 0x04, 0x04, .u, 2, .rw, .buf, none, .any, .c 1⟩,
    ⟨0x2D10, 0x2D1F, 0x05, 0x05, .f, 4, .ro, .none, none, .any, .c 0x0⟩,
    ⟨0x2D10, 0x2D1F, 0x06, 0x06, .u, 8, .ct, .none, none, .any, .c 0⟩]

/-- 0x2D40–0x2D4F (spec R445). -/
def objSEG : List Entry :=
  [
    ⟨0x2D40, 0x2D4F, 0x00, 0x00, .u, 1, .ro, .none, none, .any, .c 0x05⟩,
    ⟨0x2D40, 0x2D4F, 0x01, 0x01, .u, 1, .rl, .none, none, .any, .c 0⟩,
    ⟨0x2D40, 0x2D4F, 0x02, 0x02, .dom, 0, .ro, .none, none, .any, .c 0⟩,
    ⟨0x2D40, 0x2D4F, 0x03, 0x03, .u, 4, .ro, .none, none, .any, .c 0⟩,
    ⟨0x2D40, 0x2D4F, 0x04, 0x04, .u, 8, .ro, .none, none, .any, .c 0⟩,
    ⟨0x2D40, 0x2D4F, 0x05, 0x05, .u, 1, .wp, .imm, none, .any, .c 0x00⟩]

/-- 0x2D60 (spec R446). -/
def objASH : List Entry :=
  [
    ⟨0x2D60, 0x2D60, 0x00, 0x00, .u, 1, .ro, .none, none, .any, .c 0x12⟩,
    ⟨0x2D60, 0x2D60, 0x01, 0x08, .u, 2, .rw, .buf, none, .ashSrc, .c 0x0510⟩,
    ⟨0x2D60, 0x2D60, 0x09, 0x09, .u, 2, .rw, .buf, none, (.rng 1 65535), .c 1⟩,
    ⟨0x2D60, 0x2D60, 0x0A, 0x0A, .b, 1, .rw, .buf, none, .any, .c 0x01⟩,
    ⟨0x2D60, 0x2D60, 0x0B, 0x0B, .u, 2, .rw, .buf, none, (.rng 0 32767), .c 16384⟩,
    ⟨0x2D60, 0x2D60, 0x0C, 0x0C, .u, 1, .wp, .imm, none, .any, .c 0x00⟩,
    ⟨0x2D60, 0x2D60, 0x0D, 0x0D, .u, 1, .wp, .imm, none, .any, .c 0x00⟩,
    ⟨0x2D60, 0x2D60, 0x0E, 0x0E, .u, 1, .rl, .none, none, .any, .c 0⟩,
    ⟨0x2D60, 0x2D60, 0x0F, 0x0F, .u, 8, .ro, .none, none, .any, .c 0⟩,
    ⟨0x2D60, 0x2D60, 0x10, 0x10, .u, 2, .ro, .none, none, .any, .c 0xFFFF⟩,
    ⟨0x2D60, 0x2D60, 0x11, 0x11, .dom, 0, .ro, .none, none, .any, .c 0⟩,
    ⟨0x2D60, 0x2D60, 0x12, 0x12, .b, 1, .rl, .none, none, .any, .c 0x00⟩]

/-- 0x2D80 (spec R447). -/
def objEC : List Entry :=
  [
    ⟨0x2D80, 0x2D80, 0x00, 0x00, .u, 1, .ro, .none, none, .any, .c 0x05⟩,
    ⟨0x2D80, 0x2D80, 0x01, 0x01, .u, 1, .wp, .imm, none, .any, .c 0x00⟩,
    ⟨0x2D80, 0x2D80, 0x02, 0x02, .u, 1, .rw, .buf, none, .any, .c 0x00⟩,
    ⟨0x2D80, 0x2D80, 0x03, 0x03, .u, 1, .rw, .buf, none, (.rng 0 15), .c 0⟩,
    ⟨0x2D80, 0x2D80, 0x04, 0x04, .u, 8, .ro, .none, none, .any, .c 0⟩,
    ⟨0x2D80, 0x2D80, 0x05, 0x05, .u, 4, .rl, .none, none, .any, .c 0⟩]

/-- 0x2D81–0x2DA0 (spec R447). -/
def objECN : List Entry :=
  [
    ⟨0x2D81, 0x2DA0, 0x00, 0x00, .u, 1, .ro, .none, none, .any, .c 0x06⟩,
    ⟨0x2D81, 0x2DA0, 0x01, 0x01, .u, 2, .rw, .buf, none, .ecSrc, .c 0x1BC⟩,
    ⟨0x2D81, 0x2DA0, 0x02, 0x02, .u, 1, .rw, .buf, none, (.rng 0 4), .c 0⟩,
    ⟨0x2D81, 0x2DA0, 0x03, 0x03, .u, 1, .rw, .buf, none, (.rng 0 15), .c 0⟩,
    ⟨0x2D81, 0x2DA0, 0x04, 0x04, .u, 1, .rw, .buf, none, (.rng 0 15), .c 1⟩,
    ⟨0x2D81, 0x2DA0, 0x05, 0x05, .u, 8, .ct, .none, none, .any, .c 0⟩,
    ⟨0x2D81, 0x2DA0, 0x06, 0x06, .u, 8, .ro, .none, none, .any, .c 0⟩]

/-- 0x2E00 (spec R388). -/
def objMAINT : List Entry :=
  [
    ⟨0x2E00, 0x2E00, 0x00, 0x00, .u, 1, .ro, .none, none, .any, .c 0x11⟩,
    ⟨0x2E00, 0x2E00, 0x01, 0x01, .u, 1, .rl, .none, none, .any, .c 0x00⟩,
    ⟨0x2E00, 0x2E00, 0x02, 0x02, .u, 1, .wp, .imm, none, .any, .c 0x00⟩,
    ⟨0x2E00, 0x2E00, 0x03, 0x03, .u, 1, .rw, .buf, none, .any, .c 0x5D⟩,
    ⟨0x2E00, 0x2E00, 0x04, 0x04, .u, 4, .rw, .buf, none, (.rng 60 86400), .c 3600⟩,
    ⟨0x2E00, 0x2E00, 0x05, 0x05, .u, 4, .rw, .buf, none, (.rng 3600 2592000), .c 86400⟩,
    ⟨0x2E00, 0x2E00, 0x06, 0x06, .u, 1, .rw, .buf, none, (.rng 1 255), .c 3⟩,
    ⟨0x2E00, 0x2E00, 0x07, 0x07, .u, 4, .rw, .buf, none, (.rng 1 2592000), .c 86400⟩,
    ⟨0x2E00, 0x2E00, 0x08, 0x08, .u, 2, .ro, .none, none, .any, .c 1024⟩,
    ⟨0x2E00, 0x2E00, 0x09, 0x09, .u, 1, .ro, .none, none, .any, .c 62⟩,
    ⟨0x2E00, 0x2E00, 0x0A, 0x0A, .f, 4, .ro, .none, none, .any, .c 0x0⟩,
    ⟨0x2E00, 0x2E00, 0x0B, 0x0B, .f, 4, .rw, .buf, some .safety, (.frng 0x3F800000 0x41200000), .c 0x40C00000⟩,
    ⟨0x2E00, 0x2E00, 0x0C, 0x0C, .f, 4, .rw, .buf, some .safety, (.frng 0x3F800000 0x41200000), .c 0x41200000⟩,
    ⟨0x2E00, 0x2E00, 0x0D, 0x0D, .u, 4, .rw, .buf, some .safety, (.rng 1 8760), .c 720⟩,
    ⟨0x2E00, 0x2E00, 0x0E, 0x0E, .u, 4, .ro, .none, none, .any, .c 0⟩,
    ⟨0x2E00, 0x2E00, 0x0F, 0x0F, .u, 1, .rl, .none, none, .any, .c 0⟩] ++
  [
    ⟨0x2E00, 0x2E00, 0x10, 0x10, .u, 4, .ct, .none, none, .any, .c 0⟩,
    ⟨0x2E00, 0x2E00, 0x11, 0x11, .u, 4, .ct, .none, none, .any, .c 0⟩]

/-- 0x2E10–0x2E13 (spec R389). -/
def objMSLOT : List Entry :=
  [
    ⟨0x2E10, 0x2E13, 0x00, 0x00, .u, 1, .ro, .none, none, .any, .c 0x09⟩,
    ⟨0x2E10, 0x2E13, 0x01, 0x01, .u, 1, .rw, .imm, none, .any, .c 0x00⟩,
    ⟨0x2E10, 0x2E13, 0x02, 0x02, .u, 2, .rw, .imm, none, .any, .c 0⟩,
    ⟨0x2E10, 0x2E13, 0x03, 0x03, .u, 1, .wp, .imm, none, .any, .c 0x00⟩,
    ⟨0x2E10, 0x2E13, 0x04, 0x04, .u, 1, .wp, .imm, none, .any, .c 0x00⟩,
    ⟨0x2E10, 0x2E13, 0x05, 0x05, .u, 1, .rl, .none, none, .any, .c 0⟩,
    ⟨0x2E10, 0x2E13, 0x06, 0x06, .u, 1, .rl, .none, none, .any, .c 0x00⟩,
    ⟨0x2E10, 0x2E13, 0x07, 0x07, .u, 4, .ro, .none, none, .any, .c 0⟩,
    ⟨0x2E10, 0x2E13, 0x08, 0x08, .u, 8, .ro, .none, none, .any, .c 0⟩,
    ⟨0x2E10, 0x2E13, 0x09, 0x09, .u, 8, .ro, .none, none, .any, .c 0⟩]

/-- Objects by index range. -/
def objects1 : List (Nat × Nat × List Entry) := [(0x1000, 0x1000, objDEVTYPE), (0x1001, 0x1001, objERRSUM), (0x1008, 0x1008, objDEVNAME), (0x1018, 0x1018, objIDENT), (0x1100, 0x1100, objNET), (0x1101, 0x1102, objNETP), (0x1110, 0x1111, objV4), (0x1112, 0x1113, objV6), (0x1114, 0x1114, objCONVIP), (0x1120, 0x1120, objIOP), (0x1121, 0x1122, objNDEST), (0x1130, 0x113F, objALLOW)]

/-- Objects by index range. -/
def objects20 : List (Nat × Nat × List Entry) := [(0x2000, 0x2000, objDEV), (0x2001, 0x2001, objDEVCMD), (0x2002, 0x2002, objCOMMIT), (0x2003, 0x2003, objCMAP), (0x2004, 0x2004, objUNITSUM), (0x2005, 0x2005, objSUMCTL), (0x2006, 0x2006, objREGST), (0x2008, 0x2008, objLOCK), (0x2009, 0x2009, objKINDLE), (0x200A, 0x200A, objIMAGE), (0x200B, 0x200B, objSTN)]

/-- Objects by index range. -/
def objects21 : List (Nat × Nat × List Entry) := [(0x2100, 0x2100, objTB), (0x2101, 0x2101, objCONVT), (0x2102, 0x2102, objSERVO), (0x2103, 0x2103, objPTP), (0x2104, 0x2105, objPTPP), (0x2106, 0x2106, objPPS), (0x2110, 0x211F, objTC)]

/-- Objects by index range. -/
def objects22 : List (Nat × Nat × List Entry) := [(0x2200, 0x2200, objLINK), (0x2201, 0x2201, objPMAP), (0x2203, 0x2203, objADM), (0x2210, 0x2210, objMBX), (0x2211, 0x2211, objMODE), (0x2212, 0x2212, objLSTAT), (0x2300, 0x2317, objPORT)]

/-- Objects by index range. -/
def objects24 : List (Nat × Nat × List Entry) := [(0x2400, 0x2400, objMEAS), (0x2401, 0x2412, objCV), (0x2420, 0x242B, objOC), (0x2480, 0x2480, objFLUE), (0x2481, 0x2482, objGAU), (0x2500, 0x2500, objARMG), (0x2600, 0x2605, objARM), (0x2700, 0x2700, objSTACKG), (0x2800, 0x2805, objLANE), (0x2806, 0x2806, objSPARE)]

/-- Objects by index range. -/
def objects29 : List (Nat × Nat × List Entry) := [(0x2900, 0x2900, objKILN), (0x2901, 0x2901, objRG0), (0x2902, 0x2904, objRG), (0x2905, 0x2905, objCORES), (0x2908, 0x2908, objTRACE), (0x2910, 0x2910, objSINKSRC), (0x2911, 0x2911, objSINKVAL), (0x2912, 0x2912, objSINKSTALE), (0x2920, 0x2921, objPARAM), (0x2960, 0x297F, objLOOKUP)]

/-- Objects by index range. -/
def objects2A : List (Nat × Nat × List Entry) := [(0x2A00, 0x2A00, objPWMG), (0x2A10, 0x2A15, objPWM), (0x2B00, 0x2B00, objDAMP), (0x2C00, 0x2C00, objTWIN), (0x2C01, 0x2C01, objPARTNER), (0x2C02, 0x2C02, objEMBER), (0x2C03, 0x2C03, objTKO)]

/-- Objects by index range. -/
def objects2D : List (Nat × Nat × List Entry) := [(0x2D00, 0x2D00, objACQ), (0x2D01, 0x2D01, objTRIG), (0x2D02, 0x2D05, objTHR), (0x2D10, 0x2D1F, objSTRM), (0x2D40, 0x2D4F, objSEG), (0x2D60, 0x2D60, objASH), (0x2D80, 0x2D80, objEC), (0x2D81, 0x2DA0, objECN), (0x2E00, 0x2E00, objMAINT), (0x2E10, 0x2E13, objMSLOT)]

/-- Objects by index range. -/
def objectsHi : List (Nat × Nat × List Entry) := [(0x9000, 0x9BFF, objTURF), (0x9E00, 0x9E3F, objSTRANGER), (0x8000, 0x8BFF, objCELL), (0x3000, 0x3FFF, objNODE), (0x5000, 0x5000, objSTATS), (0x5001, 0x5004, objSTATRG), (0x5010, 0x5021, objSTATK), (0x4000, 0x40FF, objFSRC)]

/-- The object that holds an index, from the part of the dictionary its high bits select. -/
def objectsOf (idx : Nat) : List (Nat × Nat × List Entry) :=
  if idx < 0x2000 then objects1
  else if idx < 0x2100 then objects20
  else if idx < 0x2200 then objects21
  else if idx < 0x2400 then objects22
  else if idx < 0x2900 then objects24
  else if idx < 0x2A00 then objects29
  else if idx < 0x2D00 then objects2A
  else if idx < 0x3000 then objects2D
  else objectsHi

/-- The rows of one index; none where no chapter defines it (spec R33). -/
def objectAt (idx : Nat) : Option (List Entry) :=
  ((objectsOf idx).find? (fun o => decide (o.1 ≤ idx) && decide (idx ≤ o.2.1))).map (fun o => o.2.2)

/-- The row of one sub-entry; none where the subindex is reserved (spec R29). -/
def entryAt (idx sub : Nat) : Option Entry :=
  (objectAt idx).bind (fun es => es.find? (fun e => decide (e.sub ≤ sub) && decide (sub ≤ e.subHi)))

end Sys2Proof.Machine
end

