-- ==== Sys2Proof/Machine/RegNames.lean ====
section
/-!
DEFINITION. The names of the object dictionary's sub-entries (spec R29, R33): one key for each row of the object
tables of the chapters, index × 256 + subindex. `n` numbers the object in an array of objects, `i` the sub-entry in
an array of sub-entries.
-/
namespace Sys2Proof.Machine.Reg

/-- 0x1000:00 (spec R34). -/
abbrev DEVTYPE.DEVICE_TYPE : Nat := 0x100000
/-- 0x1001:00 (spec R34). -/
abbrev ERRSUM.ERROR_SUMMARY : Nat := 0x100100
/-- 0x1008:00 (spec R34). -/
abbrev DEVNAME.DEVICE_NAME : Nat := 0x100800
/-- 0x1018:00 (spec R34). -/
abbrev IDENT.IDENTITY_N : Nat := 0x101800
/-- 0x1018:01 (spec R34). -/
abbrev IDENT.VENDOR_ID : Nat := 0x101801
/-- 0x1018:02 (spec R34). -/
abbrev IDENT.PRODUCT_CODE : Nat := 0x101802
/-- 0x1018:03 (spec R34). -/
abbrev IDENT.REVISION : Nat := 0x101803
/-- 0x1018:04 (spec R34). -/
abbrev IDENT.SERIAL : Nat := 0x101804
/-- 0x1100:01 (spec R72). -/
abbrev NET.MODE : Nat := 0x110001
/-- 0x1100:02 (spec R72). -/
abbrev NET.NET0_IF : Nat := 0x110002
/-- 0x1100:03 (spec R72). -/
abbrev NET.NET1_IF : Nat := 0x110003
/-- 0x1100:04 (spec R72). -/
abbrev NET.NET0_EN : Nat := 0x110004
/-- 0x1100:05 (spec R72). -/
abbrev NET.NET1_EN : Nat := 0x110005
/-- 0x1100:06 (spec R72). -/
abbrev NET.MAC_BASE : Nat := 0x110006
/-- 0x1100:07 (spec R72). -/
abbrev NET.LIFE_CHECK : Nat := 0x110007
/-- 0x1100:08 (spec R72). -/
abbrev NET.ENTRY_FORGET : Nat := 0x110008
/-- 0x1101–0x1102:01 (spec R72). -/
abbrev NETP.LINK (n : Nat) : Nat := (0x1101 + n) * 256 + 0x01
/-- 0x1101–0x1102:02 (spec R72). -/
abbrev NETP.RX_FRAMES (n : Nat) : Nat := (0x1101 + n) * 256 + 0x02
/-- 0x1101–0x1102:03 (spec R72). -/
abbrev NETP.TX_FRAMES (n : Nat) : Nat := (0x1101 + n) * 256 + 0x03
/-- 0x1101–0x1102:04 (spec R72). -/
abbrev NETP.RX_ERRORS (n : Nat) : Nat := (0x1101 + n) * 256 + 0x04
/-- 0x1101–0x1102:05 (spec R72). -/
abbrev NETP.WRONG_LAN (n : Nat) : Nat := (0x1101 + n) * 256 + 0x05
/-- 0x1101–0x1102:06 (spec R72). -/
abbrev NETP.DUP_DISCARD (n : Nat) : Nat := (0x1101 + n) * 256 + 0x06
/-- 0x1110–0x1111:01 (spec R72). -/
abbrev V4.V4_EN (n : Nat) : Nat := (0x1110 + n) * 256 + 0x01
/-- 0x1110–0x1111:02 (spec R72). -/
abbrev V4.V4_ADDR (n : Nat) : Nat := (0x1110 + n) * 256 + 0x02
/-- 0x1110–0x1111:03 (spec R72). -/
abbrev V4.V4_PREFIX (n : Nat) : Nat := (0x1110 + n) * 256 + 0x03
/-- 0x1110–0x1111:04 (spec R72). -/
abbrev V4.V4_GATEWAY (n : Nat) : Nat := (0x1110 + n) * 256 + 0x04
/-- 0x1112–0x1113:01 (spec R72). -/
abbrev V6.V6_EN (n : Nat) : Nat := (0x1112 + n) * 256 + 0x01
/-- 0x1112–0x1113:02 (spec R72). -/
abbrev V6.V6_ADDR_HI (n : Nat) : Nat := (0x1112 + n) * 256 + 0x02
/-- 0x1112–0x1113:03 (spec R72). -/
abbrev V6.V6_ADDR_LO (n : Nat) : Nat := (0x1112 + n) * 256 + 0x03
/-- 0x1112–0x1113:04 (spec R72). -/
abbrev V6.V6_PREFIX (n : Nat) : Nat := (0x1112 + n) * 256 + 0x04
/-- 0x1112–0x1113:05 (spec R72). -/
abbrev V6.V6_GW_HI (n : Nat) : Nat := (0x1112 + n) * 256 + 0x05
/-- 0x1112–0x1113:06 (spec R72). -/
abbrev V6.V6_GW_LO (n : Nat) : Nat := (0x1112 + n) * 256 + 0x06
/-- 0x1114:01 (spec R72). -/
abbrev CONVIP.V4_EN : Nat := 0x111401
/-- 0x1114:02 (spec R72). -/
abbrev CONVIP.V4_ADDR : Nat := 0x111402
/-- 0x1114:03 (spec R72). -/
abbrev CONVIP.V4_PREFIX : Nat := 0x111403
/-- 0x1114:04 (spec R72). -/
abbrev CONVIP.V6_EN : Nat := 0x111404
/-- 0x1114:05 (spec R72). -/
abbrev CONVIP.V6_ADDR_HI : Nat := 0x111405
/-- 0x1114:06 (spec R72). -/
abbrev CONVIP.V6_ADDR_LO : Nat := 0x111406
/-- 0x1120:01 (spec R72). -/
abbrev IOP.UDP_PORT : Nat := 0x112001
/-- 0x1120:02 (spec R72). -/
abbrev IOP.DUP_CACHE : Nat := 0x112002
/-- 0x1120:03 (spec R72). -/
abbrev IOP.NOTIFY_GAP : Nat := 0x112003
/-- 0x1120:04 (spec R72). -/
abbrev IOP.ALLOW_EN : Nat := 0x112004
/-- 0x1120:05 (spec R72). -/
abbrev IOP.ALLOW_DROPS : Nat := 0x112005
/-- 0x1120:06 (spec R72). -/
abbrev IOP.DUP_HITS : Nat := 0x112006
/-- 0x1121–0x1122:01 (spec R72). -/
abbrev NDEST.ENABLE (n : Nat) : Nat := (0x1121 + n) * 256 + 0x01
/-- 0x1121–0x1122:02 (spec R72). -/
abbrev NDEST.FAMILY (n : Nat) : Nat := (0x1121 + n) * 256 + 0x02
/-- 0x1121–0x1122:03 (spec R72). -/
abbrev NDEST.ADDR_HI (n : Nat) : Nat := (0x1121 + n) * 256 + 0x03
/-- 0x1121–0x1122:04 (spec R72). -/
abbrev NDEST.ADDR_LO (n : Nat) : Nat := (0x1121 + n) * 256 + 0x04
/-- 0x1121–0x1122:05 (spec R72). -/
abbrev NDEST.PORT (n : Nat) : Nat := (0x1121 + n) * 256 + 0x05
/-- 0x1130–0x113F:01 (spec R65). -/
abbrev ALLOW.ENABLE (n : Nat) : Nat := (0x1130 + n) * 256 + 0x01
/-- 0x1130–0x113F:02 (spec R65). -/
abbrev ALLOW.FAMILY (n : Nat) : Nat := (0x1130 + n) * 256 + 0x02
/-- 0x1130–0x113F:03 (spec R65). -/
abbrev ALLOW.PREFIX_LEN (n : Nat) : Nat := (0x1130 + n) * 256 + 0x03
/-- 0x1130–0x113F:04 (spec R65). -/
abbrev ALLOW.ADDR_HI (n : Nat) : Nat := (0x1130 + n) * 256 + 0x04
/-- 0x1130–0x113F:05 (spec R65). -/
abbrev ALLOW.ADDR_LO (n : Nat) : Nat := (0x1130 + n) * 256 + 0x05
/-- 0x2000:01 (spec R34). -/
abbrev DEV.STATE : Nat := 0x200001
/-- 0x2000:02 (spec R34). -/
abbrev DEV.PREV_STATE : Nat := 0x200002
/-- 0x2001:00 (spec R34). -/
abbrev DEVCMD.DEV_CMD : Nat := 0x200100
/-- 0x2002:01 (spec R48). -/
abbrev COMMIT.STROBE : Nat := 0x200201
/-- 0x2002:02 (spec R48). -/
abbrev COMMIT.PENDING : Nat := 0x200202
/-- 0x2002:03 (spec R48). -/
abbrev COMMIT.SRC_FRAME : Nat := 0x200203
/-- 0x2002:04 (spec R48). -/
abbrev COMMIT.SRC_PIN : Nat := 0x200204
/-- 0x2002:05 (spec R48). -/
abbrev COMMIT.PIN_EDGE : Nat := 0x200205
/-- 0x2002:06 (spec R48). -/
abbrev COMMIT.SRC_TIME : Nat := 0x200206
/-- 0x2002:07 (spec R48). -/
abbrev COMMIT.TIME_AT : Nat := 0x200207
/-- 0x2002:08 (spec R48). -/
abbrev COMMIT.TIME_ARM : Nat := 0x200208
/-- 0x2002:09 (spec R48). -/
abbrev COMMIT.TIME_ARMED : Nat := 0x200209
/-- 0x2002:10–17 (spec R48). -/
abbrev COMMIT.LAST_SI (i : Nat) : Nat := 0x2002 * 256 + (0x10 + i)
/-- 0x2003:01–0A (spec R46). -/
abbrev CMAP.GROUP (i : Nat) : Nat := 0x2003 * 256 + (0x01 + i)
/-- 0x2004:00 (spec R53). -/
abbrev UNITSUM.UNIT_SUMMARY : Nat := 0x200400
/-- 0x2005:01 (spec R56). -/
abbrev SUMCTL.IRQ_MASK : Nat := 0x200501
/-- 0x2005:02 (spec R56). -/
abbrev SUMCTL.NOTIFY_MASK : Nat := 0x200502
/-- 0x2006:01 (spec R44). -/
abbrev REGST.LEAVES : Nat := 0x200601
/-- 0x2006:02 (spec R44). -/
abbrev REGST.ACK : Nat := 0x200602
/-- 0x2006:03 (spec R44). -/
abbrev REGST.RSV03 : Nat := 0x200603
/-- 0x2006:04 (spec R44). -/
abbrev REGST.RSV04 : Nat := 0x200604
/-- 0x2006:05 (spec R44). -/
abbrev REGST.LAST_VIOL : Nat := 0x200605
/-- 0x2006:06 (spec R44). -/
abbrev REGST.VIOL_COUNT : Nat := 0x200606
/-- 0x2006:07 (spec R44). -/
abbrev REGST.SPI_CRC_COUNT : Nat := 0x200607
/-- 0x2006:08 (spec R44). -/
abbrev REGST.IOP_BAD_COUNT : Nat := 0x200608
/-- 0x2008:00 (spec R40). -/
abbrev LOCK.LOCK : Nat := 0x200800
/-- 0x2009:01 (spec R91). -/
abbrev KINDLE.STRAPS : Nat := 0x200901
/-- 0x2009:02 (spec R91). -/
abbrev KINDLE.PHASE : Nat := 0x200902
/-- 0x2009:03 (spec R91). -/
abbrev KINDLE.SOURCE : Nat := 0x200903
/-- 0x2009:04 (spec R91). -/
abbrev KINDLE.GENERATION : Nat := 0x200904
/-- 0x2009:05 (spec R91). -/
abbrev KINDLE.IMG_A : Nat := 0x200905
/-- 0x2009:06 (spec R91). -/
abbrev KINDLE.IMG_B : Nat := 0x200906
/-- 0x2009:07 (spec R91). -/
abbrev KINDLE.IMG_EXT : Nat := 0x200907
/-- 0x2009:08 (spec R91). -/
abbrev KINDLE.FAIL_OFFSET : Nat := 0x200908
/-- 0x2009:09 (spec R91). -/
abbrev KINDLE.POST_FAIL : Nat := 0x200909
/-- 0x2009:0A (spec R91). -/
abbrev KINDLE.REPAIRED : Nat := 0x20090A
/-- 0x2009:0B (spec R91). -/
abbrev KINDLE.KINDLE_US : Nat := 0x20090B
/-- 0x2009:0C (spec R91). -/
abbrev KINDLE.RESET_CAUSE : Nat := 0x20090C
/-- 0x200A:01 (spec R93). -/
abbrev IMAGE.WINDOW : Nat := 0x200A01
/-- 0x200A:02 (spec R93). -/
abbrev IMAGE.TARGET : Nat := 0x200A02
/-- 0x200A:03 (spec R93). -/
abbrev IMAGE.VERIFY : Nat := 0x200A03
/-- 0x200A:04 (spec R93). -/
abbrev IMAGE.ERASE : Nat := 0x200A04
/-- 0x200B:01–08 (spec R103). -/
abbrev STN.IN_CFG (i : Nat) : Nat := 0x200B * 256 + (0x01 + i)
/-- 0x200B:09–10 (spec R103). -/
abbrev STN.IN_FILTER (i : Nat) : Nat := 0x200B * 256 + (0x09 + i)
/-- 0x200B:11–18 (spec R103). -/
abbrev STN.OUT_CFG (i : Nat) : Nat := 0x200B * 256 + (0x11 + i)
/-- 0x200B:19 (spec R103). -/
abbrev STN.IN_LEVEL : Nat := 0x200B19
/-- 0x200B:1A (spec R103). -/
abbrev STN.OUT_LEVEL : Nat := 0x200B1A
/-- 0x200B:1B (spec R103). -/
abbrev STN.CLOSE_WIDTH : Nat := 0x200B1B
/-- 0x200B:1C (spec R103). -/
abbrev STN.CLOSE_ARM : Nat := 0x200B1C
/-- 0x200B:1D (spec R103). -/
abbrev STN.CLOSE_ARMED : Nat := 0x200B1D
/-- 0x200B:1E (spec R103). -/
abbrev STN.LEAVES : Nat := 0x200B1E
/-- 0x200B:1F (spec R103). -/
abbrev STN.ACK : Nat := 0x200B1F
/-- 0x2100:01 (spec R112). -/
abbrev TB.TT : Nat := 0x210001
/-- 0x2100:02 (spec R112). -/
abbrev TB.RATE : Nat := 0x210002
/-- 0x2100:03 (spec R112). -/
abbrev TB.OFFSET : Nat := 0x210003
/-- 0x2100:04 (spec R112). -/
abbrev TB.EPOCH_SEC : Nat := 0x210004
/-- 0x2100:05 (spec R112). -/
abbrev TB.LATCH : Nat := 0x210005
/-- 0x2100:06 (spec R112). -/
abbrev TB.LATCH_TT : Nat := 0x210006
/-- 0x2100:07 (spec R112). -/
abbrev TB.LATCH_ST_SEC : Nat := 0x210007
/-- 0x2100:08 (spec R112). -/
abbrev TB.LATCH_ST_SUB : Nat := 0x210008
/-- 0x2100:09 (spec R112). -/
abbrev TB.LATCH_RATE : Nat := 0x210009
/-- 0x2100:0A (spec R112). -/
abbrev TB.LEAVES : Nat := 0x21000A
/-- 0x2100:0B (spec R112). -/
abbrev TB.ACK : Nat := 0x21000B
/-- 0x2100:0C (spec R112). -/
abbrev TB.XCHECK_ERRORS : Nat := 0x21000C
/-- 0x2100:0D (spec R112). -/
abbrev TB.STEPS : Nat := 0x21000D
/-- 0x2101:01 (spec R113). -/
abbrev CONVT.IN_SEC : Nat := 0x210101
/-- 0x2101:02 (spec R113). -/
abbrev CONVT.IN_SUB : Nat := 0x210102
/-- 0x2101:03 (spec R113). -/
abbrev CONVT.CONVERT : Nat := 0x210103
/-- 0x2101:04 (spec R113). -/
abbrev CONVT.OUT_TT : Nat := 0x210104
/-- 0x2101:05 (spec R113). -/
abbrev CONVT.OUT_STATUS : Nat := 0x210105
/-- 0x2102:01 (spec R117). -/
abbrev SERVO.ENABLE : Nat := 0x210201
/-- 0x2102:02 (spec R117). -/
abbrev SERVO.SOURCE : Nat := 0x210202
/-- 0x2102:03 (spec R117). -/
abbrev SERVO.KP : Nat := 0x210203
/-- 0x2102:04 (spec R117). -/
abbrev SERVO.KI : Nat := 0x210204
/-- 0x2102:05 (spec R117). -/
abbrev SERVO.STEP_MODE : Nat := 0x210205
/-- 0x2102:06 (spec R117). -/
abbrev SERVO.STEP_THRESHOLD : Nat := 0x210206
/-- 0x2102:07 (spec R117). -/
abbrev SERVO.RATE_LIMIT : Nat := 0x210207
/-- 0x2102:08 (spec R117). -/
abbrev SERVO.LOCK_THRESHOLD : Nat := 0x210208
/-- 0x2102:09 (spec R117). -/
abbrev SERVO.LOCK_COUNT : Nat := 0x210209
/-- 0x2102:0A (spec R117). -/
abbrev SERVO.ALARM_THRESHOLD : Nat := 0x21020A
/-- 0x2102:0B (spec R117). -/
abbrev SERVO.STATE : Nat := 0x21020B
/-- 0x2102:0C (spec R117). -/
abbrev SERVO.LAST_THETA : Nat := 0x21020C
/-- 0x2102:0D (spec R117). -/
abbrev SERVO.LAST_TS : Nat := 0x21020D
/-- 0x2102:0E (spec R117). -/
abbrev SERVO.LAST_STEP_TT : Nat := 0x21020E
/-- 0x2102:0F (spec R117). -/
abbrev SERVO.LAST_STEP_SIZE : Nat := 0x21020F
/-- 0x2103:01 (spec R121). -/
abbrev PTP.DOMAIN : Nat := 0x210301
/-- 0x2103:02 (spec R121). -/
abbrev PTP.PORT_EN : Nat := 0x210302
/-- 0x2103:03 (spec R121). -/
abbrev PTP.VLAN_EN : Nat := 0x210303
/-- 0x2103:04 (spec R121). -/
abbrev PTP.VLAN_ID : Nat := 0x210304
/-- 0x2103:05 (spec R121). -/
abbrev PTP.VLAN_PCP : Nat := 0x210305
/-- 0x2103:06 (spec R121). -/
abbrev PTP.ANNOUNCE_TIMEOUT : Nat := 0x210306
/-- 0x2103:07 (spec R121). -/
abbrev PTP.PDELAY_INTERVAL : Nat := 0x210307
/-- 0x2103:08 (spec R121). -/
abbrev PTP.SYNC_TIMEOUT : Nat := 0x210308
/-- 0x2103:09 (spec R121). -/
abbrev PTP.MASTER_ID : Nat := 0x210309
/-- 0x2103:0A (spec R121). -/
abbrev PTP.MASTER_PORT : Nat := 0x21030A
/-- 0x2103:0B (spec R121). -/
abbrev PTP.ACTIVE_PORT : Nat := 0x21030B
/-- 0x2103:0C (spec R121). -/
abbrev PTP.SYNC_RX : Nat := 0x21030C
/-- 0x2103:0D (spec R121). -/
abbrev PTP.DISCARDED : Nat := 0x21030D
/-- 0x2104–0x2105:01 (spec R121). -/
abbrev PTPP.TX_EXT (n : Nat) : Nat := (0x2104 + n) * 256 + 0x01
/-- 0x2104–0x2105:02 (spec R121). -/
abbrev PTPP.RX_EXT (n : Nat) : Nat := (0x2104 + n) * 256 + 0x02
/-- 0x2104–0x2105:03 (spec R121). -/
abbrev PTPP.ASYMMETRY (n : Nat) : Nat := (0x2104 + n) * 256 + 0x03
/-- 0x2104–0x2105:04 (spec R121). -/
abbrev PTPP.TX_INT (n : Nat) : Nat := (0x2104 + n) * 256 + 0x04
/-- 0x2104–0x2105:05 (spec R121). -/
abbrev PTPP.RX_INT (n : Nat) : Nat := (0x2104 + n) * 256 + 0x05
/-- 0x2104–0x2105:06 (spec R121). -/
abbrev PTPP.LINK_DELAY (n : Nat) : Nat := (0x2104 + n) * 256 + 0x06
/-- 0x2106:01 (spec R124). -/
abbrev PPS.IN_EN : Nat := 0x210601
/-- 0x2106:02 (spec R124). -/
abbrev PPS.IN_EDGE : Nat := 0x210602
/-- 0x2106:03 (spec R124). -/
abbrev PPS.IN_DELAY : Nat := 0x210603
/-- 0x2106:04 (spec R124). -/
abbrev PPS.IN_LAST_TT : Nat := 0x210604
/-- 0x2106:05 (spec R124). -/
abbrev PPS.IN_ERROR : Nat := 0x210605
/-- 0x2106:06 (spec R124). -/
abbrev PPS.IN_ALARM : Nat := 0x210606
/-- 0x2106:07 (spec R124). -/
abbrev PPS.OUT_MODE : Nat := 0x210607
/-- 0x2106:08 (spec R124). -/
abbrev PPS.OUT_WIDTH : Nat := 0x210608
/-- 0x2106:09 (spec R124). -/
abbrev PPS.OUT_QUAL : Nat := 0x210609
/-- 0x2106:0A (spec R124). -/
abbrev PPS.OUT_DELAY : Nat := 0x21060A
/-- 0x2110–0x211F:01 (spec R133). -/
abbrev TC.TARGET (n : Nat) : Nat := (0x2110 + n) * 256 + 0x01
/-- 0x2110–0x211F:02 (spec R133). -/
abbrev TC.PERIOD (n : Nat) : Nat := (0x2110 + n) * 256 + 0x02
/-- 0x2110–0x211F:03 (spec R133). -/
abbrev TC.ROUTE (n : Nat) : Nat := (0x2110 + n) * 256 + 0x03
/-- 0x2110–0x211F:04 (spec R133). -/
abbrev TC.ARM (n : Nat) : Nat := (0x2110 + n) * 256 + 0x04
/-- 0x2110–0x211F:05 (spec R133). -/
abbrev TC.DISARM (n : Nat) : Nat := (0x2110 + n) * 256 + 0x05
/-- 0x2110–0x211F:06 (spec R133). -/
abbrev TC.STATUS (n : Nat) : Nat := (0x2110 + n) * 256 + 0x06
/-- 0x2110–0x211F:07 (spec R133). -/
abbrev TC.FIRED_AT (n : Nat) : Nat := (0x2110 + n) * 256 + 0x07
/-- 0x2110–0x211F:08 (spec R133). -/
abbrev TC.MISSED (n : Nat) : Nat := (0x2110 + n) * 256 + 0x08
/-- 0x2110–0x211F:09 (spec R133). -/
abbrev TC.ACK (n : Nat) : Nat := (0x2110 + n) * 256 + 0x09
/-- 0x2200:01 (spec R160). -/
abbrev LINK.TF : Nat := 0x220001
/-- 0x2200:02 (spec R160). -/
abbrev LINK.RANGE_INTERVAL : Nat := 0x220002
/-- 0x2200:03 (spec R160). -/
abbrev LINK.RANGE_TRIES : Nat := 0x220003
/-- 0x2200:04 (spec R160). -/
abbrev LINK.BO_MAX_EXP : Nat := 0x220004
/-- 0x2200:05 (spec R160). -/
abbrev LINK.QUIET_FRAMES : Nat := 0x220005
/-- 0x2200:06 (spec R160). -/
abbrev LINK.RQ_MAX : Nat := 0x220006
/-- 0x2200:07 (spec R160). -/
abbrev LINK.ABSENT_AFTER : Nat := 0x220007
/-- 0x2200:08 (spec R160). -/
abbrev LINK.STRANGER_POLICY : Nat := 0x220008
/-- 0x2200:09 (spec R160). -/
abbrev LINK.STRANGERS : Nat := 0x220009
/-- 0x2200:0A (spec R160). -/
abbrev LINK.STRANGER_OVERFLOW : Nat := 0x22000A
/-- 0x2200:0B (spec R160). -/
abbrev LINK.DUP_SERIALS : Nat := 0x22000B
/-- 0x2200:0C (spec R160). -/
abbrev LINK.LAST_FAULT_PORT : Nat := 0x22000C
/-- 0x2201:01–18 (spec R158). -/
abbrev PMAP.PORT_ARM (i : Nat) : Nat := 0x2201 * 256 + (0x01 + i)
/-- 0x2201:19 (spec R158). -/
abbrev PMAP.MAP_STATUS : Nat := 0x220119
/-- 0x2203:01–06 (spec R159). -/
abbrev ADM.ADMIT_MIN (i : Nat) : Nat := 0x2203 * 256 + (0x01 + i)
/-- 0x2210:01 (spec R201). -/
abbrev MBX.TARGET : Nat := 0x221001
/-- 0x2210:02 (spec R201). -/
abbrev MBX.PARAM : Nat := 0x221002
/-- 0x2210:03 (spec R201). -/
abbrev MBX.OP : Nat := 0x221003
/-- 0x2210:04 (spec R201). -/
abbrev MBX.LENGTH : Nat := 0x221004
/-- 0x2210:05 (spec R201). -/
abbrev MBX.DATA : Nat := 0x221005
/-- 0x2210:06 (spec R201). -/
abbrev MBX.START : Nat := 0x221006
/-- 0x2210:07 (spec R201). -/
abbrev MBX.STATUS : Nat := 0x221007
/-- 0x2210:08 (spec R201). -/
abbrev MBX.CELL_STATUS : Nat := 0x221008
/-- 0x2210:09 (spec R201). -/
abbrev MBX.RSP_LENGTH : Nat := 0x221009
/-- 0x2210:0A (spec R201). -/
abbrev MBX.RSP_DATA : Nat := 0x22100A
/-- 0x2210:0B (spec R201). -/
abbrev MBX.TRIES : Nat := 0x22100B
/-- 0x2211:01 (spec R205). -/
abbrev MODE.ARM_MASK : Nat := 0x221101
/-- 0x2211:02 (spec R205). -/
abbrev MODE.PROFILE : Nat := 0x221102
/-- 0x2211:03 (spec R205). -/
abbrev MODE.QUORUM : Nat := 0x221103
/-- 0x2211:04 (spec R205). -/
abbrev MODE.PREP_FRAMES : Nat := 0x221104
/-- 0x2211:05 (spec R205). -/
abbrev MODE.LEAD : Nat := 0x221105
/-- 0x2211:06 (spec R205). -/
abbrev MODE.START : Nat := 0x221106
/-- 0x2211:07 (spec R205). -/
abbrev MODE.ABORT : Nat := 0x221107
/-- 0x2211:08 (spec R205). -/
abbrev MODE.STATE : Nat := 0x221108
/-- 0x2211:09 (spec R205). -/
abbrev MODE.COMMIT_TT : Nat := 0x221109
/-- 0x2211:0A (spec R205). -/
abbrev MODE.TARGETS : Nat := 0x22110A
/-- 0x2211:0B (spec R205). -/
abbrev MODE.ACKED : Nat := 0x22110B
/-- 0x2211:0C (spec R205). -/
abbrev MODE.FORCED : Nat := 0x22110C
/-- 0x2211:0D–12 (spec R205). -/
abbrev MODE.PROFILE_ARM (i : Nat) : Nat := 0x2211 * 256 + (0x0D + i)
/-- 0x2212:01 (spec R209). -/
abbrev LSTAT.LEAVES : Nat := 0x221201
/-- 0x2212:02 (spec R209). -/
abbrev LSTAT.ACK : Nat := 0x221202
/-- 0x2212:03 (spec R209). -/
abbrev LSTAT.ECHO_MISMATCH : Nat := 0x221203
/-- 0x2212:04 (spec R209). -/
abbrev LSTAT.STATE_MISMATCH : Nat := 0x221204
/-- 0x2212:05 (spec R209). -/
abbrev LSTAT.REPEATS : Nat := 0x221205
/-- 0x2212:06 (spec R209). -/
abbrev LSTAT.DISPUTE_FAILED : Nat := 0x221206
/-- 0x2212:07 (spec R209). -/
abbrev LSTAT.BLOCK_FAILED : Nat := 0x221207
/-- 0x2212:08 (spec R209). -/
abbrev LSTAT.MISPLACED : Nat := 0x221208
/-- 0x2212:09 (spec R209). -/
abbrev LSTAT.LATE_REPORTED : Nat := 0x221209
/-- 0x2212:0A (spec R209). -/
abbrev LSTAT.REJECT_REPORTED : Nat := 0x22120A
/-- 0x2212:0B (spec R209). -/
abbrev LSTAT.FAULT_REPORTED : Nat := 0x22120B
/-- 0x2212:0C (spec R209). -/
abbrev LSTAT.MGMT_RESENDS : Nat := 0x22120C
/-- 0x2212:0D (spec R209). -/
abbrev LSTAT.LAST_CELL : Nat := 0x22120D
/-- 0x2300–0x2317:01 (spec R161). -/
abbrev PORT.EQ_TARGET (n : Nat) : Nat := (0x2300 + n) * 256 + 0x01
/-- 0x2300–0x2317:02 (spec R161). -/
abbrev PORT.N_SOD (n : Nat) : Nat := (0x2300 + n) * 256 + 0x02
/-- 0x2300–0x2317:03 (spec R161). -/
abbrev PORT.MGMT_SLOTS (n : Nat) : Nat := (0x2300 + n) * 256 + 0x03
/-- 0x2300–0x2317:04 (spec R161). -/
abbrev PORT.TINDER_LO (n : Nat) : Nat := (0x2300 + n) * 256 + 0x04
/-- 0x2300–0x2317:05 (spec R161). -/
abbrev PORT.TINDER_HI (n : Nat) : Nat := (0x2300 + n) * 256 + 0x05
/-- 0x2300–0x2317:06 (spec R161). -/
abbrev PORT.ASYM (n : Nat) : Nat := (0x2300 + n) * 256 + 0x06
/-- 0x2300–0x2317:07 (spec R161). -/
abbrev PORT.TINDER_EN (n : Nat) : Nat := (0x2300 + n) * 256 + 0x07
/-- 0x2300–0x2317:08 (spec R161). -/
abbrev PORT.STATE (n : Nat) : Nat := (0x2300 + n) * 256 + 0x08
/-- 0x2300–0x2317:09 (spec R161). -/
abbrev PORT.PLAN_SLACK (n : Nat) : Nat := (0x2300 + n) * 256 + 0x09
/-- 0x2300–0x2317:0A (spec R161). -/
abbrev PORT.LEAVES (n : Nat) : Nat := (0x2300 + n) * 256 + 0x0A
/-- 0x2300–0x2317:0B (spec R161). -/
abbrev PORT.ACK (n : Nat) : Nat := (0x2300 + n) * 256 + 0x0B
/-- 0x2300–0x2317:0C (spec R161). -/
abbrev PORT.ACTIVE_CELLS (n : Nat) : Nat := (0x2300 + n) * 256 + 0x0C
/-- 0x2300–0x2317:0D (spec R161). -/
abbrev PORT.RANGE_QUEUE (n : Nat) : Nat := (0x2300 + n) * 256 + 0x0D
/-- 0x2300–0x2317:0E (spec R161). -/
abbrev PORT.LAST_RANGED (n : Nat) : Nat := (0x2300 + n) * 256 + 0x0E
/-- 0x2300–0x2317:0F (spec R161). -/
abbrev PORT.LAST_RTT (n : Nat) : Nat := (0x2300 + n) * 256 + 0x0F
/-- 0x2300–0x2317:10 (spec R161). -/
abbrev PORT.LAST_EQD (n : Nat) : Nat := (0x2300 + n) * 256 + 0x10
/-- 0x2300–0x2317:11 (spec R161). -/
abbrev PORT.LAST_DL_DELAY (n : Nat) : Nat := (0x2300 + n) * 256 + 0x11
/-- 0x2300–0x2317:12 (spec R161). -/
abbrev PORT.SOD_OK (n : Nat) : Nat := (0x2300 + n) * 256 + 0x12
/-- 0x2300–0x2317:13 (spec R161). -/
abbrev PORT.SOD_CRC (n : Nat) : Nat := (0x2300 + n) * 256 + 0x13
/-- 0x2300–0x2317:14 (spec R161). -/
abbrev PORT.SOD_MISSED (n : Nat) : Nat := (0x2300 + n) * 256 + 0x14
/-- 0x2300–0x2317:15 (spec R161). -/
abbrev PORT.CODE_VIOL (n : Nat) : Nat := (0x2300 + n) * 256 + 0x15
/-- 0x2300–0x2317:16 (spec R161). -/
abbrev PORT.UNEXPECTED (n : Nat) : Nat := (0x2300 + n) * 256 + 0x16
/-- 0x2300–0x2317:17 (spec R161). -/
abbrev PORT.TINDER_HEARD (n : Nat) : Nat := (0x2300 + n) * 256 + 0x17
/-- 0x2300–0x2317:18 (spec R161). -/
abbrev PORT.TINDER_COLLIDED (n : Nat) : Nat := (0x2300 + n) * 256 + 0x18
/-- 0x2300–0x2317:19 (spec R161). -/
abbrev PORT.RANGE_OK (n : Nat) : Nat := (0x2300 + n) * 256 + 0x19
/-- 0x2300–0x2317:1A (spec R161). -/
abbrev PORT.RANGE_FAIL (n : Nat) : Nat := (0x2300 + n) * 256 + 0x1A
/-- 0x2300–0x2317:1B (spec R161). -/
abbrev PORT.EQ_ADJUSTS (n : Nat) : Nat := (0x2300 + n) * 256 + 0x1B
/-- 0x2300–0x2317:1C (spec R161). -/
abbrev PORT.LOS_FRAMES (n : Nat) : Nat := (0x2300 + n) * 256 + 0x1C
/-- 0x2300–0x2317:1D (spec R161). -/
abbrev PORT.BEACON_DISPLACED (n : Nat) : Nat := (0x2300 + n) * 256 + 0x1D
/-- 0x2300–0x2317:1E (spec R161). -/
abbrev PORT.ERR_LIMIT (n : Nat) : Nat := (0x2300 + n) * 256 + 0x1E
/-- 0x2300–0x2317:1F (spec R161). -/
abbrev PORT.ERR_WINDOW (n : Nat) : Nat := (0x2300 + n) * 256 + 0x1F
/-- 0x2400:01 (spec R226). -/
abbrev MEAS.LEAVES : Nat := 0x240001
/-- 0x2400:02 (spec R226). -/
abbrev MEAS.ACK : Nat := 0x240002
/-- 0x2400:03 (spec R226). -/
abbrev MEAS.CAL_ALL : Nat := 0x240003
/-- 0x2400:04 (spec R226). -/
abbrev MEAS.OVERRUNS : Nat := 0x240004
/-- 0x2400:05 (spec R226). -/
abbrev MEAS.LEG_LIMIT : Nat := 0x240005
/-- 0x2401–0x2412:01 (spec R229). -/
abbrev CV.AIN (n : Nat) : Nat := (0x2401 + n) * 256 + 0x01
/-- 0x2401–0x2412:02 (spec R229). -/
abbrev CV.GAIN (n : Nat) : Nat := (0x2401 + n) * 256 + 0x02
/-- 0x2401–0x2412:03 (spec R229). -/
abbrev CV.FILTER (n : Nat) : Nat := (0x2401 + n) * 256 + 0x03
/-- 0x2401–0x2412:04 (spec R229). -/
abbrev CV.START_SRC (n : Nat) : Nat := (0x2401 + n) * 256 + 0x04
/-- 0x2401–0x2412:05 (spec R229). -/
abbrev CV.GRID_DIV (n : Nat) : Nat := (0x2401 + n) * 256 + 0x05
/-- 0x2401–0x2412:06 (spec R229). -/
abbrev CV.PHASE (n : Nat) : Nat := (0x2401 + n) * 256 + 0x06
/-- 0x2401–0x2412:07 (spec R229). -/
abbrev CV.DELAY (n : Nat) : Nat := (0x2401 + n) * 256 + 0x07
/-- 0x2401–0x2412:08 (spec R229). -/
abbrev CV.URGENT_SRC (n : Nat) : Nat := (0x2401 + n) * 256 + 0x08
/-- 0x2401–0x2412:09 (spec R229). -/
abbrev CV.URGENT (n : Nat) : Nat := (0x2401 + n) * 256 + 0x09
/-- 0x2401–0x2412:0A (spec R229). -/
abbrev CV.SCALE (n : Nat) : Nat := (0x2401 + n) * 256 + 0x0A
/-- 0x2401–0x2412:0B (spec R229). -/
abbrev CV.BIAS (n : Nat) : Nat := (0x2401 + n) * 256 + 0x0B
/-- 0x2401–0x2412:0C (spec R229). -/
abbrev CV.CAL (n : Nat) : Nat := (0x2401 + n) * 256 + 0x0C
/-- 0x2401–0x2412:0D (spec R229). -/
abbrev CV.CAL_STATE (n : Nat) : Nat := (0x2401 + n) * 256 + 0x0D
/-- 0x2401–0x2412:0E (spec R229). -/
abbrev CV.REDUNDANT (n : Nat) : Nat := (0x2401 + n) * 256 + 0x0E
/-- 0x2401–0x2412:0F (spec R229). -/
abbrev CV.RESULT (n : Nat) : Nat := (0x2401 + n) * 256 + 0x0F
/-- 0x2401–0x2412:10 (spec R229). -/
abbrev CV.RESULT_TT (n : Nat) : Nat := (0x2401 + n) * 256 + 0x10
/-- 0x2401–0x2412:11 (spec R229). -/
abbrev CV.VALUE (n : Nat) : Nat := (0x2401 + n) * 256 + 0x11
/-- 0x2401–0x2412:12 (spec R229). -/
abbrev CV.CONVERSIONS (n : Nat) : Nat := (0x2401 + n) * 256 + 0x12
/-- 0x2420–0x242B:01 (spec R233). -/
abbrev OC.ENABLE (n : Nat) : Nat := (0x2420 + n) * 256 + 0x01
/-- 0x2420–0x242B:02 (spec R233). -/
abbrev OC.UPPER (n : Nat) : Nat := (0x2420 + n) * 256 + 0x02
/-- 0x2420–0x242B:03 (spec R233). -/
abbrev OC.LOWER (n : Nat) : Nat := (0x2420 + n) * 256 + 0x03
/-- 0x2420–0x242B:04 (spec R233). -/
abbrev OC.HYST (n : Nat) : Nat := (0x2420 + n) * 256 + 0x04
/-- 0x2420–0x242B:05 (spec R233). -/
abbrev OC.LEVEL (n : Nat) : Nat := (0x2420 + n) * 256 + 0x05
/-- 0x2420–0x242B:06 (spec R233). -/
abbrev OC.LATCHED (n : Nat) : Nat := (0x2420 + n) * 256 + 0x06
/-- 0x2420–0x242B:07 (spec R233). -/
abbrev OC.ACK (n : Nat) : Nat := (0x2420 + n) * 256 + 0x07
/-- 0x2420–0x242B:08 (spec R233). -/
abbrev OC.TRIPS (n : Nat) : Nat := (0x2420 + n) * 256 + 0x08
/-- 0x2420–0x242B:09 (spec R233). -/
abbrev OC.LAST_TRIP_TT (n : Nat) : Nat := (0x2420 + n) * 256 + 0x09
/-- 0x2480:01 (spec R242). -/
abbrev FLUE.SEL : Nat := 0x248001
/-- 0x2480:02 (spec R242). -/
abbrev FLUE.LINES_EN : Nat := 0x248002
/-- 0x2480:03 (spec R242). -/
abbrev FLUE.DAT_EN : Nat := 0x248003
/-- 0x2480:04 (spec R242). -/
abbrev FLUE.DAT_PERIOD : Nat := 0x248004
/-- 0x2481–0x2482:01 (spec R242). -/
abbrev GAU.ENABLE (n : Nat) : Nat := (0x2481 + n) * 256 + 0x01
/-- 0x2481–0x2482:02 (spec R242). -/
abbrev GAU.HYST (n : Nat) : Nat := (0x2481 + n) * 256 + 0x02
/-- 0x2481–0x2482:03 (spec R242). -/
abbrev GAU.AMP_MIN (n : Nat) : Nat := (0x2481 + n) * 256 + 0x03
/-- 0x2481–0x2482:04 (spec R242). -/
abbrev GAU.FREQ_TIMEOUT (n : Nat) : Nat := (0x2481 + n) * 256 + 0x04
/-- 0x2481–0x2482:05 (spec R242). -/
abbrev GAU.ANGLE (n : Nat) : Nat := (0x2481 + n) * 256 + 0x05
/-- 0x2481–0x2482:06 (spec R242). -/
abbrev GAU.CYCLES (n : Nat) : Nat := (0x2481 + n) * 256 + 0x06
/-- 0x2481–0x2482:07 (spec R242). -/
abbrev GAU.FREQ (n : Nat) : Nat := (0x2481 + n) * 256 + 0x07
/-- 0x2481–0x2482:08 (spec R242). -/
abbrev GAU.STATUS (n : Nat) : Nat := (0x2481 + n) * 256 + 0x08
/-- 0x2481–0x2482:09 (spec R242). -/
abbrev GAU.LEAVES (n : Nat) : Nat := (0x2481 + n) * 256 + 0x09
/-- 0x2481–0x2482:0A (spec R242). -/
abbrev GAU.ACK (n : Nat) : Nat := (0x2481 + n) * 256 + 0x0A
/-- 0x2481–0x2482:0B (spec R242). -/
abbrev GAU.ILLEGAL_COUNT (n : Nat) : Nat := (0x2481 + n) * 256 + 0x0B
/-- 0x2481–0x2482:0C (spec R242). -/
abbrev GAU.CMP_MODE (n : Nat) : Nat := (0x2481 + n) * 256 + 0x0C
/-- 0x2481–0x2482:0D (spec R242). -/
abbrev GAU.CMP_CYCLES (n : Nat) : Nat := (0x2481 + n) * 256 + 0x0D
/-- 0x2481–0x2482:0E (spec R242). -/
abbrev GAU.CMP_ANGLE (n : Nat) : Nat := (0x2481 + n) * 256 + 0x0E
/-- 0x2481–0x2482:0F (spec R242). -/
abbrev GAU.CMP_ROUTE (n : Nat) : Nat := (0x2481 + n) * 256 + 0x0F
/-- 0x2481–0x2482:10 (spec R242). -/
abbrev GAU.CMP_ARM (n : Nat) : Nat := (0x2481 + n) * 256 + 0x10
/-- 0x2481–0x2482:11 (spec R242). -/
abbrev GAU.CMP_DISARM (n : Nat) : Nat := (0x2481 + n) * 256 + 0x11
/-- 0x2481–0x2482:12 (spec R242). -/
abbrev GAU.CMP_STATUS (n : Nat) : Nat := (0x2481 + n) * 256 + 0x12
/-- 0x2481–0x2482:13 (spec R242). -/
abbrev GAU.CMP_FIRED_TT (n : Nat) : Nat := (0x2481 + n) * 256 + 0x13
/-- 0x2500:01 (spec R272). -/
abbrev ARMG.LEAVES : Nat := 0x250001
/-- 0x2500:02 (spec R272). -/
abbrev ARMG.ACK : Nat := 0x250002
/-- 0x2500:03 (spec R272). -/
abbrev ARMG.LEGSUM_EN : Nat := 0x250003
/-- 0x2500:04 (spec R272). -/
abbrev ARMG.LEGSUM_LIMIT : Nat := 0x250004
/-- 0x2500:05 (spec R272). -/
abbrev ARMG.LEGSUM_TIME : Nat := 0x250005
/-- 0x2500:06 (spec R272). -/
abbrev ARMG.LEGSUM_DIFF : Nat := 0x250006
/-- 0x2500:07 (spec R272). -/
abbrev ARMG.LEGSUM_TRIPS : Nat := 0x250007
/-- 0x2500:08 (spec R272). -/
abbrev ARMG.LAST_ARM : Nat := 0x250008
/-- 0x2600–0x2605:01 (spec R273). -/
abbrev ARM.STATE (n : Nat) : Nat := (0x2600 + n) * 256 + 0x01
/-- 0x2600–0x2605:02 (spec R273). -/
abbrev ARM.CAUSE (n : Nat) : Nat := (0x2600 + n) * 256 + 0x02
/-- 0x2600–0x2605:03 (spec R273). -/
abbrev ARM.ARM_CMD (n : Nat) : Nat := (0x2600 + n) * 256 + 0x03
/-- 0x2600–0x2605:04 (spec R273). -/
abbrev ARM.POL (n : Nat) : Nat := (0x2600 + n) * 256 + 0x04
/-- 0x2600–0x2605:05 (spec R273). -/
abbrev ARM.LEG (n : Nat) : Nat := (0x2600 + n) * 256 + 0x05
/-- 0x2600–0x2605:06 (spec R273). -/
abbrev ARM.H_IN (n : Nat) : Nat := (0x2600 + n) * 256 + 0x06
/-- 0x2600–0x2605:07 (spec R273). -/
abbrev ARM.H_OUT (n : Nat) : Nat := (0x2600 + n) * 256 + 0x07
/-- 0x2600–0x2605:08 (spec R273). -/
abbrev ARM.T_DWELL (n : Nat) : Nat := (0x2600 + n) * 256 + 0x08
/-- 0x2600–0x2605:09 (spec R273). -/
abbrev ARM.T_RESP (n : Nat) : Nat := (0x2600 + n) * 256 + 0x09
/-- 0x2600–0x2605:0A (spec R273). -/
abbrev ARM.N_STEP_MAX (n : Nat) : Nat := (0x2600 + n) * 256 + 0x0A
/-- 0x2600–0x2605:0B (spec R273). -/
abbrev ARM.N_MIN (n : Nat) : Nat := (0x2600 + n) * 256 + 0x0B
/-- 0x2600–0x2605:0C (spec R273). -/
abbrev ARM.N_MAX (n : Nat) : Nat := (0x2600 + n) * 256 + 0x0C
/-- 0x2600–0x2605:0D (spec R273). -/
abbrev ARM.K_V (n : Nat) : Nat := (0x2600 + n) * 256 + 0x0D
/-- 0x2600–0x2605:0E (spec R273). -/
abbrev ARM.K_A (n : Nat) : Nat := (0x2600 + n) * 256 + 0x0E
/-- 0x2600–0x2605:0F (spec R273). -/
abbrev ARM.L_ARM (n : Nat) : Nat := (0x2600 + n) * 256 + 0x0F
/-- 0x2600–0x2605:10 (spec R273). -/
abbrev ARM.V_POLE_CV (n : Nat) : Nat := (0x2600 + n) * 256 + 0x10
/-- 0x2600–0x2605:11 (spec R273). -/
abbrev ARM.V_AC_CV (n : Nat) : Nat := (0x2600 + n) * 256 + 0x11
/-- 0x2600–0x2605:12 (spec R273). -/
abbrev ARM.V_AVG_MIN (n : Nat) : Nat := (0x2600 + n) * 256 + 0x12
/-- 0x2600–0x2605:13 (spec R273). -/
abbrev ARM.ZERO_BAND (n : Nat) : Nat := (0x2600 + n) * 256 + 0x13
/-- 0x2600–0x2605:14 (spec R273). -/
abbrev ARM.T_OPEN_MAX (n : Nat) : Nat := (0x2600 + n) * 256 + 0x14
/-- 0x2600–0x2605:15 (spec R273). -/
abbrev ARM.AUTO_CLOSE (n : Nat) : Nat := (0x2600 + n) * 256 + 0x15
/-- 0x2600–0x2605:16 (spec R273). -/
abbrev ARM.DEBLOCK_CLOSE (n : Nat) : Nat := (0x2600 + n) * 256 + 0x16
/-- 0x2600–0x2605:17 (spec R273). -/
abbrev ARM.FREEZE_N (n : Nat) : Nat := (0x2600 + n) * 256 + 0x17
/-- 0x2600–0x2605:18 (spec R273). -/
abbrev ARM.FREEZE_TOL (n : Nat) : Nat := (0x2600 + n) * 256 + 0x18
/-- 0x2600–0x2605:19 (spec R273). -/
abbrev ARM.FREEZE_LAG (n : Nat) : Nat := (0x2600 + n) * 256 + 0x19
/-- 0x2600–0x2605:1A (spec R273). -/
abbrev ARM.INVALID_MAX (n : Nat) : Nat := (0x2600 + n) * 256 + 0x1A
/-- 0x2600–0x2605:1B (spec R273). -/
abbrev ARM.T_RECOVER (n : Nat) : Nat := (0x2600 + n) * 256 + 0x1B
/-- 0x2600–0x2605:1C (spec R273). -/
abbrev ARM.REF_STALE_MAX (n : Nat) : Nat := (0x2600 + n) * 256 + 0x1C
/-- 0x2600–0x2605:1D (spec R273). -/
abbrev ARM.FF_INVALID_MAX (n : Nat) : Nat := (0x2600 + n) * 256 + 0x1D
/-- 0x2600–0x2605:1E (spec R273). -/
abbrev ARM.LEAVES (n : Nat) : Nat := (0x2600 + n) * 256 + 0x1E
/-- 0x2600–0x2605:1F (spec R273). -/
abbrev ARM.ACK (n : Nat) : Nat := (0x2600 + n) * 256 + 0x1F
/-- 0x2600–0x2605:20 (spec R273). -/
abbrev ARM.N_FF (n : Nat) : Nat := (0x2600 + n) * 256 + 0x20
/-- 0x2600–0x2605:21 (spec R273). -/
abbrev ARM.N_FB (n : Nat) : Nat := (0x2600 + n) * 256 + 0x21
/-- 0x2600–0x2605:22 (spec R273). -/
abbrev ARM.N_CMD (n : Nat) : Nat := (0x2600 + n) * 256 + 0x22
/-- 0x2600–0x2605:23 (spec R273). -/
abbrev ARM.REF_NOW (n : Nat) : Nat := (0x2600 + n) * 256 + 0x23
/-- 0x2600–0x2605:24 (spec R273). -/
abbrev ARM.V_AVG (n : Nat) : Nat := (0x2600 + n) * 256 + 0x24
/-- 0x2600–0x2605:25 (spec R273). -/
abbrev ARM.EVENTS (n : Nat) : Nat := (0x2600 + n) * 256 + 0x25
/-- 0x2600–0x2605:26 (spec R273). -/
abbrev ARM.BURSTS (n : Nat) : Nat := (0x2600 + n) * 256 + 0x26
/-- 0x2600–0x2605:27 (spec R273). -/
abbrev ARM.NO_CELLS (n : Nat) : Nat := (0x2600 + n) * 256 + 0x27
/-- 0x2600–0x2605:28 (spec R273). -/
abbrev ARM.INVALID_WORDS (n : Nat) : Nat := (0x2600 + n) * 256 + 0x28
/-- 0x2600–0x2605:29 (spec R273). -/
abbrev ARM.ROLLBACKS (n : Nat) : Nat := (0x2600 + n) * 256 + 0x29
/-- 0x2600–0x2605:2A (spec R273). -/
abbrev ARM.LAST_EVENT_SI (n : Nat) : Nat := (0x2600 + n) * 256 + 0x2A
/-- 0x2600–0x2605:2B (spec R273). -/
abbrev ARM.OPEN_TT (n : Nat) : Nat := (0x2600 + n) * 256 + 0x2B
/-- 0x2700:01 (spec R297). -/
abbrev STACKG.LEAVES : Nat := 0x270001
/-- 0x2700:02 (spec R297). -/
abbrev STACKG.ACK : Nat := 0x270002
/-- 0x2700:03 (spec R297). -/
abbrev STACKG.LAST_CELL : Nat := 0x270003
/-- 0x2700:04 (spec R297). -/
abbrev STACKG.LAST_ARM : Nat := 0x270004
/-- 0x2800–0x2805:01 (spec R296). -/
abbrev LANE.LEAVES (n : Nat) : Nat := (0x2800 + n) * 256 + 0x01
/-- 0x2800–0x2805:02 (spec R296). -/
abbrev LANE.ACK (n : Nat) : Nat := (0x2800 + n) * 256 + 0x02
/-- 0x2800–0x2805:03 (spec R296). -/
abbrev LANE.V_NOM (n : Nat) : Nat := (0x2800 + n) * 256 + 0x03
/-- 0x2800–0x2805:04 (spec R296). -/
abbrev LANE.C_EST (n : Nat) : Nat := (0x2800 + n) * 256 + 0x04
/-- 0x2800–0x2805:05 (spec R296). -/
abbrev LANE.T_CELL_DWELL (n : Nat) : Nat := (0x2800 + n) * 256 + 0x05
/-- 0x2800–0x2805:06 (spec R296). -/
abbrev LANE.STALE_SODS (n : Nat) : Nat := (0x2800 + n) * 256 + 0x06
/-- 0x2800–0x2805:07 (spec R296). -/
abbrev LANE.FAULT_EXCLUDE (n : Nat) : Nat := (0x2800 + n) * 256 + 0x07
/-- 0x2800–0x2805:08 (spec R296). -/
abbrev LANE.SEED_SW (n : Nat) : Nat := (0x2800 + n) * 256 + 0x08
/-- 0x2800–0x2805:09 (spec R296). -/
abbrev LANE.HEALTHY_MIN (n : Nat) : Nat := (0x2800 + n) * 256 + 0x09
/-- 0x2800–0x2805:0A (spec R296). -/
abbrev LANE.EST_LIMIT (n : Nat) : Nat := (0x2800 + n) * 256 + 0x0A
/-- 0x2800–0x2805:0B (spec R296). -/
abbrev LANE.WEIGHT_SRC (n : Nat) : Nat := (0x2800 + n) * 256 + 0x0B
/-- 0x2800–0x2805:0C (spec R296). -/
abbrev LANE.W_V (n : Nat) : Nat := (0x2800 + n) * 256 + 0x0C
/-- 0x2800–0x2805:0D (spec R296). -/
abbrev LANE.W_SOC (n : Nat) : Nat := (0x2800 + n) * 256 + 0x0D
/-- 0x2800–0x2805:0E (spec R296). -/
abbrev LANE.W_T (n : Nat) : Nat := (0x2800 + n) * 256 + 0x0E
/-- 0x2800–0x2805:0F (spec R296). -/
abbrev LANE.W_W (n : Nat) : Nat := (0x2800 + n) * 256 + 0x0F
/-- 0x2800–0x2805:10 (spec R296). -/
abbrev LANE.SOC_TARGET (n : Nat) : Nat := (0x2800 + n) * 256 + 0x10
/-- 0x2800–0x2805:11 (spec R296). -/
abbrev LANE.W_V_NOW (n : Nat) : Nat := (0x2800 + n) * 256 + 0x11
/-- 0x2800–0x2805:12 (spec R296). -/
abbrev LANE.W_SOC_NOW (n : Nat) : Nat := (0x2800 + n) * 256 + 0x12
/-- 0x2800–0x2805:13 (spec R296). -/
abbrev LANE.W_T_NOW (n : Nat) : Nat := (0x2800 + n) * 256 + 0x13
/-- 0x2800–0x2805:14 (spec R296). -/
abbrev LANE.W_W_NOW (n : Nat) : Nat := (0x2800 + n) * 256 + 0x14
/-- 0x2800–0x2805:15 (spec R296). -/
abbrev LANE.SOC_TARGET_NOW (n : Nat) : Nat := (0x2800 + n) * 256 + 0x15
/-- 0x2800–0x2805:16 (spec R296). -/
abbrev LANE.REKEY_TT (n : Nat) : Nat := (0x2800 + n) * 256 + 0x16
/-- 0x2800–0x2805:17 (spec R296). -/
abbrev LANE.AGG_FRAME (n : Nat) : Nat := (0x2800 + n) * 256 + 0x17
/-- 0x2800–0x2805:18 (spec R296). -/
abbrev LANE.HEALTHY (n : Nat) : Nat := (0x2800 + n) * 256 + 0x18
/-- 0x2800–0x2805:19 (spec R296). -/
abbrev LANE.VCAP_SUM (n : Nat) : Nat := (0x2800 + n) * 256 + 0x19
/-- 0x2800–0x2805:1A (spec R296). -/
abbrev LANE.VCAP_MIN (n : Nat) : Nat := (0x2800 + n) * 256 + 0x1A
/-- 0x2800–0x2805:1B (spec R296). -/
abbrev LANE.VCAP_MAX (n : Nat) : Nat := (0x2800 + n) * 256 + 0x1B
/-- 0x2800–0x2805:1C (spec R296). -/
abbrev LANE.INS_VCAP_SUM (n : Nat) : Nat := (0x2800 + n) * 256 + 0x1C
/-- 0x2800–0x2805:1D (spec R296). -/
abbrev LANE.SOC_MEAN (n : Nat) : Nat := (0x2800 + n) * 256 + 0x1D
/-- 0x2800–0x2805:1E (spec R296). -/
abbrev LANE.TEMP_MAX (n : Nat) : Nat := (0x2800 + n) * 256 + 0x1E
/-- 0x2800–0x2805:1F (spec R296). -/
abbrev LANE.SW_FLOOR (n : Nat) : Nat := (0x2800 + n) * 256 + 0x1F
/-- 0x2800–0x2805:20 (spec R296). -/
abbrev LANE.N_POS (n : Nat) : Nat := (0x2800 + n) * 256 + 0x20
/-- 0x2800–0x2805:21 (spec R296). -/
abbrev LANE.N_NEG (n : Nat) : Nat := (0x2800 + n) * 256 + 0x21
/-- 0x2800–0x2805:22 (spec R296). -/
abbrev LANE.ELIGIBLE_INS (n : Nat) : Nat := (0x2800 + n) * 256 + 0x22
/-- 0x2800–0x2805:23 (spec R296). -/
abbrev LANE.ELIGIBLE_BYP (n : Nat) : Nat := (0x2800 + n) * 256 + 0x23
/-- 0x2800–0x2805:24 (spec R296). -/
abbrev LANE.SELECTIONS (n : Nat) : Nat := (0x2800 + n) * 256 + 0x24
/-- 0x2800–0x2805:25 (spec R296). -/
abbrev LANE.REMOVALS (n : Nat) : Nat := (0x2800 + n) * 256 + 0x25
/-- 0x2800–0x2805:26 (spec R296). -/
abbrev LANE.EST_LAST_ERR (n : Nat) : Nat := (0x2800 + n) * 256 + 0x26
/-- 0x2800–0x2805:27 (spec R296). -/
abbrev LANE.PHYS_LANE (n : Nat) : Nat := (0x2800 + n) * 256 + 0x27
/-- 0x2806:01 (spec R301). -/
abbrev SPARE.SPARE_IN : Nat := 0x280601
/-- 0x2806:02 (spec R301). -/
abbrev SPARE.SPARE_STATE : Nat := 0x280602
/-- 0x2806:03 (spec R301). -/
abbrev SPARE.SERVES : Nat := 0x280603
/-- 0x2806:04 (spec R301). -/
abbrev SPARE.LANE_MAP : Nat := 0x280604
/-- 0x2806:05 (spec R301). -/
abbrev SPARE.FAILED_LANES : Nat := 0x280605
/-- 0x2806:06 (spec R301). -/
abbrev SPARE.LAST_RESULT : Nat := 0x280606
/-- 0x2806:07 (spec R301). -/
abbrev SPARE.SPARES_LEFT : Nat := 0x280607
/-- 0x2900:01 (spec R337). -/
abbrev KILN.LEAVES : Nat := 0x290001
/-- 0x2900:02 (spec R337). -/
abbrev KILN.ACK : Nat := 0x290002
/-- 0x2900:03 (spec R337). -/
abbrev KILN.STATE : Nat := 0x290003
/-- 0x2900:04 (spec R337). -/
abbrev KILN.CHECK : Nat := 0x290004
/-- 0x2900:05 (spec R337). -/
abbrev KILN.CHECK_STATE : Nat := 0x290005
/-- 0x2900:06 (spec R337). -/
abbrev KILN.CHECK_ERROR : Nat := 0x290006
/-- 0x2900:07 (spec R337). -/
abbrev KILN.CHECK_NODE : Nat := 0x290007
/-- 0x2900:08 (spec R337). -/
abbrev KILN.NODES : Nat := 0x290008
/-- 0x2900:09 (spec R337). -/
abbrev KILN.FRAME : Nat := 0x290009
/-- 0x2900:0A (spec R337). -/
abbrev KILN.OVERRUNS : Nat := 0x29000A
/-- 0x2900:0B (spec R337). -/
abbrev KILN.DUP_MISMATCHES : Nat := 0x29000B
/-- 0x2900:0C (spec R337). -/
abbrev KILN.NONFINITE : Nat := 0x29000C
/-- 0x2900:0D (spec R337). -/
abbrev KILN.CANCELS : Nat := 0x29000D
/-- 0x2900:0E (spec R337). -/
abbrev KILN.LAST_NODE : Nat := 0x29000E
/-- 0x2900:0F (spec R337). -/
abbrev KILN.STAT_CLEAR : Nat := 0x29000F
/-- 0x2900:10 (spec R337). -/
abbrev KILN.MISMATCH_CORES : Nat := 0x290010
/-- 0x2900:11 (spec R337). -/
abbrev KILN.STRUCT_PENDING : Nat := 0x290011
/-- 0x2900:12 (spec R337). -/
abbrev KILN.HALTS : Nat := 0x290012
/-- 0x2901–0x2904:01 (spec R338). -/
abbrev RG.MULT (n : Nat) : Nat := (0x2901 + n) * 256 + 0x01
/-- 0x2901–0x2904:02 (spec R338). -/
abbrev RG.PHASE (n : Nat) : Nat := (0x2901 + n) * 256 + 0x02
/-- 0x2901–0x2904:03 (spec R338). -/
abbrev RG.MARGIN (n : Nat) : Nat := (0x2901 + n) * 256 + 0x03
/-- 0x2901–0x2904:04 (spec R338). -/
abbrev RG.NODES (n : Nat) : Nat := (0x2901 + n) * 256 + 0x04
/-- 0x2901–0x2904:05 (spec R338). -/
abbrev RG.LAST_SPAN (n : Nat) : Nat := (0x2901 + n) * 256 + 0x05
/-- 0x2901–0x2904:06 (spec R338). -/
abbrev RG.MAX_SPAN (n : Nat) : Nat := (0x2901 + n) * 256 + 0x06
/-- 0x2901–0x2904:07 (spec R338). -/
abbrev RG.PERIODS (n : Nat) : Nat := (0x2901 + n) * 256 + 0x07
/-- 0x2901–0x2904:08 (spec R338). -/
abbrev RG.OVERRUNS (n : Nat) : Nat := (0x2901 + n) * 256 + 0x08
/-- 0x2901–0x2904:09 (spec R338). -/
abbrev RG.LAST_OVERRUN_FRAME (n : Nat) : Nat := (0x2901 + n) * 256 + 0x09
/-- 0x2905:01–12 (spec R338). -/
abbrev CORES.STATE (i : Nat) : Nat := 0x2905 * 256 + (0x01 + i)
/-- 0x2905:13 (spec R338). -/
abbrev CORES.ACTIVE_COUNT : Nat := 0x290513
/-- 0x2905:14 (spec R338). -/
abbrev CORES.SPARE_COUNT : Nat := 0x290514
/-- 0x2905:15–26 (spec R338). -/
abbrev CORES.GRANTS (i : Nat) : Nat := 0x2905 * 256 + (0x15 + i)
/-- 0x2908:01 (spec R335). -/
abbrev TRACE.ENABLE : Nat := 0x290801
/-- 0x2908:02 (spec R335). -/
abbrev TRACE.TYPE_MASK : Nat := 0x290802
/-- 0x2908:03 (spec R335). -/
abbrev TRACE.RG_MASK : Nat := 0x290803
/-- 0x2908:04 (spec R335). -/
abbrev TRACE.STOP_MODE : Nat := 0x290804
/-- 0x2908:05 (spec R335). -/
abbrev TRACE.POST : Nat := 0x290805
/-- 0x2908:06 (spec R335). -/
abbrev TRACE.STOPPED : Nat := 0x290806
/-- 0x2908:07 (spec R335). -/
abbrev TRACE.WR_INDEX : Nat := 0x290807
/-- 0x2908:08 (spec R335). -/
abbrev TRACE.WRAPPED : Nat := 0x290808
/-- 0x2908:09 (spec R335). -/
abbrev TRACE.DROPPED : Nat := 0x290809
/-- 0x2908:0A (spec R335). -/
abbrev TRACE.RECORDS : Nat := 0x29080A
/-- 0x2908:0B (spec R335). -/
abbrev TRACE.RESTART : Nat := 0x29080B
/-- 0x2910:01–70 (spec R316). -/
abbrev SINKSRC.SINK_SRC (i : Nat) : Nat := 0x2910 * 256 + (0x01 + i)
/-- 0x2911:01–70 (spec R316). -/
abbrev SINKVAL.SINK_VALUE (i : Nat) : Nat := 0x2911 * 256 + (0x01 + i)
/-- 0x2912:01 (spec R316). -/
abbrev SINKSTALE.STALE_LO : Nat := 0x291201
/-- 0x2912:02 (spec R316). -/
abbrev SINKSTALE.STALE_HI : Nat := 0x291202
/-- 0x2920–0x2921:01–80 (spec R339). -/
abbrev PARAM.PARAM (n : Nat) (i : Nat) : Nat := (0x2920 + n) * 256 + (0x01 + i)
/-- 0x2960–0x297F:01 (spec R339). -/
abbrev LOOKUP.POINTS (n : Nat) : Nat := (0x2960 + n) * 256 + 0x01
/-- 0x2960–0x297F:02 (spec R339). -/
abbrev LOOKUP.X0 (n : Nat) : Nat := (0x2960 + n) * 256 + 0x02
/-- 0x2960–0x297F:03 (spec R339). -/
abbrev LOOKUP.DX (n : Nat) : Nat := (0x2960 + n) * 256 + 0x03
/-- 0x2960–0x297F:04 (spec R339). -/
abbrev LOOKUP.Y (n : Nat) : Nat := (0x2960 + n) * 256 + 0x04
/-- 0x2A00:01 (spec R355). -/
abbrev PWMG.LEAVES : Nat := 0x2A0001
/-- 0x2A00:02 (spec R355). -/
abbrev PWMG.ACK : Nat := 0x2A0002
/-- 0x2A00:03 (spec R355). -/
abbrev PWMG.CAL_TT : Nat := 0x2A0003
/-- 0x2A00:04 (spec R355). -/
abbrev PWMG.CAL_FAILS : Nat := 0x2A0004
/-- 0x2A00:05 (spec R355). -/
abbrev PWMG.LAST_CHANNEL : Nat := 0x2A0005
/-- 0x2A10–0x2A15:01 (spec R356). -/
abbrev PWM.ENABLE (n : Nat) : Nat := (0x2A10 + n) * 256 + 0x01
/-- 0x2A10–0x2A15:02 (spec R356). -/
abbrev PWM.PERIOD (n : Nat) : Nat := (0x2A10 + n) * 256 + 0x02
/-- 0x2A10–0x2A15:03 (spec R356). -/
abbrev PWM.PHASE (n : Nat) : Nat := (0x2A10 + n) * 256 + 0x03
/-- 0x2A10–0x2A15:04 (spec R356). -/
abbrev PWM.DUTY_SRC (n : Nat) : Nat := (0x2A10 + n) * 256 + 0x04
/-- 0x2A10–0x2A15:05 (spec R356). -/
abbrev PWM.COMPARE (n : Nat) : Nat := (0x2A10 + n) * 256 + 0x05
/-- 0x2A10–0x2A15:06 (spec R356). -/
abbrev PWM.COMPARE_NOW (n : Nat) : Nat := (0x2A10 + n) * 256 + 0x06
/-- 0x2A10–0x2A15:07 (spec R356). -/
abbrev PWM.DT_A (n : Nat) : Nat := (0x2A10 + n) * 256 + 0x07
/-- 0x2A10–0x2A15:08 (spec R356). -/
abbrev PWM.DT_B (n : Nat) : Nat := (0x2A10 + n) * 256 + 0x08
/-- 0x2A10–0x2A15:09 (spec R356). -/
abbrev PWM.SWAP (n : Nat) : Nat := (0x2A10 + n) * 256 + 0x09
/-- 0x2A10–0x2A15:0A (spec R356). -/
abbrev PWM.INV (n : Nat) : Nat := (0x2A10 + n) * 256 + 0x0A
/-- 0x2A10–0x2A15:0B (spec R356). -/
abbrev PWM.TRIP_MASK (n : Nat) : Nat := (0x2A10 + n) * 256 + 0x0B
/-- 0x2A10–0x2A15:0C (spec R356). -/
abbrev PWM.TRIP_LIMIT (n : Nat) : Nat := (0x2A10 + n) * 256 + 0x0C
/-- 0x2A10–0x2A15:0D (spec R356). -/
abbrev PWM.TRIP_RESET (n : Nat) : Nat := (0x2A10 + n) * 256 + 0x0D
/-- 0x2A10–0x2A15:0E (spec R356). -/
abbrev PWM.TRIP_COUNT (n : Nat) : Nat := (0x2A10 + n) * 256 + 0x0E
/-- 0x2A10–0x2A15:0F (spec R356). -/
abbrev PWM.CLEAR (n : Nat) : Nat := (0x2A10 + n) * 256 + 0x0F
/-- 0x2A10–0x2A15:10 (spec R356). -/
abbrev PWM.STATUS (n : Nat) : Nat := (0x2A10 + n) * 256 + 0x10
/-- 0x2A10–0x2A15:11 (spec R356). -/
abbrev PWM.LEAVES (n : Nat) : Nat := (0x2A10 + n) * 256 + 0x11
/-- 0x2A10–0x2A15:12 (spec R356). -/
abbrev PWM.ACK (n : Nat) : Nat := (0x2A10 + n) * 256 + 0x12
/-- 0x2A10–0x2A15:13 (spec R356). -/
abbrev PWM.TRIPS (n : Nat) : Nat := (0x2A10 + n) * 256 + 0x13
/-- 0x2A10–0x2A15:14 (spec R356). -/
abbrev PWM.LATE_WRITES (n : Nat) : Nat := (0x2A10 + n) * 256 + 0x14
/-- 0x2A10–0x2A15:15 (spec R356). -/
abbrev PWM.PERIODS (n : Nat) : Nat := (0x2A10 + n) * 256 + 0x15
/-- 0x2A10–0x2A15:16 (spec R356). -/
abbrev PWM.LAST_TRIP_TT (n : Nat) : Nat := (0x2A10 + n) * 256 + 0x16
/-- 0x2B00:01 (spec R374). -/
abbrev DAMP.LEAVES : Nat := 0x2B0001
/-- 0x2B00:02 (spec R374). -/
abbrev DAMP.ACK : Nat := 0x2B0002
/-- 0x2B00:03 (spec R374). -/
abbrev DAMP.ERR_CLASS : Nat := 0x2B0003
/-- 0x2B00:04 (spec R374). -/
abbrev DAMP.FORCE_EN : Nat := 0x2B0004
/-- 0x2B00:05 (spec R374). -/
abbrev DAMP.LOG_CLASS : Nat := 0x2B0005
/-- 0x2B00:06 (spec R374). -/
abbrev DAMP.TOP_CLASS : Nat := 0x2B0006
/-- 0x2B00:07 (spec R374). -/
abbrev DAMP.LAST_SOURCE : Nat := 0x2B0007
/-- 0x2B00:08–0B (spec R374). -/
abbrev DAMP.PENDING (i : Nat) : Nat := 0x2B00 * 256 + (0x08 + i)
/-- 0x2B00:0C (spec R374). -/
abbrev DAMP.EVENTS : Nat := 0x2B000C
/-- 0x2B00:0D (spec R374). -/
abbrev DAMP.CLEAR_ALL : Nat := 0x2B000D
/-- 0x2B00:0E (spec R374). -/
abbrev DAMP.LOG_INDEX : Nat := 0x2B000E
/-- 0x2B00:0F (spec R374). -/
abbrev DAMP.LOG_SUPPRESSED : Nat := 0x2B000F
/-- 0x2B00:10 (spec R374). -/
abbrev DAMP.LOG : Nat := 0x2B0010
/-- 0x2B00:11 (spec R374). -/
abbrev DAMP.LOG_WRAPPED : Nat := 0x2B0011
/-- 0x2B00:12 (spec R374). -/
abbrev DAMP.LAST_TT : Nat := 0x2B0012
/-- 0x2C00:01 (spec R416). -/
abbrev TWIN.TWIN_EN : Nat := 0x2C0001
/-- 0x2C00:02 (spec R416). -/
abbrev TWIN.T_HB : Nat := 0x2C0002
/-- 0x2C00:03 (spec R416). -/
abbrev TWIN.LEASE_TIME : Nat := 0x2C0003
/-- 0x2C00:04 (spec R416). -/
abbrev TWIN.LEASE_MARGIN : Nat := 0x2C0004
/-- 0x2C00:05 (spec R416). -/
abbrev TWIN.EMBER_PERIOD : Nat := 0x2C0005
/-- 0x2C00:06 (spec R416). -/
abbrev TWIN.SLOW_PERIOD : Nat := 0x2C0006
/-- 0x2C00:07 (spec R416). -/
abbrev TWIN.SLOW_MAX_AGE : Nat := 0x2C0007
/-- 0x2C00:08 (spec R416). -/
abbrev TWIN.RSV08 : Nat := 0x2C0008
/-- 0x2C00:09 (spec R416). -/
abbrev TWIN.ROLE : Nat := 0x2C0009
/-- 0x2C00:0A (spec R416). -/
abbrev TWIN.LEASE : Nat := 0x2C000A
/-- 0x2C00:0B (spec R416). -/
abbrev TWIN.PATHS : Nat := 0x2C000B
/-- 0x2C00:0C (spec R416). -/
abbrev TWIN.DELTA_TT : Nat := 0x2C000C
/-- 0x2C00:0D (spec R416). -/
abbrev TWIN.LINK_DELAY : Nat := 0x2C000D
/-- 0x2C00:0E (spec R416). -/
abbrev TWIN.LEAVES : Nat := 0x2C000E
/-- 0x2C00:0F (spec R416). -/
abbrev TWIN.ACK : Nat := 0x2C000F
/-- 0x2C00:10 (spec R416). -/
abbrev TWIN.TAKEOVERS : Nat := 0x2C0010
/-- 0x2C00:11 (spec R416). -/
abbrev TWIN.SWAPS : Nat := 0x2C0011
/-- 0x2C00:12 (spec R416). -/
abbrev TWIN.LINK_ERRORS : Nat := 0x2C0012
/-- 0x2C01:01 (spec R417). -/
abbrev PARTNER.STATE : Nat := 0x2C0101
/-- 0x2C01:02 (spec R417). -/
abbrev PARTNER.FIT : Nat := 0x2C0102
/-- 0x2C01:03 (spec R417). -/
abbrev PARTNER.UNFIT_REASON : Nat := 0x2C0103
/-- 0x2C01:04 (spec R417). -/
abbrev PARTNER.GENERATION : Nat := 0x2C0104
/-- 0x2C01:05 (spec R417). -/
abbrev PARTNER.SERIAL : Nat := 0x2C0105
/-- 0x2C01:06 (spec R417). -/
abbrev PARTNER.TWIN_ID : Nat := 0x2C0106
/-- 0x2C01:07 (spec R417). -/
abbrev PARTNER.EMBER_AGE : Nat := 0x2C0107
/-- 0x2C01:08 (spec R417). -/
abbrev PARTNER.PROOF_AGE : Nat := 0x2C0108
/-- 0x2C01:09 (spec R417). -/
abbrev PARTNER.WEAR_NOW : Nat := 0x2C0109
/-- 0x2C02:01 (spec R417). -/
abbrev EMBER.SENT : Nat := 0x2C0201
/-- 0x2C02:02 (spec R417). -/
abbrev EMBER.LAST_FRAME : Nat := 0x2C0202
/-- 0x2C02:03 (spec R417). -/
abbrev EMBER.LAST_TT : Nat := 0x2C0203
/-- 0x2C02:04 (spec R417). -/
abbrev EMBER.SLOT : Nat := 0x2C0204
/-- 0x2C02:05 (spec R417). -/
abbrev EMBER.CFG_ENTRIES : Nat := 0x2C0205
/-- 0x2C02:06 (spec R417). -/
abbrev EMBER.SLOW_TT : Nat := 0x2C0206
/-- 0x2C02:07 (spec R417). -/
abbrev EMBER.SLOW_WRITES : Nat := 0x2C0207
/-- 0x2C02:08 (spec R417). -/
abbrev EMBER.SLOW_COPY : Nat := 0x2C0208
/-- 0x2C03:01 (spec R417). -/
abbrev TKO.CAUSE : Nat := 0x2C0301
/-- 0x2C03:02 (spec R417). -/
abbrev TKO.RESULT : Nat := 0x2C0302
/-- 0x2C03:03 (spec R417). -/
abbrev TKO.SOURCE : Nat := 0x2C0303
/-- 0x2C03:04 (spec R417). -/
abbrev TKO.DETECT_TT : Nat := 0x2C0304
/-- 0x2C03:05 (spec R417). -/
abbrev TKO.RESUME_TT : Nat := 0x2C0305
/-- 0x2C03:06 (spec R417). -/
abbrev TKO.EMBER_AGE : Nat := 0x2C0306
/-- 0x2C03:07 (spec R417). -/
abbrev TKO.DURATION : Nat := 0x2C0307
/-- 0x2C03:08 (spec R417). -/
abbrev TKO.CLOSED_TT : Nat := 0x2C0308
/-- 0x2C03:09 (spec R417). -/
abbrev TKO.UNCONFIRMED : Nat := 0x2C0309
/-- 0x2D00:01 (spec R441). -/
abbrev ACQ.LEAVES : Nat := 0x2D0001
/-- 0x2D00:02 (spec R441). -/
abbrev ACQ.ACK : Nat := 0x2D0002
/-- 0x2D00:03 (spec R441). -/
abbrev ACQ.STATE : Nat := 0x2D0003
/-- 0x2D00:04 (spec R441). -/
abbrev ACQ.ARM : Nat := 0x2D0004
/-- 0x2D00:05 (spec R441). -/
abbrev ACQ.ABORT : Nat := 0x2D0005
/-- 0x2D00:06 (spec R441). -/
abbrev ACQ.ARM_RESULT : Nat := 0x2D0006
/-- 0x2D00:07 (spec R441). -/
abbrev ACQ.SEGMENTS : Nat := 0x2D0007
/-- 0x2D00:08 (spec R441). -/
abbrev ACQ.SEGMENT : Nat := 0x2D0008
/-- 0x2D00:09 (spec R441). -/
abbrev ACQ.AUTO_REARM : Nat := 0x2D0009
/-- 0x2D00:0A (spec R441). -/
abbrev ACQ.OVERWRITE : Nat := 0x2D000A
/-- 0x2D00:0B (spec R441). -/
abbrev ACQ.PRE_TIME : Nat := 0x2D000B
/-- 0x2D00:0C (spec R441). -/
abbrev ACQ.POST_TIME : Nat := 0x2D000C
/-- 0x2D00:0D (spec R441). -/
abbrev ACQ.ADMITTED_RATE : Nat := 0x2D000D
/-- 0x2D00:0E (spec R441). -/
abbrev ACQ.RECORD_BYTES : Nat := 0x2D000E
/-- 0x2D00:0F (spec R441). -/
abbrev ACQ.RECORDS : Nat := 0x2D000F
/-- 0x2D01:01 (spec R442). -/
abbrev TRIG.ENABLE : Nat := 0x2D0101
/-- 0x2D01:02 (spec R442). -/
abbrev TRIG.TRIG_IN_EDGE : Nat := 0x2D0102
/-- 0x2D01:03 (spec R442). -/
abbrev TRIG.XTRIG_DRIVE : Nat := 0x2D0103
/-- 0x2D01:04 (spec R442). -/
abbrev TRIG.XTRIG_WIDTH : Nat := 0x2D0104
/-- 0x2D01:05 (spec R442). -/
abbrev TRIG.XTRIG_STUCK : Nat := 0x2D0105
/-- 0x2D01:06 (spec R442). -/
abbrev TRIG.DAMPER_CLASS : Nat := 0x2D0106
/-- 0x2D01:07 (spec R442). -/
abbrev TRIG.TC : Nat := 0x2D0107
/-- 0x2D01:08 (spec R442). -/
abbrev TRIG.TRIG_OUT : Nat := 0x2D0108
/-- 0x2D01:09 (spec R442). -/
abbrev TRIG.LAST_WORD : Nat := 0x2D0109
/-- 0x2D01:0A (spec R442). -/
abbrev TRIG.LAST_SI : Nat := 0x2D010A
/-- 0x2D01:0B (spec R442). -/
abbrev TRIG.LAST_TT : Nat := 0x2D010B
/-- 0x2D01:0C (spec R442). -/
abbrev TRIG.FORCE : Nat := 0x2D010C
/-- 0x2D02–0x2D05:01 (spec R443). -/
abbrev THR.CV (n : Nat) : Nat := (0x2D02 + n) * 256 + 0x01
/-- 0x2D02–0x2D05:02 (spec R443). -/
abbrev THR.LEVEL (n : Nat) : Nat := (0x2D02 + n) * 256 + 0x02
/-- 0x2D02–0x2D05:03 (spec R443). -/
abbrev THR.MODE (n : Nat) : Nat := (0x2D02 + n) * 256 + 0x03
/-- 0x2D10–0x2D1F:01 (spec R444). -/
abbrev STRM.KIND (n : Nat) : Nat := (0x2D10 + n) * 256 + 0x01
/-- 0x2D10–0x2D1F:02 (spec R444). -/
abbrev STRM.SOURCE (n : Nat) : Nat := (0x2D10 + n) * 256 + 0x02
/-- 0x2D10–0x2D1F:03 (spec R444). -/
abbrev STRM.COUNT (n : Nat) : Nat := (0x2D10 + n) * 256 + 0x03
/-- 0x2D10–0x2D1F:04 (spec R444). -/
abbrev STRM.DECIM (n : Nat) : Nat := (0x2D10 + n) * 256 + 0x04
/-- 0x2D10–0x2D1F:05 (spec R444). -/
abbrev STRM.RATE (n : Nat) : Nat := (0x2D10 + n) * 256 + 0x05
/-- 0x2D10–0x2D1F:06 (spec R444). -/
abbrev STRM.ENTRIES (n : Nat) : Nat := (0x2D10 + n) * 256 + 0x06
/-- 0x2D40–0x2D4F:01 (spec R445). -/
abbrev SEG.STATE (n : Nat) : Nat := (0x2D40 + n) * 256 + 0x01
/-- 0x2D40–0x2D4F:02 (spec R445). -/
abbrev SEG.RECORD (n : Nat) : Nat := (0x2D40 + n) * 256 + 0x02
/-- 0x2D40–0x2D4F:03 (spec R445). -/
abbrev SEG.LENGTH (n : Nat) : Nat := (0x2D40 + n) * 256 + 0x03
/-- 0x2D40–0x2D4F:04 (spec R445). -/
abbrev SEG.TRIG_TT (n : Nat) : Nat := (0x2D40 + n) * 256 + 0x04
/-- 0x2D40–0x2D4F:05 (spec R445). -/
abbrev SEG.RELEASE (n : Nat) : Nat := (0x2D40 + n) * 256 + 0x05
/-- 0x2D60:01–08 (spec R446). -/
abbrev ASH.SRC (i : Nat) : Nat := 0x2D60 * 256 + (0x01 + i)
/-- 0x2D60:09 (spec R446). -/
abbrev ASH.DIV : Nat := 0x2D6009
/-- 0x2D60:0A (spec R446). -/
abbrev ASH.STOP_TRIG : Nat := 0x2D600A
/-- 0x2D60:0B (spec R446). -/
abbrev ASH.POST : Nat := 0x2D600B
/-- 0x2D60:0C (spec R446). -/
abbrev ASH.ASH_ARM : Nat := 0x2D600C
/-- 0x2D60:0D (spec R446). -/
abbrev ASH.ASH_STOP : Nat := 0x2D600D
/-- 0x2D60:0E (spec R446). -/
abbrev ASH.ASH_STATE : Nat := 0x2D600E
/-- 0x2D60:0F (spec R446). -/
abbrev ASH.LAST_ROW_SI : Nat := 0x2D600F
/-- 0x2D60:10 (spec R446). -/
abbrev ASH.TRIG_ROW : Nat := 0x2D6010
/-- 0x2D60:11 (spec R446). -/
abbrev ASH.ROWS : Nat := 0x2D6011
/-- 0x2D60:12 (spec R446). -/
abbrev ASH.WRAPPED : Nat := 0x2D6012
/-- 0x2D80:01 (spec R447). -/
abbrev EC.SNAP : Nat := 0x2D8001
/-- 0x2D80:02 (spec R447). -/
abbrev EC.SNAP_SRC : Nat := 0x2D8002
/-- 0x2D80:03 (spec R447). -/
abbrev EC.SNAP_TC : Nat := 0x2D8003
/-- 0x2D80:04 (spec R447). -/
abbrev EC.SNAP_TT : Nat := 0x2D8004
/-- 0x2D80:05 (spec R447). -/
abbrev EC.OVF : Nat := 0x2D8005
/-- 0x2D81–0x2DA0:01 (spec R447). -/
abbrev ECN.SOURCE (n : Nat) : Nat := (0x2D81 + n) * 256 + 0x01
/-- 0x2D81–0x2DA0:02 (spec R447). -/
abbrev ECN.GATE (n : Nat) : Nat := (0x2D81 + n) * 256 + 0x02
/-- 0x2D81–0x2DA0:03 (spec R447). -/
abbrev ECN.START_TC (n : Nat) : Nat := (0x2D81 + n) * 256 + 0x03
/-- 0x2D81–0x2DA0:04 (spec R447). -/
abbrev ECN.STOP_TC (n : Nat) : Nat := (0x2D81 + n) * 256 + 0x04
/-- 0x2D81–0x2DA0:05 (spec R447). -/
abbrev ECN.COUNT (n : Nat) : Nat := (0x2D81 + n) * 256 + 0x05
/-- 0x2D81–0x2DA0:06 (spec R447). -/
abbrev ECN.SNAP_VALUE (n : Nat) : Nat := (0x2D81 + n) * 256 + 0x06
/-- 0x2E00:01 (spec R388). -/
abbrev MAINT.LEAVES : Nat := 0x2E0001
/-- 0x2E00:02 (spec R388). -/
abbrev MAINT.ACK : Nat := 0x2E0002
/-- 0x2E00:03 (spec R388). -/
abbrev MAINT.AUTO : Nat := 0x2E0003
/-- 0x2E00:04 (spec R388). -/
abbrev MAINT.CAL_INTERVAL : Nat := 0x2E0004
/-- 0x2E00:05 (spec R388). -/
abbrev MAINT.ADC_CAL_INTERVAL : Nat := 0x2E0005
/-- 0x2E00:06 (spec R388). -/
abbrev MAINT.CE_LIMIT : Nat := 0x2E0006
/-- 0x2E00:07 (spec R388). -/
abbrev MAINT.CE_WINDOW : Nat := 0x2E0007
/-- 0x2E00:08 (spec R388). -/
abbrev MAINT.SRAM_SPARE_ROWS : Nat := 0x2E0008
/-- 0x2E00:09 (spec R388). -/
abbrev MAINT.MRAM_SPARE_BLOCKS : Nat := 0x2E0009
/-- 0x2E00:0A (spec R388). -/
abbrev MAINT.WEAR_NOW : Nat := 0x2E000A
/-- 0x2E00:0B (spec R388). -/
abbrev MAINT.WEAR_WARN : Nat := 0x2E000B
/-- 0x2E00:0C (spec R388). -/
abbrev MAINT.WEAR_LIMIT : Nat := 0x2E000C
/-- 0x2E00:0D (spec R388). -/
abbrev MAINT.PROOF_INTERVAL : Nat := 0x2E000D
/-- 0x2E00:0E (spec R388). -/
abbrev MAINT.PROOF_AGE : Nat := 0x2E000E
/-- 0x2E00:0F (spec R388). -/
abbrev MAINT.LAST_REFUSAL : Nat := 0x2E000F
/-- 0x2E00:10 (spec R388). -/
abbrev MAINT.SCRUB_PASSES : Nat := 0x2E0010
/-- 0x2E00:11 (spec R388). -/
abbrev MAINT.CE_COUNT : Nat := 0x2E0011
/-- 0x2E10–0x2E13:01 (spec R389). -/
abbrev MSLOT.CODE (n : Nat) : Nat := (0x2E10 + n) * 256 + 0x01
/-- 0x2E10–0x2E13:02 (spec R389). -/
abbrev MSLOT.INSTANCE (n : Nat) : Nat := (0x2E10 + n) * 256 + 0x02
/-- 0x2E10–0x2E13:03 (spec R389). -/
abbrev MSLOT.START (n : Nat) : Nat := (0x2E10 + n) * 256 + 0x03
/-- 0x2E10–0x2E13:04 (spec R389). -/
abbrev MSLOT.ABORT (n : Nat) : Nat := (0x2E10 + n) * 256 + 0x04
/-- 0x2E10–0x2E13:05 (spec R389). -/
abbrev MSLOT.STATUS (n : Nat) : Nat := (0x2E10 + n) * 256 + 0x05
/-- 0x2E10–0x2E13:06 (spec R389). -/
abbrev MSLOT.FLAGS (n : Nat) : Nat := (0x2E10 + n) * 256 + 0x06
/-- 0x2E10–0x2E13:07 (spec R389). -/
abbrev MSLOT.RESULT (n : Nat) : Nat := (0x2E10 + n) * 256 + 0x07
/-- 0x2E10–0x2E13:08 (spec R389). -/
abbrev MSLOT.START_TT (n : Nat) : Nat := (0x2E10 + n) * 256 + 0x08
/-- 0x2E10–0x2E13:09 (spec R389). -/
abbrev MSLOT.END_TT (n : Nat) : Nat := (0x2E10 + n) * 256 + 0x09
/-- 0x3000–0x3FFF:01 (spec R310). -/
abbrev NODE.DESC (n : Nat) : Nat := (0x3000 + n) * 256 + 0x01
/-- 0x3000–0x3FFF:02–05 (spec R310). -/
abbrev NODE.IN (n : Nat) (i : Nat) : Nat := (0x3000 + n) * 256 + (0x02 + i)
/-- 0x3000–0x3FFF:06 (spec R310). -/
abbrev NODE.DUP (n : Nat) : Nat := (0x3000 + n) * 256 + 0x06
/-- 0x3000–0x3FFF:07–0E (spec R310). -/
abbrev NODE.K (n : Nat) (i : Nat) : Nat := (0x3000 + n) * 256 + (0x07 + i)
/-- 0x3000–0x3FFF:0F–12 (spec R310). -/
abbrev NODE.S (n : Nat) (i : Nat) : Nat := (0x3000 + n) * 256 + (0x0F + i)
/-- 0x3000–0x3FFF:13 (spec R310). -/
abbrev NODE.OUT0 (n : Nat) : Nat := (0x3000 + n) * 256 + 0x13
/-- 0x3000–0x3FFF:14 (spec R310). -/
abbrev NODE.OUT1 (n : Nat) : Nat := (0x3000 + n) * 256 + 0x14
/-- 0x3000–0x3FFF:15 (spec R310). -/
abbrev NODE.STATUS (n : Nat) : Nat := (0x3000 + n) * 256 + 0x15
/-- 0x3000–0x3FFF:16 (spec R310). -/
abbrev NODE.GATE_CMD (n : Nat) : Nat := (0x3000 + n) * 256 + 0x16
/-- 0x3000–0x3FFF:17 (spec R310). -/
abbrev NODE.CANCEL (n : Nat) : Nat := (0x3000 + n) * 256 + 0x17
/-- 0x3000–0x3FFF:18 (spec R310). -/
abbrev NODE.LAST_CORE (n : Nat) : Nat := (0x3000 + n) * 256 + 0x18
/-- 0x3000–0x3FFF:19 (spec R310). -/
abbrev NODE.LAST_EXEC (n : Nat) : Nat := (0x3000 + n) * 256 + 0x19
/-- 0x3000–0x3FFF:1A (spec R310). -/
abbrev NODE.RUNS (n : Nat) : Nat := (0x3000 + n) * 256 + 0x1A
/-- 0x4000–0x40FF:01 (spec R375). -/
abbrev FSRC.REACT (n : Nat) : Nat := (0x4000 + n) * 256 + 0x01
/-- 0x4000–0x40FF:02 (spec R375). -/
abbrev FSRC.SEVERE_REACT (n : Nat) : Nat := (0x4000 + n) * 256 + 0x02
/-- 0x4000–0x40FF:03 (spec R375). -/
abbrev FSRC.COUNT_N (n : Nat) : Nat := (0x4000 + n) * 256 + 0x03
/-- 0x4000–0x40FF:04 (spec R375). -/
abbrev FSRC.WINDOW (n : Nat) : Nat := (0x4000 + n) * 256 + 0x04
/-- 0x4000–0x40FF:05 (spec R375). -/
abbrev FSRC.ARM_MASK (n : Nat) : Nat := (0x4000 + n) * 256 + 0x05
/-- 0x4000–0x40FF:06 (spec R375). -/
abbrev FSRC.TRIP (n : Nat) : Nat := (0x4000 + n) * 256 + 0x06
/-- 0x4000–0x40FF:07 (spec R375). -/
abbrev FSRC.STATUS (n : Nat) : Nat := (0x4000 + n) * 256 + 0x07
/-- 0x4000–0x40FF:08 (spec R375). -/
abbrev FSRC.CLASS (n : Nat) : Nat := (0x4000 + n) * 256 + 0x08
/-- 0x4000–0x40FF:09 (spec R375). -/
abbrev FSRC.CLEAR (n : Nat) : Nat := (0x4000 + n) * 256 + 0x09
/-- 0x4000–0x40FF:0A (spec R375). -/
abbrev FSRC.FORCE (n : Nat) : Nat := (0x4000 + n) * 256 + 0x0A
/-- 0x4000–0x40FF:0B (spec R375). -/
abbrev FSRC.EVENTS (n : Nat) : Nat := (0x4000 + n) * 256 + 0x0B
/-- 0x4000–0x40FF:0C (spec R375). -/
abbrev FSRC.FIRST_TT (n : Nat) : Nat := (0x4000 + n) * 256 + 0x0C
/-- 0x4000–0x40FF:0D (spec R375). -/
abbrev FSRC.LAST_TT (n : Nat) : Nat := (0x4000 + n) * 256 + 0x0D
/-- 0x4000–0x40FF:0E (spec R375). -/
abbrev FSRC.IN_WINDOW (n : Nat) : Nat := (0x4000 + n) * 256 + 0x0E
/-- 0x5000:01 (spec R336). -/
abbrev STATS.WINDOW : Nat := 0x500001
/-- 0x5000:02 (spec R336). -/
abbrev STATS.WINDOWS : Nat := 0x500002
/-- 0x5000:03 (spec R336). -/
abbrev STATS.LAST_FRAME : Nat := 0x500003
/-- 0x5001–0x5004:01 (spec R336). -/
abbrev STATRG.QDEPTH_MAX (n : Nat) : Nat := (0x5001 + n) * 256 + 0x01
/-- 0x5001–0x5004:02 (spec R336). -/
abbrev STATRG.QDEPTH_MEAN (n : Nat) : Nat := (0x5001 + n) * 256 + 0x02
/-- 0x5001–0x5004:03 (spec R336). -/
abbrev STATRG.WAIT_MAX (n : Nat) : Nat := (0x5001 + n) * 256 + 0x03
/-- 0x5001–0x5004:04 (spec R336). -/
abbrev STATRG.WAIT_MEAN (n : Nat) : Nat := (0x5001 + n) * 256 + 0x04
/-- 0x5001–0x5004:05 (spec R336). -/
abbrev STATRG.GRANTS (n : Nat) : Nat := (0x5001 + n) * 256 + 0x05
/-- 0x5010–0x5021:01 (spec R336). -/
abbrev STATK.LOAD (n : Nat) : Nat := (0x5010 + n) * 256 + 0x01
/-- 0x5010–0x5021:02 (spec R336). -/
abbrev STATK.LOAD_PEAK (n : Nat) : Nat := (0x5010 + n) * 256 + 0x02
/-- 0x5010–0x5021:03 (spec R336). -/
abbrev STATK.NODES (n : Nat) : Nat := (0x5010 + n) * 256 + 0x03
/-- 0x8000–0x8BFF:01 (spec R294). -/
abbrev CELL.STATE (n : Nat) : Nat := (0x8000 + n) * 256 + 0x01
/-- 0x8000–0x8BFF:02 (spec R294). -/
abbrev CELL.CMD_STATE (n : Nat) : Nat := (0x8000 + n) * 256 + 0x02
/-- 0x8000–0x8BFF:03 (spec R294). -/
abbrev CELL.FLAGS (n : Nat) : Nat := (0x8000 + n) * 256 + 0x03
/-- 0x8000–0x8BFF:04 (spec R294). -/
abbrev CELL.VCAP (n : Nat) : Nat := (0x8000 + n) * 256 + 0x04
/-- 0x8000–0x8BFF:05 (spec R294). -/
abbrev CELL.VBAT (n : Nat) : Nat := (0x8000 + n) * 256 + 0x05
/-- 0x8000–0x8BFF:06 (spec R294). -/
abbrev CELL.IBAT (n : Nat) : Nat := (0x8000 + n) * 256 + 0x06
/-- 0x8000–0x8BFF:07 (spec R294). -/
abbrev CELL.SOC (n : Nat) : Nat := (0x8000 + n) * 256 + 0x07
/-- 0x8000–0x8BFF:08 (spec R294). -/
abbrev CELL.TEMP (n : Nat) : Nat := (0x8000 + n) * 256 + 0x08
/-- 0x8000–0x8BFF:09 (spec R294). -/
abbrev CELL.SOD_TT (n : Nat) : Nat := (0x8000 + n) * 256 + 0x09
/-- 0x8000–0x8BFF:0A (spec R294). -/
abbrev CELL.VCAP_EST (n : Nat) : Nat := (0x8000 + n) * 256 + 0x0A
/-- 0x8000–0x8BFF:0B (spec R294). -/
abbrev CELL.KEY (n : Nat) : Nat := (0x8000 + n) * 256 + 0x0B
/-- 0x8000–0x8BFF:0C (spec R294). -/
abbrev CELL.SW_COUNT (n : Nat) : Nat := (0x8000 + n) * 256 + 0x0C
/-- 0x8000–0x8BFF:0D (spec R294). -/
abbrev CELL.MISSED (n : Nat) : Nat := (0x8000 + n) * 256 + 0x0D
/-- 0x8000–0x8BFF:0E (spec R294). -/
abbrev CELL.STATE_TT (n : Nat) : Nat := (0x8000 + n) * 256 + 0x0E
/-- 0x8000–0x8BFF:0F (spec R294). -/
abbrev CELL.RTT (n : Nat) : Nat := (0x8000 + n) * 256 + 0x0F
/-- 0x8000–0x8BFF:10 (spec R294). -/
abbrev CELL.EQD (n : Nat) : Nat := (0x8000 + n) * 256 + 0x10
/-- 0x8000–0x8BFF:11 (spec R294). -/
abbrev CELL.DL_DELAY (n : Nat) : Nat := (0x8000 + n) * 256 + 0x11
/-- 0x8000–0x8BFF:12 (spec R294). -/
abbrev CELL.EQ_ADJ (n : Nat) : Nat := (0x8000 + n) * 256 + 0x12
/-- 0x8000–0x8BFF:13 (spec R294). -/
abbrev CELL.GROUPS (n : Nat) : Nat := (0x8000 + n) * 256 + 0x13
/-- 0x8000–0x8BFF:14 (spec R294). -/
abbrev CELL.RETIRE (n : Nat) : Nat := (0x8000 + n) * 256 + 0x14
/-- 0x8000–0x8BFF:15 (spec R294). -/
abbrev CELL.SEQ (n : Nat) : Nat := (0x8000 + n) * 256 + 0x15
/-- 0x8000–0x8BFF:16 (spec R294). -/
abbrev CELL.DISPUTES (n : Nat) : Nat := (0x8000 + n) * 256 + 0x16
/-- 0x8000–0x8BFF:17 (spec R294). -/
abbrev CELL.STALE_COUNT (n : Nat) : Nat := (0x8000 + n) * 256 + 0x17
/-- 0x8000–0x8BFF:18 (spec R294). -/
abbrev CELL.MODEL_FW (n : Nat) : Nat := (0x8000 + n) * 256 + 0x18
/-- 0x9000–0x9BFF:01 (spec R157). -/
abbrev TURF.SERIAL (n : Nat) : Nat := (0x9000 + n) * 256 + 0x01
/-- 0x9000–0x9BFF:02 (spec R157). -/
abbrev TURF.MATCH (n : Nat) : Nat := (0x9000 + n) * 256 + 0x02
/-- 0x9000–0x9BFF:03 (spec R157). -/
abbrev TURF.SEEN_PORT (n : Nat) : Nat := (0x9000 + n) * 256 + 0x03
/-- 0x9E00–0x9E3F:01 (spec R156). -/
abbrev STRANGER.SERIAL (n : Nat) : Nat := (0x9E00 + n) * 256 + 0x01
/-- 0x9E00–0x9E3F:02 (spec R156). -/
abbrev STRANGER.PORT (n : Nat) : Nat := (0x9E00 + n) * 256 + 0x02
/-- 0x9E00–0x9E3F:03 (spec R156). -/
abbrev STRANGER.REASON (n : Nat) : Nat := (0x9E00 + n) * 256 + 0x03
/-- 0x9E00–0x9E3F:04 (spec R156). -/
abbrev STRANGER.FIRST_TT (n : Nat) : Nat := (0x9E00 + n) * 256 + 0x04
/-- 0x9E00–0x9E3F:05 (spec R156). -/
abbrev STRANGER.LAST_TT (n : Nat) : Nat := (0x9E00 + n) * 256 + 0x05
/-- 0x9E00–0x9E3F:06 (spec R156). -/
abbrev STRANGER.COUNT (n : Nat) : Nat := (0x9E00 + n) * 256 + 0x06
/-- 0x9E00–0x9E3F:07 (spec R156). -/
abbrev STRANGER.IDENTIFY (n : Nat) : Nat := (0x9E00 + n) * 256 + 0x07
/-- 0x9E00–0x9E3F:08 (spec R156). -/
abbrev STRANGER.CLEAR (n : Nat) : Nat := (0x9E00 + n) * 256 + 0x08

end Sys2Proof.Machine.Reg
end

