-- ==== Sys2Proof/Machine/Ops.lean ====
section
/-!
DEFINITION. The operations every unit shares: sub-entries, status summaries, fault raises, trigger conditions, event
counters, time, free values, and the one gate through which a command changes the state.
-/
namespace Sys2Proof.Machine

/-- The reset value of a sub-entry (spec R6, R29); 0 for a key that no table lists. -/
def regReset (k : Nat) : Nat :=
  match entryAt (k / 256) (k % 256) with
  | some e => e.dflt.value (k / 256 - e.lo) (k % 256 - e.sub)
  | none => 0

/-- The value in force of a sub-entry. -/
def Dev.get (d : Dev) (k : Nat) : Nat := (Tab.find d.regs k).getD (regReset k)

/-- Give a sub-entry a value. -/
def Dev.set (d : Dev) (k : Nat) (v : Nat) : Dev := { d with regs := d.regs.put k v }

/-- Give several sub-entries values. -/
def Dev.sets (d : Dev) (l : List (Nat × Nat)) : Dev := l.foldl (fun d kv => d.set kv.1 kv.2) d

/-- A BOOLEAN or any value as true when it is not 0. -/
def Dev.on (d : Dev) (k : Nat) : Bool := d.get k != 0

/-- A two's complement sub-entry of `w` bits. -/
def Dev.getI (d : Dev) (k : Nat) (w : Nat) : Int := toSigned w (d.get k)

def Dev.setI (d : Dev) (k : Nat) (w : Nat) (i : Int) : Dev := d.set k (ofSigned w i)

/-- A REAL32 sub-entry. -/
def Dev.getF (d : Dev) (k : Nat) : F32 := BitVec.ofNat 32 (d.get k)

def Dev.setF (d : Dev) (k : Nat) (x : F32) : Dev := d.set k x.toNat

/-- Bit `b` of a sub-entry. -/
def Dev.bit (d : Dev) (k : Nat) (b : Nat) : Bool := (d.get k).testBit b

/-- Count up by `n`, wrapping at `w` bits. -/
def Dev.count (d : Dev) (k : Nat) (w n : Nat) : Dev := d.set k ((d.get k + n) % 2 ^ w)

/-- The value that a sample with index `si` uses: that before the earliest apply whose index lies above `si`, else
the value in force (spec R50). Of several applies at one index the first gives it (spec R52): `hist` lists the latest first. -/
def Dev.getAt (d : Dev) (si : Nat) (k : Nat) : Nat :=
  match (d.hist.filter (fun o => o.key == k && decide (si < o.k))).foldl
      (fun best o => match best with
        | none => some o
        | some b => if o.k ≤ b.k then some o else some b) (none : Option Old) with
  | some o => o.old
  | none => d.get k

def Dev.getAtI (d : Dev) (si : Nat) (k : Nat) (w : Nat) : Int := toSigned w (d.getAt si k)

def Dev.getAtF (d : Dev) (si : Nat) (k : Nat) : F32 := BitVec.ofNat 32 (d.getAt si k)

/-- What a read of a buffered sub-entry returns: the last value written, else the value in force (spec R45). -/
def Dev.getShadow (d : Dev) (k : Nat) : Nat := (Tab.find d.shadow k).getD (d.get k)

/-- A new value for an element of a unit's table. -/
def Tab.upd {α : Type} (t : Tab α) (k : Nat) (dflt : α) (f : α → α) : Tab α := t.put k (f (t.get k dflt))

/-! Time (spec R107, R108). -/

/-- TT: units of 100 ps since the end of the clocks phase, 64 bits; 0 before. -/
def Dev.tt (d : Dev) : Nat :=
  match d.ttZero with
  | none => 0
  | some z => (d.now - z) % 2 ^ 64

/-- TT of the 625 MHz tick at or before now (spec R108). -/
def Dev.tick (d : Dev) : Nat := d.tt - d.tt % 16

/-- The first tick at or after a TT. -/
def ceilTick (t : Nat) : Nat := (t + 15) / 16 * 16

/-- The sample index of a TT (spec R50). -/
def siOf (tt : Nat) : Nat := tt / 1000

/-- The apply index of a strobe time: the first SI whose grid point lies at or after it (spec R50). -/
def applyIndex (ts : Nat) : Nat := (ts + 999) / 1000

/-- The two's complement reading of `a - b` in `w` bits: `a` is at or after `b` when it is not negative (spec R127). -/
def diffW (w : Nat) (a b : Int) : Int := toSigned w (ofSigned w (a - b))

/-- The tick at which a near compare of a TARGET fires: the first at or after it, across the wrap of TT (spec R128). -/
def firingTick (target : Nat) : Nat := ceilTick target % 2 ^ 64

/-- The firing tick of a near TARGET has come. A near one lies within 2^31 units of TT, so R128's 32-bit difference is first not
negative at that tick; the signed 64-bit one says the same and goes on saying it afterwards (spec R127, R128). -/
def Dev.tickCame (d : Dev) (target : Nat) : Bool := decide (0 ≤ diffW 64 d.tick target)

/-! Device states (spec R96). -/

abbrev dsRESET : Nat := 0x00
abbrev dsKINDLING : Nat := 0x01
abbrev dsCONFIGURED : Nat := 0x02
abbrev dsLINKS_UP : Nat := 0x03
abbrev dsADMITTED : Nat := 0x04
abbrev dsREADY : Nat := 0x05
abbrev dsRUNNING : Nat := 0x06
abbrev dsBANKED : Nat := 0x07
abbrev dsTAKEOVER : Nat := 0x08
abbrev dsSAFE : Nat := 0x0E

/-- DEV_STATE. -/
def Dev.ds (d : Dev) : Nat := d.get Reg.DEV.STATE

def Dev.dsIn (d : Dev) (l : List Nat) : Bool := l.contains d.ds

/-- The core is powered and configured: CONFIGURED to RUNNING, TAKEOVER and SAFE. -/
def Dev.live (d : Dev) : Bool :=
  d.dsIn [dsCONFIGURED, dsLINKS_UP, dsADMITTED, dsREADY, dsRUNNING, dsTAKEOVER, dsSAFE]

/-- SAFE_DEFAULT, from the straps (spec R79, R90). -/
def Dev.safeDefault (d : Dev) : Bool := d.bit Reg.KINDLE.STRAPS 3

/-- Arm sampling and rate groups run (spec R101). In SAFE they go on where they ran before (log 75). -/
def Dev.sampling (d : Dev) : Bool :=
  let runs (st : Nat) : Bool := [dsLINKS_UP, dsADMITTED, dsREADY, dsRUNNING, dsTAKEOVER].contains st
  runs d.ds || (d.ds == dsSAFE && runs (d.get Reg.DEV.PREV_STATE))

/-! Statuses (spec R62). -/

abbrev stOK : Nat := 0x00
abbrev stNO_OBJECT : Nat := 0x01
abbrev stNO_SUBINDEX : Nat := 0x02
abbrev stREAD_ONLY : Nat := 0x03
abbrev stLOCKED : Nat := 0x04
abbrev stTYPE_LENGTH : Nat := 0x05
abbrev stRANGE : Nat := 0x06
abbrev stSTATE : Nat := 0x07
abbrev stBUSY : Nat := 0x08
abbrev stTOO_LARGE : Nat := 0x09
abbrev stBAD_HEADER : Nat := 0x0A
abbrev stBAD_OFFSET : Nat := 0x0B
abbrev stSUPERSEDED : Nat := 0x0E
abbrev stCRC_ERROR : Nat := 0x0F

/-- The device with the status of an access. -/
def Dev.ret (d : Dev) (st : Nat) : Dev := { d with status := st }

/-! Status summaries and NOTIFY (spec R53–R58). -/

/-- The bits of 0x2004 (spec R53). -/
abbrev uTIME : Nat := 0
abbrev uLINK : Nat := 1
abbrev uMEAS : Nat := 2
abbrev uGAU : Nat := 3
abbrev uARM : Nat := 4
abbrev uSTACK : Nat := 5
abbrev uKILN : Nat := 6
abbrev uPWM : Nat := 7
abbrev uDAMPER : Nat := 8
abbrev uTWIN : Nat := 9
abbrev uACQ : Nat := 10
abbrev uREG : Nat := 11
abbrev uMAINT : Nat := 12

/-- The bit of 0x1001 above a bit of 0x2004 (spec R54). -/
def errBit (u : Nat) : Nat :=
  if u == uTIME then 3
  else if u == uLINK then 2
  else if u == uMEAS || u == uGAU then 1
  else if u == uDAMPER then 5
  else if u == uTWIN then 6
  else if u == uACQ || u == uREG || u == uMAINT then 7
  else 4

/-- A rising bit of 0x2004 queues a NOTIFY to each enabled destination (spec R58). -/
def Dev.notify (d : Dev) (u : Nat) : Dev :=
  let wanted := d.bit Reg.SUMCTL.NOTIFY_MASK u
  let one (t : Tab NotifyX) (n : Nat) : Tab NotifyX :=
    Tab.upd t n {} (fun x =>
      { x with bits := setBit x.bits u, queued := x.queued || (wanted && d.on (Reg.NDEST.ENABLE n)) })
  { d with net := { d.net with notify := one (one d.net.notify 0) 1 } }

/-- A leaf of a unit rose: its summary bits rise with it (spec R53–R55). -/
def Dev.summary (d : Dev) (u : Nat) : Dev :=
  if d.bit Reg.UNITSUM.UNIT_SUMMARY u then d
  else
    ((d.set Reg.UNITSUM.UNIT_SUMMARY (setBit (d.get Reg.UNITSUM.UNIT_SUMMARY) u)).set Reg.ERRSUM.ERROR_SUMMARY
      (setBit (setBit (d.get Reg.ERRSUM.ERROR_SUMMARY) (errBit u)) 0)).notify u

/-- Set leaf bit `b`; its 0 to 1 edge rises into the summaries (spec R43, R55). -/
def Dev.rise (d : Dev) (k : Nat) (b u : Nat) : Dev :=
  if d.bit k b then d else (d.set k (setBit (d.get k) b)).summary u

/-- Clear leaf bit `b`. -/
def Dev.fall (d : Dev) (k : Nat) (b : Nat) : Dev :=
  if d.bit k b then d.set k (clearBits (d.get k) (1 <<< b)) else d

/-- A live leaf follows its cause. -/
def Dev.leaf (d : Dev) (k : Nat) (b u : Nat) (v : Bool) : Dev := if v then d.rise k b u else d.fall k b

/-- Acknowledge event leaves: those of `mask` among `events` clear, unless an event of the same kind arrives at the
same instant (spec R43). -/
def Dev.ack (d : Dev) (k : Nat) (events mask again : Nat) : Dev :=
  d.set k (clearBits (d.get k) (clearBits (mask &&& events) again))

/-! Raises (spec R358). -/

/-- A source was cleared at an instant, by a CLEAR or a CLEAR_ALL. -/
def Dev.clearedAt (d : Dev) (f at_ : Nat) : Bool :=
  match Tab.find d.damper.clears f with
  | some c => c.at_ == at_
  | none => false

/-- A raise joins those that wait for the damper. One at the instant of an earlier CLEAR of its source turns the status of that
write, where it is still the last one, into SUPERSEDED (spec R368, log 97). -/
def Dev.push (d : Dev) (r : Raised) : Dev :=
  { d with damper := { d.damper with raised := d.damper.raised ++ [r] }
           status := if d.clearedAt r.src r.at_ then stSUPERSEDED else d.status }

/-- A unit raises a source: it waits for the damper to recognize it. In RESET and BANKED the damper is powered down
with the core (spec R369). `arm` is the arm that the event names, 0xFF none. In KINDLING the reaction is the unit's
own and no classification applies: ALARM here (spec R369). -/
def Dev.raiseArm (d : Dev) (src arm aux : Nat) : Dev :=
  if d.ds == dsBANKED || d.ds == dsRESET then d
  else if d.ds == dsKINDLING then d.push { src := src, at_ := d.now, arm := arm, aux := aux, kindling := some ALARM }
  else d.push { src := src, at_ := d.now, arm := arm, aux := aux }

/-- A kindling failure that takes the device to SAFE (spec R369). -/
def Dev.raiseSafe (d : Dev) (src : Nat) : Dev :=
  d.push { src := src, at_ := d.now, arm := 0xFF, aux := 0, kindling := some SAFE_REACTION }

def Dev.raise (d : Dev) (src aux : Nat) : Dev := d.raiseArm src 0xFF aux

/-- A live leaf follows its cause and raises a source at its rising edge. -/
def Dev.leafRaise (d : Dev) (k : Nat) (b u : Nat) (v : Bool) (src arm aux : Nat) : Dev :=
  if v && !d.bit k b then (d.rise k b u).raiseArm src arm aux else d.leaf k b u v

/-! Trigger conditions (spec R431, R432). -/

/-- An enabled condition whose TT does not lie before the opening of the engine is recorded while the engine is open. -/
def Dev.condition (d : Dev) (b tt : Nat) : Dev :=
  if d.acq.engineOpen && d.bit Reg.TRIG.ENABLE b && decide (d.acq.openTt ≤ tt) then
    { d with acq := { d.acq with conds := d.acq.conds ++ [(b, tt)] } }
  else d

/-! What an ash channel showed (spec R436). -/

def Dev.ashRunning (d : Dev) : Bool := d.get Reg.ASH.ASH_STATE == 1

/-- A channel of running ash records a source. -/
def Dev.ashWatches (d : Dev) (code : Nat) : Bool :=
  d.ashRunning && (List.range 8).any (fun c => d.get (Reg.ASH.SRC c) == code)

/-- The value of a source at the end of the processing of an SI. -/
def Dev.ashNote (d : Dev) (code si v : Nat) : Dev :=
  if d.ashWatches code then { d with acq := { d.acq with ashLog := Tab.put d.acq.ashLog code ((si, v) :: Tab.get d.acq.ashLog code []) } }
  else d

/-! Event counters (spec R438, R440). -/

/-- Whether the gate of counter `n` is open. -/
def Dev.gateOpen (d : Dev) (n : Nat) : Bool :=
  match d.get (Reg.ECN.GATE n) with
  | 0 => false
  | 1 => true
  | 2 => d.acq.ecGate.testBit n
  | 3 => d.ds == dsRUNNING || d.ds == dsTAKEOVER
  | _ => let s := d.get Reg.ACQ.STATE; decide (1 ≤ s) && decide (s ≤ 3)

/-- Counter `n` takes a count; a snapshot of this tick follows, since it includes every event up to its tick (spec R439). -/
def Dev.ecPut (d : Dev) (n c : Nat) : Dev :=
  let d := d.set (Reg.ECN.COUNT n) c
  if d.acq.snapTick == some d.tick then d.set (Reg.ECN.SNAP_VALUE n) c else d

/-- Counter `n` counts `k` events; the wrap at 2^48 sets its OVF bit (spec R438). -/
def Dev.ecAdd (d : Dev) (n k : Nat) : Dev :=
  let c := d.get (Reg.ECN.COUNT n) + k
  let d := d.ecPut n (c % 2 ^ 48)
  if c ≥ 2 ^ 48 then d.set Reg.EC.OVF (setBit (d.get Reg.EC.OVF) n) else d

/-- A write to COUNT (spec R36, R438, R447): the low 48 bits, with a coincident increment on top, and 0 clears its OVF bit. -/
def Dev.ecWrite (d : Dev) (n v : Nat) (coincide : Bool) : Dev :=
  let d := d.set (Reg.ECN.COUNT n) (v % 2 ^ 48)
  let d := if v == 0 then d.set Reg.EC.OVF (clearBits (d.get Reg.EC.OVF) (1 <<< n)) else d
  (if coincide then d.ecAdd n 1 else d).ret stOK

/-- Events of a source seen so far in the present tick. -/
def Dev.seen (d : Dev) (src : Nat) : Nat := if d.acq.ecTick == d.tick then d.acq.ecSeen.get src 0 else 0

/-- `k` events of a source: every counter on that source whose gate is open counts them. -/
def Dev.events (d : Dev) (src k : Nat) : Dev :=
  let seen := Tab.put (if d.acq.ecTick == d.tick then d.acq.ecSeen else []) src (d.seen src + k)
  let d := { d with acq := { d.acq with ecTick := d.tick, ecSeen := seen } }
  (List.range 32).foldl (fun d n =>
    if d.get (Reg.ECN.SOURCE n) == src && d.gateOpen n then d.ecAdd n k else d) d

/-- The gates moved from those of `before`: an event at the tick at which a gate opens counts, one at the tick at which
it closes does not (spec R438). -/
def Dev.gatesMoved (d before : Dev) : Dev :=
  (List.range 32).foldl (fun d n =>
    let k := d.seen (d.get (Reg.ECN.SOURCE n))
    if k == 0 || d.gateOpen n == before.gateOpen n then d
    else if d.gateOpen n then d.ecAdd n k
    else d.ecPut n (d.get (Reg.ECN.COUNT n) - k)) d

/-- DEV_STATE changes: STATE and PREV_STATE (spec R96). -/
def Dev.setState (d : Dev) (st : Nat) : Dev :=
  if d.ds == st then d
  else Dev.gatesMoved ((d.set Reg.DEV.PREV_STATE d.ds).set Reg.DEV.STATE st) d

def Dev.event (d : Dev) (src : Nat) : Dev := d.events src 1

/-- Copy all counters to their SNAP values at this tick; two causes in one tick make one snapshot (spec R439). -/
def Dev.snap (d : Dev) : Dev :=
  let d := (List.range 32).foldl (fun d n => d.set (Reg.ECN.SNAP_VALUE n) (d.get (Reg.ECN.COUNT n))) d
  Dev.set { d with acq := { d.acq with snapTick := some d.tick } } Reg.EC.SNAP_TT d.tick

/-! Free values and output. -/

/-- A value the spec leaves open, fresh each time (log 2). -/
def Dev.fresh (d : Dev) : BitVec 64 × Dev := (Config.free d.freeCtr, { d with freeCtr := d.freeCtr + 1 })

/-- Something leaves the chip. -/
def Dev.send (d : Dev) (o : Out) : Dev := { d with out := d.out ++ [o] }

/-- Ask for a change of the byte areas; it is made when the command ends. -/
def Dev.memWrite (d : Dev) (a : Nat) (bs : List Byte) : Dev := { d with memQ := d.memQ ++ [.write a bs] }

def Dev.memClear (d : Dev) (a len : Nat) : Dev := { d with memQ := d.memQ ++ [.clear a len] }

/-- Bytes of the byte areas as they stand within a command, its own changes so far included. -/
def Dev.memBytes (d : Dev) (m : Memory) (a n : Nat) : List Byte := (m.apply d.memQ).bytes a n

/-! The gate. -/

/-- Run one command: time moves on by `dt`, `f` acts on the device, its changes of the byte areas are made, and the
waiting commands stay as they are. -/
def State.run (s : State) (dt : Nat) (f : Memory → Dev → Dev) : State :=
  let d := f s.mem { s.dev with now := s.dev.now + dt, out := [], memQ := [] }
  { pending := s.pending, mem := s.mem.apply d.memQ, dev := { d with memQ := [], now := s.dev.now + dt } }

/-- The outcome of a command that changes the device alone. -/
def State.next (s : State) (dt : Nat) (f : Dev → Dev) : Host.Outcome State Fault Refusal :=
  .next (s.run dt (fun _ d => f d))

/-- The outcome of a command that reads the byte areas as well. -/
def State.nextMem (s : State) (dt : Nat) (f : Memory → Dev → Dev) : Host.Outcome State Fault Refusal :=
  .next (s.run dt f)

end Sys2Proof.Machine
end

