-- ==== Sys2Proof/Machine/Cells.lean ====
section
/-!
DEFINITION. Cells and lanes: commanded state, estimator, balancing key, eligibility and the choice of a cell (spec
R276–R288), and the records that every link unit shares.
-/
namespace Sys2Proof.Machine

abbrev csABSENT : Nat := 0
abbrev csANNOUNCED : Nat := 1
abbrev csADMITTED : Nat := 2
abbrev csACTIVE : Nat := 3
abbrev csSTALE : Nat := 4
abbrev csDISPUTED : Nat := 5
abbrev csRETIRED : Nat := 6

/-- Switching states (spec R182). -/
abbrev swBYP : Nat := 0
abbrev swPOS : Nat := 1
abbrev swNEG : Nat := 2
abbrev swBLK : Nat := 3

/-- Arm states (spec R254). -/
abbrev asBLOCKED : Nat := 0
abbrev asHOLD : Nat := 1
abbrev asOPEN : Nat := 2
abbrev asCLOSED : Nat := 3

/-- Opcodes (spec R174). -/
abbrev opBYPASS : Nat := 1
abbrev opPOS : Nat := 2
abbrev opNEG : Nat := 3
abbrev opBLOCK : Nat := 4
abbrev opEQ_ADJ : Nat := 5
abbrev opGROUP_SET : Nat := 6
abbrev opPREPARE : Nat := 8
abbrev opCOMMIT : Nat := 9
abbrev opABORT : Nat := 10

/-- The switching state that an opcode sets. -/
def opState (op : Nat) : Nat :=
  if op == opBYPASS then swBYP else if op == opPOS then swPOS else if op == opNEG then swNEG else swBLK

def Dev.cell (d : Dev) (s : Nat) : CellX := d.cells.get s {}
def Dev.setCell (d : Dev) (s : Nat) (c : CellX) : Dev := { d with cells := d.cells.put s c }
def Dev.lane (d : Dev) (a : Nat) : LaneX := d.lanes.get a {}
def Dev.setLane (d : Dev) (a : Nat) (l : LaneX) : Dev := { d with lanes := d.lanes.put a l }
def Dev.arm (d : Dev) (a : Nat) : ArmX := d.arms.get a {}
def Dev.setArm (d : Dev) (a : Nat) (x : ArmX) : Dev := { d with arms := d.arms.put a x }
def Dev.port (d : Dev) (p : Nat) : PortX := d.link.ports.get p {}
def Dev.setPort (d : Dev) (p : Nat) (x : PortX) : Dev := { d with link := { d.link with ports := d.link.ports.put p x } }

/-- The arm of a port under the arm-to-port map in force (spec R11). -/
def Dev.armOfPort (d : Dev) (p : Nat) : Option Nat :=
  let a := d.get (Reg.PMAP.PORT_ARM p)
  if a < 6 then some a else none

def portOf (s : Nat) : Nat := s / 128
def addrOf (s : Nat) : Nat := s % 128

/-- The ports of an arm. -/
def Dev.portsOf (d : Dev) (a : Nat) : List Nat := (List.range 24).filter (fun p => d.armOfPort p == some a)

def Dev.mappedPorts (d : Dev) : List Nat := (List.range 24).filter (fun p => (d.armOfPort p).isSome)

/-- The arm whose lane holds a slot's cell: none while the port has changed arm and the cells have yet to join the new lane at
the next frame boundary (spec R158). -/
def Dev.armOfSlot (d : Dev) (s : Nat) : Option Nat :=
  if d.link.moved.contains (portOf s) then none else d.armOfPort (portOf s)

def Dev.cellState (d : Dev) (s : Nat) : Nat := d.get (Reg.CELL.STATE s)
def Dev.cmdState (d : Dev) (s : Nat) : Nat := d.get (Reg.CELL.CMD_STATE s)
def Dev.flag (d : Dev) (s b : Nat) : Bool := d.bit (Reg.CELL.FLAGS s) b
def Dev.setFlag (d : Dev) (s b : Nat) (v : Bool) : Dev :=
  d.set (Reg.CELL.FLAGS s) (putBit (d.get (Reg.CELL.FLAGS s)) b v)

/-- FLAGS bits (spec R294). -/
abbrev flUNCONFIRMED : Nat := 10
abbrev flSEED_PENDING : Nat := 9
abbrev flCMD_LIMIT : Nat := 8
abbrev flDISPUTE_FAILED : Nat := 7
abbrev flFAULT : Nat := 6
abbrev flEXCLUDED : Nat := 5
abbrev flPROFILE_BAD : Nat := 4
abbrev flFULL_BRIDGE : Nat := 3
abbrev flIN_DWELL : Nat := 2
abbrev flBYP_ELIGIBLE : Nat := 1
abbrev flINS_ELIGIBLE : Nat := 0

/-- Cell slots that the device keeps a record of, rising. -/
def Dev.knownSlots (d : Dev) : List Nat := d.cells.map Prod.fst

/-- The entries of an arm's lane (spec R276), by rising slot. -/
def Dev.laneSlots (d : Dev) (a : Nat) : List Nat :=
  d.knownSlots.filter (fun s => d.armOfSlot s == some a && decide (csACTIVE ≤ d.cellState s))

/-- A stack source: it names its arm, and its cell where it has one (spec R297, R298). -/
def Dev.raiseStack (d : Dev) (src arm : Nat) (cell : Option Nat) : Dev :=
  let d := d.set Reg.STACKG.LAST_ARM arm
  let d := match cell with
    | some s => d.set Reg.STACKG.LAST_CELL s
    | none => d
  d.raiseArm src arm (cell.getD arm)

/-- Whether the device holds the twin lease; with twin operation disabled it always does (spec R157, R200). -/
def Dev.hasLease (d : Dev) : Bool := !d.on Reg.TWIN.TWIN_EN || d.get Reg.TWIN.LEASE == 1

/-- Strobe TT of an arm's sample (spec R215): the grid point plus the pair's DELAY. -/
def Dev.strobe (d : Dev) (a si : Nat) : Nat := si * 1000 + 16 * d.getAt si (Reg.CV.DELAY (2 * a))

/-! The estimator (spec R280–R282). -/

/-- Q at a sample, from the lane's last 1,024 values; Q of the present sample where it lies further back. -/
def LaneX.qAt (l : LaneX) (si : Nat) : Nat :=
  if l.qSi < si then l.q else l.qHist.getD (l.qSi - si) l.q

/-- The sign of the estimator in a commanded state. -/
def estSign (st : Nat) : Int := if st == swPOS then 1 else if st == swNEG then -1 else 0

/-- s × diff64(a, b) × 2^-32 / C_EST in volts; 0 with C_EST 0.0. -/
def estDelta (sign : Int) (a b : Nat) (cEst : F32) : F32 :=
  if sign == 0 || F32.isZero cEst then F32.zero
  else F32.div (F32.ofScaled (sign * diffW 64 a b) (-32)) cEst

/-- The estimated capacitor voltage of a cell when its lane's charge is `q` (spec R281). -/
def Dev.vcapWith (d : Dev) (s q : Nat) (cEst : F32) : F32 :=
  let c := d.cell s
  F32.add c.vcapB (estDelta (estSign (d.cmdState s)) q c.qB cEst)

/-- VCAP_EST at the present sample of the cell's lane (spec R281). -/
def Dev.vcapEst (d : Dev) (s : Nat) : F32 :=
  match d.armOfSlot s with
  | some a => d.vcapWith s (d.lane a).q (d.lane a).vals.cEst
  | none => (d.cell s).vcapB

/-! The balancing key (spec R278). -/

/-- The sum of R278; none where it is NaN. -/
def keySum (v : KeyVals) (vcap soc temp : F32) (wear : Int) : F32 :=
  F32.add (F32.add (F32.add (F32.mul v.wV (F32.sub vcap v.vNom)) (F32.mul v.wSoc (F32.sub soc v.socTarget)))
    (F32.mul v.wT temp)) (F32.mul v.wW (F32.ofInt wear))

/-- sat24 of the nearest integer, ties away from zero; an infinity is limited like any other sum. -/
def sat24 (x : F32) : Int :=
  if F32.isInf x then (if F32.sign x then -8388608 else 8388607) else satSigned 24 (F32.toIntHalfAway x)

/-- Whether R278 has to limit the sum. -/
def keyLimited (x : F32) : Bool := F32.isInf x || decide (F32.toIntHalfAway x ≠ sat24 x)

/-- The sum for a cell under given values. -/
def Dev.keyOf (d : Dev) (s : Nat) (v : KeyVals) (vcap : F32) : F32 :=
  let wear : Int := if d.flag s flSEED_PENDING then 0 else (d.get (Reg.CELL.SW_COUNT s) : Int) - v.swFloor
  keySum v vcap (d.getF (Reg.CELL.SOC s)) (d.getF (Reg.CELL.TEMP s)) wear

/-- The arm in whose lane a slot has an entry (spec R276). -/
def Dev.entryArm (d : Dev) (s : Nat) : Option Nat := if csACTIVE ≤ d.cellState s then d.armOfSlot s else none

/-- KEY of a cell in the ranking in force at the present sample (spec R278): the KEY it had where the sum is NaN, or where no lane
has an entry for it (spec R294). -/
def Dev.key (d : Dev) (s : Nat) : Int :=
  match d.entryArm s with
  | some a =>
    let x := d.keyOf s (d.lane a).vals (d.vcapEst s)
    if F32.isNaN x then d.getI (Reg.CELL.KEY s) 32 else sat24 x
  | none => d.getI (Reg.CELL.KEY s) 32

/-- The lane evaluates a cell's key and keeps it. A sum that has to be limited, or is NaN, sets KEY_SAT with F152 (spec R278): at
every sod and every new ranking (`again`), between these once when the key comes to it (log 90). -/
def Dev.rekeyWith (d : Dev) (s : Nat) (again : Bool) : Dev :=
  match d.entryArm s with
  | some a =>
    let x := d.keyOf s (d.lane a).vals (d.vcapEst s)
    let sat := F32.isNaN x || keyLimited x
    let was := (d.cell s).keySat
    let d := if F32.isNaN x then d else d.setI (Reg.CELL.KEY s) 32 (sat24 x)
    let d := d.setCell s { d.cell s with keySat := sat }
    if sat && (again || !was) then (d.rise (Reg.LANE.LEAVES a) 5 uSTACK).raiseStack 152 a (some s) else d
  | none => d

/-- A key update from a sod or a new ranking. -/
def Dev.rekey (d : Dev) (s : Nat) : Dev := d.rekeyWith s true

/-- The keys of an arm's lane at its present sample, at which the estimates have moved. -/
def Dev.laneKeys (d : Dev) (a : Nat) : Dev := (d.laneSlots a).foldl (fun d s => d.rekeyWith s false) d

/-! Commanded state (spec R287, R291). -/

/-- How an arm's count moves with a commanded state. -/
def countOf (st : Nat) : Int := estSign st

/-- What a cell in a commanded state adds to its arm's count: nothing while it is UNCONFIRMED (spec R287, R412). -/
def Dev.counts (d : Dev) (s st : Nat) : Int := if d.flag s flUNCONFIRMED then 0 else countOf st

/-- Count a change of commanded state of a cell (spec R291). -/
def Dev.countSwitch (d : Dev) (s : Nat) : Dev :=
  if d.flag s flSEED_PENDING then
    let c := d.cell s
    d.setCell s { c with collected := c.collected + 1 }
  else d.count (Reg.CELL.SW_COUNT s) 64 1

/-- The commanded state of a cell becomes `st` at the present sample of its lane: the estimator takes a new base, the
switching count and the arm's count move; `unicast` changes restart the per-cell dwell (spec R281, R284, R287). -/
def Dev.setCmd (d : Dev) (s st : Nat) (unicast : Bool) : Dev :=
  let old := d.cmdState s
  if old == st then d else
  let c := d.cell s
  let d := match d.armOfSlot s with
    | some a =>
      let l := d.lane a
      let v := d.vcapEst s
      let d := d.setCell s { c with vcapB := v, qB := l.q, chgSi := l.qSi, chgSign := estSign old }
      let d := if unicast then d.set (Reg.CELL.STATE_TT s) (d.strobe a l.qSi) else d
      let x := d.arm a
      d.setArm a { x with nCmd := x.nCmd + d.counts s st - d.counts s old }
    | none => d
  ((d.set (Reg.CELL.CMD_STATE s) st).countSwitch s).rekeyWith s false

/-! Eligibility (spec R283, R284). -/

/-- The per-cell dwell has elapsed at a sample of arm `a`. -/
def Dev.dwellOver (d : Dev) (s a si : Nat) : Bool :=
  decide (d.get (Reg.CELL.STATE_TT s) + d.getAt si (Reg.LANE.T_CELL_DWELL a) * 10000 ≤ d.strobe a si) ||
    d.get (Reg.CELL.STATE_TT s) == 0

/-- 8 unicast commands since the latest sod latch (spec R189). -/
def Dev.cmdLimit (d : Dev) (s : Nat) : Bool := decide (8 ≤ (d.cell s).recent.length)

/-- A deblock burst of an arm runs (spec R258): the per-cell dwell does not apply, and cells in BLK may be inserted. -/
def Dev.bursting (d : Dev) (a : Nat) : Bool := (d.arm a).burst != 0

/-- Eligible for insertion. -/
def Dev.insEligible (d : Dev) (s a si : Nat) (neg burst : Bool) : Bool :=
  let st := d.cmdState s
  d.cellState s == csACTIVE && !d.flag s flUNCONFIRMED && (st == swBYP || (burst && st == swBLK)) && (burst || d.dwellOver s a si) &&
  !d.flag s flPROFILE_BAD && !d.flag s flEXCLUDED && (!d.flag s flFAULT || d.getAt si (Reg.LANE.FAULT_EXCLUDE a) == 0) &&
  !d.cmdLimit s && (!neg || d.flag s flFULL_BRIDGE)

/-- Eligible for bypass. -/
def Dev.bypEligible (d : Dev) (s a si : Nat) (burst : Bool) : Bool :=
  let st := d.cmdState s
  d.cellState s == csACTIVE && !d.flag s flUNCONFIRMED && (st == swPOS || st == swNEG) && (burst || d.dwellOver s a si) && !d.cmdLimit s

/-! Choosing a cell (spec R285, R286). -/

/-- The lowest, or highest, key of a pool. -/
def extreme (low : Bool) : List Int → Option Int
  | [] => none
  | k :: ks => some (ks.foldl (fun b x => if low then min b x else max b x) k)

/-- The cell with the picked key; among several, the smallest slot at or above the pointer, else the smallest. The
second part is the new pointer: it moves only on a tie. `pool` holds slots by rising number with their keys. -/
def pick (pool : List (Nat × Int)) (low : Bool) (ptr : Nat) : Option (Nat × Nat) :=
  match extreme low (pool.map Prod.snd) with
  | none => none
  | some k =>
    match (pool.filter (fun e => e.2 == k)).map Prod.fst with
    | [] => none
    | [s] => some (s, ptr)
    | s :: ss =>
      let c := ((s :: ss).find? (fun x => decide (ptr ≤ x))).getD s
      some (c, (c + 1) % 3072)

/-- The choice of R285 for arm `a`: the cell, its opcode, and the lane with its pointers moved. -/
def Dev.choose (d : Dev) (a si : Nat) (dir : Int) (pos burst : Bool) : Option (Nat × Nat × LaneX) :=
  let l := d.lane a
  let slots := d.laneSlots a
  let keyed (p : Nat → Bool) : List (Nat × Int) := (slots.filter p).map (fun s => (s, d.key s))
  if dir > 0 then
    match pick (keyed (fun s => d.cmdState s == swNEG && d.bypEligible s a si burst)) pos l.rotNeg with
    | some (s, r) => some (s, opBYPASS, { l with rotNeg := r })
    | none =>
      match pick (keyed (fun s => d.insEligible s a si false burst)) pos l.rotByp with
      | some (s, r) => some (s, opPOS, { l with rotByp := r })
      | none => none
  else
    match pick (keyed (fun s => d.cmdState s == swPOS && d.bypEligible s a si burst)) (!pos) l.rotPos with
    | some (s, r) => some (s, opBYPASS, { l with rotPos := r })
    | none =>
      match pick (keyed (fun s => d.insEligible s a si true burst)) (!pos) l.rotByp with
      | some (s, r) => some (s, opNEG, { l with rotByp := r })
      | none => none

end Sys2Proof.Machine
end

