-- ==== Sys2Proof/Machine/Time.lean ====
section
/-!
DEFINITION. The time base: station time, the servo, the PTP slave, PPS and the cross-checks (spec R107–R132).
-/
namespace Sys2Proof.Machine

/-- 10^10 units of 100 ps make a second. -/
def secUnits : Int := 10000000000

/-- ST of a TT under given RATE and OFFSET (spec R109): every division rounds towards minus infinity. -/
def stWith (rate offset : Int) (tt : Int) : Int := tt + tt * rate / (2 ^ 40 : Int) + offset

def Dev.rate (d : Dev) : Int := d.getI Reg.TB.RATE 32
def Dev.offset (d : Dev) : Int := d.getI Reg.TB.OFFSET 64
def Dev.epoch (d : Dev) : Nat := d.get Reg.TB.EPOCH_SEC

/-- ST of a TT (spec R109). -/
def Dev.st (d : Dev) (tt : Int) : Int := stWith d.rate d.offset tt

/-- ST_SEC and ST_SUB of a TT (spec R109). -/
def Dev.stSec (d : Dev) (tt : Int) : Int := (d.epoch : Int) + d.st tt / secUnits
def Dev.stSub (d : Dev) (tt : Int) : Int := d.st tt % secUnits

/-- Station time of a TT in units of 100 ps of the PTP timescale. -/
def Dev.stAbs (d : Dev) (tt : Int) : Int := (d.epoch : Int) * secUnits + d.st tt

/-- RATE, OFFSET or EPOCH_SEC has been set, by software, servo update or step; `before` is the device before. Where one of them
changed, a record in progress is marked (spec R434), and what was in force is kept for 2,000 ns for the next PPS_OUT edge (spec
R123). -/
def Dev.timeChange (d before : Dev) : Dev :=
  if d.rate == before.rate && d.offset == before.offset && d.epoch == before.epoch then d
  else
    let s := d.get Reg.ACQ.STATE
    let endTt := match d.acq.trig with
      | some (_, si, _) => si * 1000 + d.acq.postTime
      | none => 2 ^ 64
    let d := if (s == 1 || s == 2 || s == 3) && decide (d.tt ≤ endTt) then
        { d with acq := { d.acq with stChanged := some d.tt } } else d
    let keep := d.time.changes.filter (fun c => decide (d.tt < c.1 + 20000))
    { d with time := { d.time with changes := keep ++ [(d.tt, before.rate, before.offset, before.epoch)] } }

/-- A new RATE at device time `tta`: OFFSET moves so that station time is continuous there (spec R110). -/
def Dev.setRate (d : Dev) (tta : Nat) (rate : Int) : Dev :=
  let t : Int := tta
  let off := d.offset - (t * rate / (2 ^ 40 : Int) - t * d.rate / (2 ^ 40 : Int))
  ((d.setI Reg.TB.RATE 32 rate).setI Reg.TB.OFFSET 64 off).timeChange d

/-- ±200 ppm of 2^40 (spec R109). -/
def rateMax : Int := 219902325

/-- A software write of RATE (spec R109–R111): RANGE outside ±200 ppm, SUPERSEDED where a servo update of RATE meets it,
STATE unless the servo is DISABLED. -/
def Dev.rateWrite (d : Dev) (rate : Int) (coincide : Bool) : Dev :=
  if rate < -rateMax || rateMax < rate then d.ret stRANGE
  else if coincide then d.ret stSUPERSEDED
  else if d.get Reg.SERVO.STATE != 0 then d.ret stSTATE
  else (d.setRate d.tt rate).ret stOK

/-- Capture TT, station time and RATE of one tick (spec R112). -/
def Dev.latch (d : Dev) : Dev :=
  let t := d.tick
  d.sets [(Reg.TB.LATCH_TT, t), (Reg.TB.LATCH_ST_SEC, ofSigned 64 (d.stSec t)),
    (Reg.TB.LATCH_ST_SUB, ofSigned 64 (d.stSub t)), (Reg.TB.LATCH_RATE, d.get Reg.TB.RATE)]

/-- The smallest TT whose station time is at or after the input (spec R113): t + floor(t·RATE/2^40) ≥ x holds exactly
where t·(2^40 + RATE) ≥ x·2^40. -/
def Dev.stToTt (d : Dev) (sec sub : Nat) : Int :=
  let x : Int := ((sec : Int) - d.epoch) * secUnits + sub - d.offset
  let den : Int := 2 ^ 40 + d.rate
  Int.neg (Int.neg (x * 2 ^ 40) / den)

/-- CONVERT (spec R113). -/
def Dev.convert (d : Dev) : Dev :=
  let t := d.stToTt (d.get Reg.CONVT.IN_SEC) (d.get Reg.CONVT.IN_SUB)
  if t < 0 || (2 ^ 64 : Int) ≤ t then d.set Reg.CONVT.OUT_STATUS 1
  else d.sets [(Reg.CONVT.OUT_TT, t.toNat), (Reg.CONVT.OUT_STATUS, 0)]

/-! The servo (spec R114–R117). -/

abbrev svDISABLED : Nat := 0
abbrev svSEEKING : Nat := 1
abbrev svLOCKING : Nat := 2
abbrev svLOCKED : Nat := 3
abbrev svHOLDOVER : Nat := 4

/-- Clamp to ±`m`. -/
def clampRat (x m : Rat) : Rat := if x < -m then -m else if m < x then m else x

/-- Round to the nearest integer, halves upwards. -/
def roundRat (x : Rat) : Int := (x + 1 / 2).floor

/-- RATE_LIMIT as a plain fraction. -/
def Dev.rateLimit (d : Dev) : Rat := (d.get Reg.SERVO.RATE_LIMIT : Rat) / 1000000000

/-- Write a rate fraction to RATE under R110, within the limit of RATE itself (spec R109, R114). -/
def Dev.steer (d : Dev) (u : Rat) : Dev := d.setRate d.tick (max (-rateMax) (min rateMax (roundRat (u * 2 ^ 40))))

/-- The PI update for an offset `theta` in seconds over `ts` seconds (spec R114). -/
def Dev.piUpdate (d : Dev) (theta ts : Rat) : Dev :=
  let lim := d.rateLimit
  let i := clampRat (d.time.integ - F32.toRat (d.getF Reg.SERVO.KI) * theta / ts) lim
  let u := clampRat (i - F32.toRat (d.getF Reg.SERVO.KP) * theta / ts) lim
  Dev.steer { d with time := { d.time with integ := i } } u

/-- The servo enters a state; HOLDOVER has a live leaf (spec R116, R133). -/
def Dev.servoState (d : Dev) (st : Nat) : Dev :=
  (d.set Reg.SERVO.STATE st).leaf Reg.TB.LEAVES 2 uTIME (st == svHOLDOVER)

/-- Whether STEP_MODE allows a step now (spec R115). -/
def Dev.stepAllowed (d : Dev) : Bool :=
  match d.get Reg.SERVO.STEP_MODE with
  | 0 => true
  | 1 => !(d.ds == dsRUNNING || d.ds == dsTAKEOVER)
  | _ => false

/-- A step at device time `tt`: ST_SEC and ST_SUB become the reference time there, ST within the first second after
EPOCH_SEC (spec R115). The size is new ST minus old ST, EPOCH_SEC apart (spec R117). -/
def Dev.timeStep (d : Dev) (tt : Int) (ref : Rat) : Dev :=
  let r := roundRat ref
  let running := d.ds == dsRUNNING || d.ds == dsTAKEOVER
  let off := r % secUnits - (tt + tt * d.rate / (2 ^ 40 : Int))
  let size := off - d.offset
  let d := ((d.set Reg.TB.EPOCH_SEC (ofSigned 64 (r / secUnits))).setI Reg.TB.OFFSET 64 off).timeChange d
  let d := d.count Reg.TB.STEPS 32 1
  let d := d.set Reg.SERVO.LAST_STEP_TT (ofSigned 64 tt)
  let d := d.setI Reg.SERVO.LAST_STEP_SIZE 64 size
  let d := d.rise Reg.TB.LEAVES 4 uTIME
  if running then d.raise 69 0 else d

/-- Ts of an event: the time since the reference time of the event before, within 0.0625 s to 16 s; free for the first
event (spec R114; log 2). -/
def Dev.servoTs (d : Dev) (ref : Rat) : Rat × Dev :=
  match d.time.lastRef with
  | some p =>
    let ts := (ref - p) / 10000000000
    (if ts < 1 / 16 then 1 / 16 else if 16 < ts then 16 else ts, d)
  | none =>
    let (v, d) := d.fresh
    (((62500 + v.toNat % 15937501 : Nat) : Rat) / 1000000, d)

/-- One offset measurement `ts` seconds after the one before moves the servo (spec R114–R116). -/
def Dev.servoWith (d : Dev) (m : Measure) (ts : Rat) : Dev :=
  let st := d.get Reg.SERVO.STATE
  let theta : Rat := ((d.stAbs m.tt : Int) : Rat) - m.ref
  let ns : Rat := theta / 10
  let mag : Rat := if ns < 0 then 0 - ns else ns
  let d := { d with time := { d.time with lastRef := some m.ref } }
  let d := d.setI Reg.SERVO.LAST_THETA 32 (max (-2147483647) (min 2147483647 (roundRat ns)))
  let d := d.set Reg.SERVO.LAST_TS (roundRat (ts * 1000000)).toNat
  let above (k : Nat) : Bool := decide (((d.get k : Nat) : Rat) < mag)
  let stepping := above Reg.SERVO.STEP_THRESHOLD && d.stepAllowed
  let alarm := st == svLOCKED && above Reg.SERVO.ALARM_THRESHOLD
  let within := !above Reg.SERVO.LOCK_THRESHOLD
  let first := st == svSEEKING || st == svHOLDOVER
  let d := if stepping then (d.timeStep m.tt m.ref).piUpdate 0 ts else d.piUpdate (theta / 10000000000) ts
  let d := if alarm then (d.rise Reg.TB.LEAVES 3 uTIME).raise 68 0 else d
  let run : Nat := if first || stepping || !within then 0 else d.time.lockRun + 1
  let d := { d with time := { d.time with lockRun := run } }
  if first || stepping || alarm then d.servoState svLOCKING
  else if st == svLOCKING && decide (d.get Reg.SERVO.LOCK_COUNT ≤ run) then d.servoState svLOCKED
  else d

/-- One offset measurement (spec R114). -/
def Dev.servo (d : Dev) (m : Measure) : Dev :=
  if d.get Reg.SERVO.STATE == svDISABLED then d
  else
    let t := d.servoTs m.ref
    t.2.servoWith m t.1

/-- The servo's source is lost (spec R116): RATE takes the integrator and holds. -/
def Dev.servoLost (d : Dev) : Dev :=
  let st := d.get Reg.SERVO.STATE
  if st == svLOCKING || st == svLOCKED then
    ((d.steer d.time.integ).servoState svHOLDOVER).raise 67 0
  else d

/-- ENABLE as a strobe leaves it (spec R116). -/
def Dev.servoEnable (d : Dev) : Dev :=
  if !d.on Reg.SERVO.ENABLE then
    { (d.servoState svDISABLED) with time := { d.time with measure := none, lockRun := 0 } }
  else if d.get Reg.SERVO.STATE == svDISABLED then
    { (d.servoState svSEEKING) with time := { d.time with
        integ := (d.rate : Rat) / 2 ^ 40, lastRef := none, lockRun := 0, measure := none } }
  else d

/-! The ports of the field network (spec R71–R74, R88, R90). -/

/-- NET0 and NET1 run as two interfaces with link-local addresses: network boot, and SAFE_DEFAULT from the end of the fuse phase
on (spec R88, R90, R95, log 76). -/
def Dev.bootNet (d : Dev) : Bool :=
  (d.ds == dsKINDLING && (d.kindle.netBoot || (d.safeDefault && decide (3 ≤ d.get Reg.KINDLE.PHASE)))) || (d.live && d.safeDefault)

/-- A port runs with its configured settings: the device answers in every state but BANKED, in KINDLING from a loaded
image on, so in that of a RELOAD (spec R74, R95). -/
def Dev.netUp (d : Dev) (n : Nat) : Bool :=
  (d.live || (d.ds == dsKINDLING && d.kindle.reload)) && d.on (if n == 0 then Reg.NET.NET0_EN else Reg.NET.NET1_EN)

/-- A port of the field network is powered and enabled. -/
def Dev.netRuns (d : Dev) (n : Nat) : Bool := d.bootNet || d.netUp n

/-- A port runs and has link: frames come in and leave. -/
def Dev.netLive (d : Dev) (n : Nat) : Bool := d.netRuns n && d.on (Reg.NETP.LINK n)

/-- The ports run as a PRP pair (spec R71). -/
def Dev.prp (d : Dev) : Bool := !d.bootNet && d.get Reg.NET.MODE == 0

/-- The MAC address of a port (spec R71). -/
def Dev.mac (d : Dev) (n : Nat) : Nat := d.get Reg.NET.MAC_BASE + (if d.prp then 0 else n)

/-- The LAN identifier of a port: A for NET0, B for NET1 (spec R71). -/
def lanOf (n : Nat) : Nat := 0xA + n

/-- A frame leaves on a port. -/
def Dev.sendFrame (d : Dev) (n : Nat) (rct : Option Rct) (msg : NetMsg) : Dev :=
  (d.count (Reg.NETP.TX_FRAMES n) 64 1).send (.frame n (d.mac n) rct msg)

/-- The ports on which a frame for port `n` leaves: both of a PRP pair. -/
def Dev.txPorts (d : Dev) (n : Nat) : List Nat := (if d.prp then [0, 1] else [n]).filter d.netLive

/-- A frame leaves on those of some ports that have link; in PRP each copy carries the trailer of its LAN, and all copies one
sequence number (spec R71). -/
def Dev.frameOn (d : Dev) (ps : List Nat) (msg : NetMsg) : Dev :=
  let ps := ps.filter d.netLive
  if ps.isEmpty then d
  else if d.prp then
    let seq := d.net.txSeq
    let d := ps.foldl (fun d p => d.sendFrame p (some { seq := BitVec.ofNat 16 seq, lan := BitVec.ofNat 4 (lanOf p) }) msg) d
    { d with net := { d.net with txSeq := (seq + 1) % 65536 } }
  else ps.foldl (fun d p => d.sendFrame p none msg) d

def Dev.frameOut (d : Dev) (n : Nat) (msg : NetMsg) : Dev := d.frameOn (d.txPorts n) msg

/-- The field network goes down, to come up again with other settings: its links end and what IOP has in flight is lost
(spec R74). -/
def Dev.netDown (d : Dev) : Dev :=
  Dev.sets { d with net := { d.net with wait := none, queue := [] } } [(Reg.NETP.LINK 0, 0), (Reg.NETP.LINK 1, 0)]

/-- The interface of a port: in network boot and SAFE_DEFAULT that of the newer valid image of MRAM, or SGMII (spec R88). -/
def Dev.netIf (d : Dev) (n : Nat) : Nat :=
  if d.bootNet then (if n == 0 then d.kindle.bootIf0 else d.kindle.bootIf1)
  else d.get (if n == 0 then Reg.NET.NET0_IF else Reg.NET.NET1_IF)

/-! PTP (spec R118–R121). -/

/-- TX_INT and RX_INT of a port, by its interface (spec R120). -/
def Dev.txInt (d : Dev) (n : Nat) : Nat := if d.netIf n == 0 then 512 else 448
def Dev.rxInt (d : Dev) (n : Nat) : Nat := if d.netIf n == 0 then 768 else 704

/-- The reference plane of a frame that arrives, or leaves, now (spec R120). -/
def Dev.rxPlane (d : Dev) (n : Nat) : Int := (d.tt : Int) - d.rxInt n - d.get (Reg.PTPP.RX_EXT n)
def Dev.txPlane (d : Dev) (n : Nat) : Int := (d.tt : Int) + d.txInt n + d.get (Reg.PTPP.TX_EXT n)

/-- A PTP frame arrives on a port: it bypasses PRP (spec R72, R119); a two-step answer counts as one (log 112). -/
def Dev.ptpHeard (d : Dev) (n : Nat) (f : Dev → Dev) : Dev :=
  if d.netLive n then f (d.count (Reg.NETP.RX_FRAMES n) 64 1) else d

/-- The PTP engine takes a message of this port, domain and VLAN (spec R118, R119). -/
def Dev.ptpTakes (d : Dev) (h : PtpHdr) : Bool :=
  d.live && d.netLive h.net.val && d.bit Reg.PTP.PORT_EN h.net.val && h.domain.toNat == d.get Reg.PTP.DOMAIN &&
  (match h.vlan with
   | none => !d.on Reg.PTP.VLAN_EN
   | some (vid, pcp) => d.on Reg.PTP.VLAN_EN && vid.toNat == d.get Reg.PTP.VLAN_ID && pcp.toNat == d.get Reg.PTP.VLAN_PCP)

/-- A PTP frame is discarded. -/
def Dev.ptpDiscard (d : Dev) : Dev := if d.live then d.count Reg.PTP.DISCARDED 32 1 else d

def Dev.ptpPort (d : Dev) (n : Nat) : PtpPortX := d.time.ports.get n {}
def Dev.setPtpPort (d : Dev) (n : Nat) (p : PtpPortX) : Dev := { d with time := { d.time with ports := d.time.ports.put n p } }

/-- The clock identity: MAC_BASE with 0xFFFE after its third byte (spec R118). -/
def Dev.clockId (d : Dev) : Nat :=
  let mac := d.get Reg.NET.MAC_BASE % 2 ^ 48
  mac / 2 ^ 24 * 2 ^ 40 + 0xFFFE * 2 ^ 24 + mac % 2 ^ 24

/-- A port identity as one number: clock identity, then port number. -/
def portId (clock port : Nat) : Nat := clock * 65536 + port

/-- This device's port identity on NETn (spec R118). -/
def Dev.ownPort (d : Dev) (n : Nat) : Nat := portId d.clockId (n + 1)

/-- The data set comparison of IEEE 1588-2019 (spec R118, log 29) on two Announce messages with their senders and receivers:
-2 the first is better, -1 it is better by topology, 2 and 1 the second. -/
def announceCmp (a : PtpAnnounce) (aFrom aTo : Nat) (b : PtpAnnounce) (bFrom bTo : Nat) : Int :=
  let key (x : PtpAnnounce) : List Nat :=
    [x.priority1.toNat, x.clockClass.toNat, x.accuracy.toNat, x.variance.toNat, x.priority2.toNat, x.gmId.toNat]
  let x := a.stepsRemoved.toNat
  let y := b.stepsRemoved.toNat
  if a.gmId != b.gmId then (if key a < key b then -2 else 2)
  else if x + 1 < y then -2
  else if y + 1 < x then 2
  else if x < y then (if bTo < bFrom then -2 else if bFrom < bTo then -1 else 0)
  else if y < x then (if aTo < aFrom then 2 else if aFrom < aTo then 1 else 0)
  else if aFrom < bFrom then -1
  else if bFrom < aFrom then 1
  else if aTo < bTo then -1
  else if bTo < aTo then 1
  else 0

/-- A PTP timestamp in units of 100 ps, with a correction in units of 2^-16 ns. -/
def ptpUnits (t : PtpTime) (corr : Int) : Rat :=
  (((t.sec.toNat : Int) * secUnits + t.ns.toNat * 10 : Int) : Rat) + ((corr * 10 : Int) : Rat) / 65536

/-- 2^`log` s in units of 100 ps. -/
def logUnits (log : Int) : Nat := if log < 0 then 10000000000 / 2 ^ log.natAbs else 10000000000 * 2 ^ log.natAbs

/-- The active port and its master become those given; a new one has sent no Sync yet (spec R119). -/
def Dev.setMaster (d : Dev) (best id port : Nat) : Dev :=
  let same := d.get Reg.PTP.MASTER_ID == id && d.get Reg.PTP.MASTER_PORT == port && d.get Reg.PTP.ACTIVE_PORT == best
  let d : Dev := if same then d else { d with time := { d.time with sync := none, syncAt := d.now, syncLog := 0 } }
  let d := if d.get Reg.PTP.ACTIVE_PORT == best then d else (d.set Reg.PTP.ACTIVE_PORT best).rise Reg.TB.LEAVES 8 uTIME
  d.sets [(Reg.PTP.MASTER_ID, id), (Reg.PTP.MASTER_PORT, port)]

/-- Choose the active port and its master (spec R119): the active port changes only where its master is lost or the
other port's is strictly better; NET0 where both are equally good, which a
master better by topology alone is (log 29). -/
def Dev.selectMaster (d : Dev) : Dev :=
  let p := d.ptpPort 0
  let q := d.ptpPort 1
  let cur := d.get Reg.PTP.ACTIVE_PORT
  let best := match p.ann, q.ann with
    | none, none => 0
    | some _, none => 1
    | none, some _ => 2
    | some x, some y =>
      let c := announceCmp x (portId p.srcId p.srcPort) (d.ownPort 0) y (portId q.srcId q.srcPort) (d.ownPort 1)
      if cur == 2 then (if c == -2 then 1 else 2) else if c == 2 then 2 else 1
  match best with
  | 0 => d.setMaster 0 0 0
  | 1 => d.setMaster 1 p.srcId p.srcPort
  | _ => d.setMaster 2 q.srcId q.srcPort

/-- An offset measurement from the active port waits for the servo (spec R114): the reference time of the event is
what the master sent plus corrections, link delay and asymmetry. -/
def Dev.ptpMeasure (d : Dev) (net : Nat) (tt : Int) (origin : PtpTime) (corr : Int) : Dev :=
  if d.get Reg.SERVO.SOURCE == 0 then
    let ref := ptpUnits origin corr +
      ((d.getI (Reg.PTPP.LINK_DELAY net) 32 + d.getI (Reg.PTPP.ASYMMETRY net) 32 : Int) : Rat)
    { d with time := { d.time with measure := some { tt := tt, ref := ref } } }
  else d

/-- Sync (spec R118): counted where it comes from the selected master on the active port. -/
def Dev.ptpSync (d : Dev) (h : PtpHdr) (twoStep : Bool) (origin : PtpTime) : Dev :=
  if d.ptpTakes h && d.get Reg.PTP.ACTIVE_PORT == h.net.val + 1 && d.get Reg.PTP.MASTER_ID == h.srcId.toNat &&
      d.get Reg.PTP.MASTER_PORT == h.srcPort.toNat then
    let d := (d.count Reg.PTP.SYNC_RX 32 1).event 0x1C4
    let d : Dev := { d with time := { d.time with sync := none, syncAt := d.now, syncLog := h.logInterval.toInt } }
    let tt := d.rxPlane h.net.val
    if twoStep then
      let s : SyncX := { net := h.net.val, srcId := h.srcId.toNat, srcPort := h.srcPort.toNat, seq := h.seq.toNat,
                         tt := tt, correction := h.correction }
      { d with time := { d.time with sync := some s } }
    else d.ptpMeasure h.net.val tt origin h.correction
  else d.ptpDiscard

/-- Follow_Up (spec R118): completes the Sync that waits for it. -/
def Dev.ptpFollowUp (d : Dev) (h : PtpHdr) (precise : PtpTime) : Dev :=
  match d.time.sync with
  | some s =>
    if d.ptpTakes h && s.net == h.net.val && s.srcId == h.srcId.toNat && s.srcPort == h.srcPort.toNat &&
        s.seq == h.seq.toNat then
      Dev.ptpMeasure { d with time := { d.time with sync := none } } s.net s.tt precise (s.correction + h.correction)
    else d.ptpDiscard
  | none => d.ptpDiscard

/-- Announce (spec R118, R119): each port keeps the best master it hears. -/
def Dev.ptpAnnounce (d : Dev) (h : PtpHdr) (a : PtpAnnounce) : Dev :=
  if !d.ptpTakes h then d.ptpDiscard else
  let n := h.net.val
  let p := d.ptpPort n
  let same := p.srcId == h.srcId.toNat && p.srcPort == h.srcPort.toNat
  let takes := match p.ann with
    | none => true
    | some b => same || announceCmp a (portId h.srcId.toNat h.srcPort.toNat) (d.ownPort n) b (portId p.srcId p.srcPort) (d.ownPort n) < 0
  if takes then
    (d.setPtpPort n { p with
      ann := some a, srcId := h.srcId.toNat, srcPort := h.srcPort.toNat, annAt := d.now, annLog := h.logInterval.toInt }).selectMaster
  else d

/-- Announce receipt has timed out on a port (spec R117, R121). -/
def Dev.announceOver (d : Dev) (n : Nat) : Bool :=
  let p := d.ptpPort n
  p.ann.isSome && decide (p.annAt + d.get Reg.PTP.ANNOUNCE_TIMEOUT * logUnits p.annLog ≤ d.now)

/-- No Sync of the selected master for SYNC_TIMEOUT sync intervals (spec R117, R121). -/
def Dev.syncOver (d : Dev) : Bool :=
  d.get Reg.PTP.ACTIVE_PORT != 0 && decide (d.time.syncAt + d.get Reg.PTP.SYNC_TIMEOUT * logUnits d.time.syncLog ≤ d.now)

/-- The servo's source is lost (spec R117). -/
def Dev.sourceLost (d : Dev) : Bool :=
  if d.get Reg.SERVO.SOURCE == 1 then d.bit Reg.TB.LEAVES 5
  else d.get Reg.PTP.ACTIVE_PORT == 0 || d.syncOver || d.announceOver (d.get Reg.PTP.ACTIVE_PORT - 1)

/-- Announce receipt times out on a port, or Syncs stay away: the master or the source is lost (spec R117, R119). -/
def Dev.ptpLost (d : Dev) (net : Nat) (sync : Bool) : Dev :=
  let active := d.get Reg.PTP.ACTIVE_PORT == net + 1
  let source (d : Dev) : Dev := if active && d.get Reg.SERVO.SOURCE == 0 then d.servoLost else d
  if sync then (if d.syncOver then source d else d)
  else if d.announceOver net then source (d.setPtpPort net { d.ptpPort net with ann := none }).selectMaster
  else d

/-- ASYMMETRY of a port in units of 2^-16 ns (spec R120). -/
def Dev.asymmetry (d : Dev) (n : Nat) : Int := divRound (d.getI (Reg.PTPP.ASYMMETRY n) 32 * 65536) 10

/-- The 802.1Q tag of the PTP frames that leave: VLAN_ID and VLAN_PCP with VLAN_EN, else none (spec R118). -/
def Dev.vlanTag (d : Dev) : Option (Nat × Nat) :=
  if d.on Reg.PTP.VLAN_EN then some (d.get Reg.PTP.VLAN_ID, d.get Reg.PTP.VLAN_PCP) else none

/-- Pdelay_Req: answered two-step with the stamps of the reference plane in station time (spec R118, R120); the answer
names its requester and hands back the correction. -/
def Dev.ptpPdelayReq (d : Dev) (h : PtpHdr) : Dev :=
  if d.ptpTakes h then
    let n := h.net.val
    (d.count (Reg.NETP.TX_FRAMES n) 64 1).sendFrame n none
      (.pdelayResp (d.get Reg.PTP.DOMAIN) d.vlanTag d.clockId h.seq.toNat h.srcId.toNat h.srcPort.toNat h.correction
        (ofSigned 128 (d.stAbs (d.rxPlane n))) (ofSigned 128 (d.stAbs (d.txPlane n))))
  else d.ptpDiscard

/-- Pdelay_Resp to this port's request, with its Follow_Up where it has one: half of what the round trip took beyond the
neighbour's turnaround, with ASYMMETRY in its correction (spec R119–R121). -/
def Dev.ptpPdelayResp (d : Dev) (h : PtpHdr) (receipt response : PtpTime) : Dev :=
  let n := h.net.val
  let p := d.ptpPort n
  match p.req with
  | some (seq, t1) =>
    if d.ptpTakes h && seq == h.seq.toNat && portId h.reqId.toNat h.reqPort.toNat == d.ownPort n then
      let t4 := d.rxPlane n
      let trip : Rat := ((d.stAbs t4 - d.stAbs t1 : Int) : Rat)
      let delay := (trip - (ptpUnits response (h.correction + d.asymmetry n) - ptpUnits receipt 0)) / 2
      (d.setPtpPort n { p with req := none }).setI (Reg.PTPP.LINK_DELAY n) 32 (satSigned 32 (roundRat delay))
    else d.ptpDiscard
  | none => d.ptpDiscard

/-- The peer-delay interval of a port expires: a Pdelay_Req leaves, with ASYMMETRY taken from its correction (spec R119–R121). -/
def Dev.ptpPdelayInterval (d : Dev) (net : Nat) : Dev :=
  let p := d.ptpPort net
  if d.live && d.netLive net && d.bit Reg.PTP.PORT_EN net && decide (p.due ≤ d.now) then
    let d := d.setPtpPort net { p with req := some (p.seq, d.txPlane net), seq := (p.seq + 1) % 65536
                                       due := d.now + logUnits (d.getI Reg.PTP.PDELAY_INTERVAL 8) }
    d.sendFrame net none (.pdelayReq (d.get Reg.PTP.DOMAIN) d.vlanTag d.clockId p.seq (-d.asymmetry net))
  else d

/-! PPS (spec R122–R124). -/

/-- The whole second nearest to a station time, and the error from it, in 100 ps. -/
def nearestSecond (st : Int) : Int := divRound st secUnits * secUnits

/-- A selected PPS_IN edge (spec R122). -/
def Dev.ppsIn (d : Dev) (rising : Bool) : Dev :=
  if d.live && d.on Reg.PPS.IN_EN && (rising == (d.get Reg.PPS.IN_EDGE == 0)) then
    let t : Int := (d.tt : Int) - d.get Reg.PPS.IN_DELAY
    let st := d.stAbs t
    let err := st - nearestSecond st
    let d := d.set Reg.PPS.IN_LAST_TT (ofSigned 64 t)
    let d := d.setI Reg.PPS.IN_ERROR 32 (satSigned 32 err)
    let d := (d.fall Reg.TB.LEAVES 5).event 0x1C5
    let d := { d with time := { d.time with ppsSeen := some d.now } }
    if d.get Reg.SERVO.SOURCE == 0 then
      if decide (d.get Reg.PPS.IN_ALARM * 10 < err.natAbs) then (d.rise Reg.TB.LEAVES 6 uTIME).raise 72 0 else d
    else { d with time := { d.time with measure := some { tt := t, ref := ((nearestSecond st : Int) : Rat) } } }
  else d

/-- 1,100 ms without a PPS_IN edge (spec R122, R117). -/
def Dev.ppsLost (d : Dev) : Dev :=
  let due := match d.time.ppsSeen with
    | some t => decide (t + 11000000000 ≤ d.now)
    | none => false
  if d.live && d.on Reg.PPS.IN_EN && due && !d.bit Reg.TB.LEAVES 5 then
    let d := (d.rise Reg.TB.LEAVES 5 uTIME).raise 71 0
    if d.get Reg.SERVO.SOURCE == 1 then d.servoLost else d
  else d

/-- Station time as PPS_OUT's conversion sees it: without the changes of the last 2,000 ns (spec R123). -/
def Dev.ppsSt (d : Dev) (tt : Int) : Int :=
  match d.time.changes.find? (fun c => decide (d.tt < c.1 + 20000)) with
  | some (_, rate, off, ep) => (ep : Int) * secUnits + stWith rate off tt
  | none => d.stAbs tt

/-- Add a second to those pulsed. -/
def addPulsed (s : Int) : List (Int × Int) → List (Int × Int)
  | [] => [(s, s)]
  | (a, b) :: l => if s == b + 1 then (a, s) :: l else if s == a - 1 then (s, b) :: l else (a, b) :: addPulsed s l

/-- PPS_OUT rises at a whole station second not pulsed before; the ball edge stands OUT_DELAY before it, within 1.0 ns
(spec R123). -/
def Dev.ppsRise (d : Dev) : Dev :=
  let st := d.ppsSt ((d.tt : Int) + d.getI Reg.PPS.OUT_DELAY 32)
  let sec := divRound st secUnits
  let err := st - sec * secUnits
  let sv := d.get Reg.SERVO.STATE
  let ok := d.live && d.get Reg.PPS.OUT_MODE == 1 && (!d.on Reg.PPS.OUT_QUAL || sv == svLOCKED || sv == svHOLDOVER) &&
    decide (err.natAbs ≤ 10) && !d.time.pulsed.any (fun r => decide (r.1 ≤ sec) && decide (sec ≤ r.2))
  if ok then { d with time := { d.time with ppsOut := true, ppsOutAt := d.now, pulsed := addPulsed sec d.time.pulsed } }
  else d

/-- PPS_OUT falls OUT_WIDTH after its rise (spec R123). -/
def Dev.ppsFall (d : Dev) : Dev :=
  if d.time.ppsOut && decide (d.time.ppsOutAt + d.get Reg.PPS.OUT_WIDTH * 10000 ≤ d.now) then
    { d with time := { d.time with ppsOut := false } }
  else d

/-! TRIG_OUT (spec R128, R432). -/

/-- A pulse on a TRIG_OUT pin from `start` (TT) for 1,000 ns; pulses are ORed. The ball is low in RESET, KINDLING and BANKED
(spec R78). -/
def Dev.trigPulse (d : Dev) (pin start : Nat) : Dev :=
  if !d.live then d else
  let p := match d.time.trig.find pin with
    | some (a, b) => if start ≤ b && a ≤ start + 10000 then (min a start, max b (start + 10000)) else (start, start + 10000)
    | none => (start, start + 10000)
  { d with time := { d.time with trig := d.time.trig.put pin p } }

/-- A TRIG_OUT pulse ends. -/
def Dev.trigEnd (d : Dev) (pin : Nat) : Dev :=
  match d.time.trig.find pin with
  | some (_, b) => if b ≤ d.tt then { d with time := { d.time with trig := d.time.trig.drop pin } } else d
  | none => d

/-! Cross-checks (spec R132). -/

/-- A window of 20,000 SOSC periods ends; TT must have advanced by 4,000,000 ± 3 %. -/
def Dev.xcheck (d : Dev) (advance : Nat) : Dev :=
  if advance < 3880000 || 4120000 < advance then
    ((d.count Reg.TB.XCHECK_ERRORS 32 1).rise Reg.TB.LEAVES 1 uTIME).raise 64 0
  else d

end Sys2Proof.Machine
end

