-- ==== Sys2Proof/Machine/Acq.lean ====
section
/-!
DEFINITION. Acquisition records, the trigger engine, XTRIG, ash and snapshots (spec R419–R440).
-/
namespace Sys2Proof.Machine

/-! Trigger engine (spec R431–R433). -/

abbrev acIDLE : Nat := 0
abbrev acFILLING : Nat := 1
abbrev acARMED : Nat := 2
abbrev acPOST : Nat := 3
abbrev acDONE : Nat := 4
abbrev acABORTED : Nat := 5

def Dev.acqState (d : Dev) : Nat := d.get Reg.ACQ.STATE

/-- FILLING, ARMED or POST. -/
def Dev.acqBusy (d : Dev) : Bool := decide (1 ≤ d.acqState) && decide (d.acqState ≤ 3)

/-- The engine is open while a record is FILLING or ARMED or ash waits for a trigger. -/
def Dev.engineWanted (d : Dev) : Bool :=
  d.acqState == acFILLING || d.acqState == acARMED ||
  (d.ashRunning && d.on Reg.ASH.STOP_TRIG && d.acq.ashTrig.isNone)

/-- The engine opens or closes as its consumers ask; what it recorded goes when it closes. -/
def Dev.engineSync (d : Dev) : Dev :=
  if d.engineWanted == d.acq.engineOpen then d
  else { d with acq := { d.acq with engineOpen := d.engineWanted, openTt := d.tt, conds := [] } }

/-- ACQ.STATE changes, and with it gate 4 of the event counters and the engine. -/
def Dev.acqSet (d : Dev) (st : Nat) : Dev := ((d.set Reg.ACQ.STATE st).gatesMoved d).engineSync

/-- The trigger as the conditions give it: SI_T, the trigger word and TRIG_TT (spec R432). -/
def triggerOf : List (Nat × Nat) → Option (Nat × Nat × Nat)
  | [] => none
  | c :: cs =>
    let si := (c :: cs).foldl (fun m x => min m (siOf x.2)) (siOf c.2)
    let l := (c :: cs).filter (fun x => siOf x.2 == si)
    some (si, l.foldl (fun w x => setBit w x.1) 0, l.foldl (fun m x => min m x.2) (si * 1000 + 999))

/-- RATE, OFFSET and EPOCH_SEC as they stood at a TT of the last 2,000 ns. -/
def Dev.timeAt (d : Dev) (t : Nat) : Nat × Nat × Nat :=
  match d.time.changes.find? (fun c => decide (t < c.1)) with
  | some (_, rate, off, ep) => (ofSigned 32 rate, ofSigned 64 off, ep)
  | none => (d.get Reg.TB.RATE, d.get Reg.TB.OFFSET, d.get Reg.TB.EPOCH_SEC)

/-- A trigger reaches the record (spec R426, R429). -/
def Dev.triggerRecord (d : Dev) (si word tt : Nat) : Dev :=
  if d.acqState == acFILLING || d.acqState == acARMED then
    let h := d.timeAt tt
    let d := { d with acq := { d.acq with
      trig := some (tt, si, word), shortPre := d.acqState == acFILLING, forced := word.testBit 9
      hdrRate := h.1, hdrOffset := h.2.1, hdrEpoch := h.2.2 } }
    (d.set (Reg.SEG.TRIG_TT (d.get Reg.ACQ.SEGMENT)) tt).acqSet acPOST
  else d

/-- A trigger reaches ash (spec R437). -/
def Dev.triggerAsh (d : Dev) (si : Nat) : Dev :=
  if d.ashRunning && d.on Reg.ASH.STOP_TRIG && d.acq.ashTrig.isNone then
    { d with acq := { d.acq with ashTrig := some si, ashPost := some (d.get Reg.ASH.POST) } }
  else d

/-- The trigger resolves: it reaches record and ash, pulses TRIG_OUT, drives XTRIG and is stored (spec R432). XTRIG is released in
the states of R78. -/
def Dev.trigger (d : Dev) (si word tt : Nat) : Dev :=
  let d := (d.triggerRecord si word tt).triggerAsh si
  let d := d.sets [(Reg.TRIG.LAST_WORD, word), (Reg.TRIG.LAST_SI, si), (Reg.TRIG.LAST_TT, tt)]
  let d := if d.bit Reg.TRIG.TRIG_OUT 0 then d.trigPulse 0 d.tt else d
  let d := if d.bit Reg.TRIG.TRIG_OUT 1 then d.trigPulse 1 d.tt else d
  let d := if d.live && d.on Reg.TRIG.XTRIG_DRIVE then
      { d with acq := { d.acq with xDrive := some (d.tt + d.get Reg.TRIG.XTRIG_WIDTH * 10000) } } else d
  let d := (Dev.engineSync { d with acq := { d.acq with engineOpen := false, conds := [] } }).event 0x1C7
  if d.bit Reg.EC.SNAP_SRC 2 then d.snap else d

/-- A filtered TRIG_IN edge (spec R431): bit 0 or 1 where its direction is the selected one. -/
def Dev.trigIn (d : Dev) (pin : Nat) (rising : Bool) : Dev :=
  if d.live && rising != d.bit Reg.TRIG.TRIG_IN_EDGE pin then d.condition pin d.tick else d

/-- The device drives XTRIG low. -/
def Dev.xDriving (d : Dev) : Bool :=
  match d.acq.xDrive with
  | some t => decide (d.tt < t)
  | none => false

/-- XTRIG falls (spec R433): never a condition while the device drives it, nor after XTRIG_STUCK until the line has been
high for 1,000 ns. -/
def Dev.xFall (d : Dev) : Dev :=
  let blocked := d.acq.xBlocked && decide (d.now < d.acq.xHighAt + 10000)
  let d := { d with acq := { d.acq with xLowAt := some d.now, xBlocked := blocked } }
  if d.live && !d.xDriving && !blocked then d.condition 2 d.tick else d

/-- XTRIG stays low for longer than XTRIG_STUCK while the device does not drive it (spec R433). -/
def Dev.xStuck (d : Dev) : Dev :=
  match d.acq.xLowAt with
  | some t =>
    if d.live && !d.xDriving && decide (t + d.get Reg.TRIG.XTRIG_STUCK * 10000 < d.now) then
      Dev.leafRaise { d with acq := { d.acq with xBlocked := true, xHighAt := 2 ^ 80 } } Reg.ACQ.LEAVES 3 uACQ true 254 0xFF 0
    else d
  | none => d

/-- XTRIG rises: the leaf falls; conditions count again once the line has been high for 1,000 ns. -/
def Dev.xRise (d : Dev) : Dev :=
  Dev.fall { d with acq := { d.acq with xLowAt := none, xHighAt := d.now } } Reg.ACQ.LEAVES 3

/-- XTRIG_WIDTH elapses (spec R432). -/
def Dev.xDriveEnd (d : Dev) : Dev :=
  if d.xDriving then d else { d with acq := { d.acq with xDrive := none } }

/-- A write of 1 to FORCE (spec R442). -/
def Dev.trigForce (d : Dev) : Dev :=
  if d.acq.engineOpen then (d.condition 9 d.tt).ret stOK else d.ret stSTATE

/-! Admission (spec R419, R423). -/

/-- Entry size of a stream as configured. -/
def Dev.strmSize (d : Dev) (s : Nat) : Nat :=
  match d.get (Reg.STRM.KIND s) with
  | 0 => 0
  | 1 =>
    let src := d.get (Reg.STRM.SOURCE s)
    if src < 12 || d.get (Reg.CV.START_SRC src) == 0 then 4 else 8
  | 2 => 64
  | _ => 32

/-- KIND, SOURCE, COUNT and DECIM of a stream lie in the ranges of R419 and R444 with a write of `v` to subindex `sub`, the other
three as they were last written (log 105). -/
def Dev.strmOk (d : Dev) (s sub v : Nat) : Bool :=
  let at_ (j k : Nat) : Nat := if sub == j then v else d.getShadow k
  let kind := at_ 1 (Reg.STRM.KIND s)
  let src := at_ 2 (Reg.STRM.SOURCE s)
  let n := at_ 3 (Reg.STRM.COUNT s)
  let dec := at_ 4 (Reg.STRM.DECIM s)
  decide (1 ≤ n) && decide (n ≤ 3072) && (if kind == 1 then decide (1 ≤ dec) else dec == 1) &&
  (kind != 1 || (decide (src ≤ 17) && (decide (12 ≤ src) || src % 2 == 0))) &&
  (kind != 3 || (decide (src ≤ 3071) && decide (src + n ≤ 3072)))

/-- The listed cells of a KIND 3 stream: its slots with a turf serial. -/
def Dev.strmSlots (d : Dev) (s : Nat) : List Nat :=
  let first := d.get (Reg.STRM.SOURCE s)
  ((List.range (d.get (Reg.STRM.COUNT s))).map (fun i => first + i)).filter (fun c => d.get (Reg.TURF.SERIAL c) != 0)

/-- Entries per second: the rate basis. -/
def Dev.strmBasis (d : Dev) (s : Nat) : Rat :=
  let src := d.get (Reg.STRM.SOURCE s)
  let dec : Rat := (d.get (Reg.STRM.DECIM s) : Nat)
  match d.get (Reg.STRM.KIND s) with
  | 0 => 0
  | 1 =>
    if src < 12 then 10000000 / dec
    else if d.get (Reg.CV.START_SRC src) == 0 then 5000000 / (((d.get (Reg.CV.GRID_DIV src) : Nat) : Rat) * dec)
    else 5000000 / dec
  | 2 => ((popCount 6 src : Nat) : Rat) * 100000
  | _ => (((d.strmSlots s).length : Nat) : Rat) * 100000

/-- R_s (spec R423): entries and one 32-byte header for each 256 of them. -/
def Dev.strmRate (d : Dev) (s : Nat) : Rat :=
  if d.strmSize s == 0 then 0 else d.strmBasis s * (((d.strmSize s : Nat) : Rat) + 1 / 8)

def Dev.strmOn (d : Dev) : List Nat := (List.range 16).filter (fun s => d.get (Reg.STRM.KIND s) != 0)

/-- R (spec R423). -/
def Dev.acqRate (d : Dev) : Rat := d.strmOn.foldl (fun r s => r + d.strmRate s) 0

/-- need (spec R423), a whole number of bytes that suffices. -/
def Dev.acqNeed (d : Dev) : Nat :=
  let us := d.get Reg.ACQ.PRE_TIME + d.get Reg.ACQ.POST_TIME
  let parts := d.strmOn.foldl (fun n s => n + 32 + 256 * d.strmSize s) 0
  (d.acqRate * ((us : Nat) : Rat) / 1000000).ceil.toNat + 2 * parts + 96

/-- The segment an ARM takes (spec R426): the lowest EMPTY one, else with OVERWRITE the oldest that holds a record. -/
def Dev.segFree (d : Dev) : Option Nat :=
  match (List.range (d.get Reg.ACQ.SEGMENTS)).find? (fun g => d.get (Reg.SEG.STATE g) == 0) with
  | some g => some g
  | none =>
    if d.on Reg.ACQ.OVERWRITE then
      d.acq.segOrder.find? (fun g => decide (g < d.get Reg.ACQ.SEGMENTS) && decide (2 ≤ d.get (Reg.SEG.STATE g)))
    else none

/-- ARM_RESULT for an ARM made now (spec R423). -/
def Dev.armResult (d : Dev) : Nat :=
  if (4000000000 : Rat) < d.acqRate then 1
  else if Mem.acqSize < d.acqNeed * d.get Reg.ACQ.SEGMENTS then 2
  else if d.strmOn.isEmpty then 3
  else if d.segFree.isNone then 4
  else 0

/-- What a stream records, as its settings stand at the ARM. -/
def Dev.strmTake (d : Dev) (s : Nat) : StreamX :=
  let src := d.get (Reg.STRM.SOURCE s)
  let dec := d.get (Reg.STRM.DECIM s)
  let kind := d.get (Reg.STRM.KIND s)
  { kind := kind, source := src, size := d.strmSize s, decim := dec
    step := if kind != 1 then 0 else if src < 12 then 1000 * dec
      else if d.get (Reg.CV.START_SRC src) == 0 then 2000 * d.get (Reg.CV.GRID_DIV src) * dec else 0
    slots := if kind == 3 then d.strmSlots s else [] }

/-- An admitted ARM takes its segment (spec R423, R426). -/
def Dev.acqTake (d : Dev) (g : Nat) : Dev :=
  let on := d.strmOn
  let d := d.sets [(Reg.ACQ.ARM_RESULT, 0), (Reg.ACQ.ADMITTED_RATE, (F32.ofRat d.acqRate).toNat),
    (Reg.ACQ.RECORD_BYTES, d.acqNeed), (Reg.ACQ.SEGMENT, g), (Reg.SEG.STATE g, 1), (Reg.SEG.LENGTH g, 0),
    (Reg.SEG.TRIG_TT g, 0)]
  let d := (List.range 16).foldl (fun d s => d.set (Reg.STRM.RATE s) (F32.ofRat (d.strmRate s)).toNat) d
  let d := { d with acq := { d.acq with
    armTt := d.tt, preTime := d.get Reg.ACQ.PRE_TIME * 10000, postTime := d.get Reg.ACQ.POST_TIME * 10000
    segBytes := Mem.acqSize / d.get Reg.ACQ.SEGMENTS, trig := none, shortPre := false, abortLate := false
    stChanged := none, dataInvalid := false, forced := false, hdrRate := 0, hdrOffset := 0, hdrEpoch := 0, blocks := []
    streams := on.map (fun s => (s, d.strmTake s)), segOrder := d.acq.segOrder.filter (fun x => x != g) } }
  d.acqSet acFILLING

/-- A write of 1 to ARM (spec R423, R426). -/
def Dev.acqArm (d : Dev) : Dev :=
  if !d.dsIn [dsCONFIGURED, dsLINKS_UP, dsADMITTED, dsREADY, dsRUNNING] || d.acqBusy then d.ret stSTATE
  else match d.armResult with
  | 0 => (d.acqTake (d.segFree.getD 0)).ret stOK
  | 4 => (d.set Reg.ACQ.ARM_RESULT 4).ret stBUSY
  | r => (d.set Reg.ACQ.ARM_RESULT r).ret stRANGE

/-- PRE_TIME has elapsed since the ARM's apply point (spec R426). -/
def Dev.acqPretime (d : Dev) : Dev :=
  if d.acqState == acFILLING && decide (d.acq.armTt + d.acq.preTime ≤ d.tt) then d.acqSet acARMED else d

/-! Entries and blocks (spec R419–R422, R430). -/

/-- End TT; beyond every TT without a trigger. -/
def Dev.acqEnd (d : Dev) : Nat :=
  match d.acq.trig with
  | some (_, si, _) => si * 1000 + d.acq.postTime
  | none => 2 ^ 65

/-- Blocks that can no longer belong to the record are forgotten while no trigger is there. -/
def AcqX.prune (x : AcqX) (tt : Nat) : AcqX :=
  if x.trig.isSome then x
  else { x with blocks := x.blocks.filter (fun b => b.entries.any (fun e => decide (tt < e.tt + x.preTime + 1000000))) }

/-- One entry of a stream; the block closes after 256 entries. -/
def Dev.acqEntry (d : Dev) (s : Nat) (e : EntryX) : Dev :=
  match d.acq.streams.find s with
  | some x =>
    if d.acqBusy && decide (d.acq.armTt ≤ e.tt) && decide (e.tt < d.acqEnd) then
      let es := x.entries ++ [e]
      let d := d.count (Reg.STRM.ENTRIES s) 64 1
      if 256 ≤ es.length then
        let b : BlockX := { stream := s, block := x.block, entries := es, invalid := x.invalid }
        let a := { d.acq with streams := d.acq.streams.put s { x with entries := [], block := x.block + 1, invalid := false }
                              blocks := d.acq.blocks ++ [b] }
        { d with acq := a.prune d.tt }
      else { d with acq := { d.acq with streams := d.acq.streams.put s { x with entries := es } } }
    else d
  | none => d

/-- Streams of a kind. -/
def Dev.strmOf (d : Dev) (kind : Nat) : List (Nat × StreamX) :=
  if d.acqBusy then d.acq.streams.filter (fun e => e.2.kind == kind) else []

/-- A word of a converter, or of a merged pair, goes to the streams that record it (spec R420). -/
def Dev.acqWord (d : Dev) (src word tt si : Nat) : Dev :=
  (d.strmOf 1).foldl (fun d e =>
    let x := e.2
    if x.source != src then d
    else if src < 12 then (if si % x.decim == 0 then d.acqEntry e.1 ⟨tt, tt, leBytes 4 word⟩ else d)
    else
      let keep := x.words % x.decim == 0
      let d := { d with acq := { d.acq with streams := d.acq.streams.put e.1 { x with words := x.words + 1 } } }
      let bytes := if x.size == 8 then leBytes 4 word ++ leBytes 4 tt else leBytes 4 word
      if keep then d.acqEntry e.1 ⟨tt, tt, bytes⟩ else d) d

/-- The sod entry (spec R422) of a listed cell in a frame: its status, the payload as it crossed the fibre and its TT. There is one
for each cell and frame; a block that begins with it shows B(n) of the frame (spec R430). -/
def Dev.acqSod (d : Dev) (slot status : Nat) (payload : List Byte) (tt frame : Nat) : Dev :=
  let b := if frame == d.frame.n then d.frame.bn else d.frame.bnOld
  let bytes := leBytes 8 tt ++ leBytes 2 slot ++ leBytes 1 status ++ leBytes 1 (d.cellState slot) ++
    (if status == 0 then payload else leBytes 12 0) ++ leBytes 4 frame ++ leBytes 4 0
  (d.strmOf 3).foldl (fun d e =>
    let x := e.2
    if x.slots.contains slot && decide (x.seen.get slot 0 ≤ frame) then
      let x := { x with seen := x.seen.put slot (frame + 1) }
      Dev.acqEntry { d with acq := { d.acq with streams := d.acq.streams.put e.1 x } } e.1 ⟨tt, b, bytes⟩
    else d) d

/-- The sod regions of the frame before the present one have passed: its listed cells without an entry were MISSING (spec R422, log
106). -/
def Dev.sodsPassed (d : Dev) : Dev :=
  if !d.frame.started || d.frame.n == 0 then d
  else (d.strmOf 3).foldl (fun d e => e.2.slots.foldl (fun d s => d.acqSod s 1 [] d.frame.bnOld (d.frame.n - 1)) d) d

/-- An aggregate entry (spec R421) of an arm, formed at B(n+1). -/
def Dev.acqAggregate (d : Dev) (a tt frame : Nat) (iRef : F32) : Dev :=
  let r (k : Nat) (n : Nat) : List Byte := leBytes n (d.get k)
  let bytes := leBytes 8 tt ++ leBytes 4 frame ++ leBytes 1 a ++ r (Reg.ARM.STATE a) 1 ++ r (Reg.LANE.HEALTHY a) 2 ++
    r (Reg.LANE.VCAP_SUM a) 4 ++ r (Reg.LANE.VCAP_MIN a) 4 ++ r (Reg.LANE.VCAP_MAX a) 4 ++
    r (Reg.LANE.INS_VCAP_SUM a) 4 ++ r (Reg.LANE.SOC_MEAN a) 4 ++ r (Reg.LANE.TEMP_MAX a) 4 ++
    r (Reg.LANE.N_POS a) 2 ++ r (Reg.LANE.N_NEG a) 2 ++ r (Reg.LANE.ELIGIBLE_INS a) 2 ++
    r (Reg.LANE.ELIGIBLE_BYP a) 2 ++ r (Reg.ARM.N_CMD a) 2 ++ r (Reg.ARM.N_FF a) 2 ++ r (Reg.ARM.N_FB a) 2 ++
    leBytes 2 0 ++ leBytes 4 iRef.toNat ++ leBytes 4 0
  (d.strmOf 2).foldl (fun d e => if e.2.source.testBit a then d.acqEntry e.1 ⟨tt, tt, bytes⟩ else d) d

/-! The record as bytes (spec R427–R430). -/

/-- Close what is open, and mark the last block of each stream. -/
def AcqX.closed (x : AcqX) : List BlockX :=
  let rest : List BlockX := x.streams.filterMap (fun e =>
    if e.2.entries.isEmpty then none else some { stream := e.1, block := e.2.block, entries := e.2.entries, invalid := e.2.invalid })
  let all := x.blocks ++ rest
  all.map (fun b => { b with last := !all.any (fun c => c.stream == b.stream && decide (b.block < c.block)) })

/-- Index of the first entry at or after the trigger point, where the block is the one in which it falls: the block
that holds the stream's first such entry. -/
def trigIndex (trig : Option (Nat × Nat × Nat)) (all : List BlockX) (b : BlockX) : Nat :=
  match trig with
  | some (_, si, _) =>
    let i := (b.entries.takeWhile (fun e => decide (e.tt < si * 1000))).length
    let before := all.any (fun c => c.stream == b.stream && decide (c.block < b.block) &&
      c.entries.any (fun e => decide (si * 1000 ≤ e.tt)))
    if i < b.entries.length && !before then i else 0xFFFF
  | none => 0xFFFF

/-- A block (spec R430). -/
def blockBytes (x : AcqX) (all : List BlockX) (b : BlockX) : List Byte :=
  let s := x.streams.get b.stream {}
  let ti := trigIndex x.trig all b
  let flags := b2n (ti != 0xFFFF) + 2 * b2n b.invalid + 4 * b2n b.last
  let h := leBytes 1 0xB5 ++ leBytes 1 b.stream ++ leBytes 1 s.kind ++ leBytes 1 flags ++ leBytes 4 b.block ++
    leBytes 8 ((b.entries.head?.map EntryX.head).getD 0) ++ leBytes 2 b.entries.length ++ leBytes 2 ti ++
    leBytes 4 s.step ++ leBytes 4 0
  h ++ leBytes 4 (crc32 h) ++ (b.entries.map EntryX.bytes).flatten

/-- ST_CHANGED (spec R434): a change lies between the first entry of the record and end TT. -/
def stMoved (x : AcqX) (bs : List BlockX) : Bool :=
  match x.stChanged, (bs.map (fun b => b.entries.map EntryX.tt)).flatten with
  | some t, e :: es => decide (es.foldl min e ≤ t)
  | _, _ => false

/-- The record header (spec R429). -/
def Dev.recordHeader (d : Dev) (g endCode length : Nat) (moved : Bool) : List Byte :=
  let x := d.acq
  let t := x.trig.getD (0, 0, 0)
  let flags := b2n x.shortPre + 2 * b2n x.abortLate + 4 * b2n moved + 8 * b2n x.dataInvalid + 16 * b2n x.forced
  let h := ([0x54, 0x59, 0x41, 0x43] : List Byte) ++ leBytes 2 1 ++ leBytes 1 g ++ leBytes 1 endCode ++
    leBytes 4 (d.get Reg.IDENT.SERIAL) ++ leBytes 4 (d.get Reg.ACQ.RECORDS) ++ leBytes 8 x.armTt ++ leBytes 8 t.1 ++
    leBytes 8 t.2.1 ++ leBytes 2 t.2.2 ++ leBytes 1 flags ++ leBytes 1 0 ++ leBytes 4 x.hdrRate ++
    leBytes 8 x.hdrOffset ++ leBytes 8 x.hdrEpoch ++ leBytes 2 (x.streams.foldl (fun m e => setBit m e.1) 0) ++
    leBytes 2 0 ++ leBytes 4 (x.preTime / 10000) ++ leBytes 4 (x.postTime / 10000) ++ leBytes 4 length ++ leBytes 12 0
  h ++ leBytes 4 (crc32 h)

/-- The segment's record is written: the blocks that reach into the recorded span, oldest first; entries before `keep`
alone. END is `endCode` (spec R426–R430). -/
def Dev.recordWrite (d : Dev) (endCode keep : Nat) : Dev :=
  let g := d.get Reg.ACQ.SEGMENT
  let start : Int := match d.acq.trig with
    | some (tt, _, _) => (tt : Int) - d.acq.preTime
    | none => d.acq.armTt
  let cut : List BlockX := d.acq.closed.map (fun b => { b with entries := b.entries.filter (fun e => decide (e.tt < keep)) })
  let bs := cut.filter (fun b => b.entries.any (fun e => decide (start ≤ (e.tt : Int))))
  let d := { d with acq := { d.acq with dataInvalid := bs.any (fun b => b.invalid) } }
  let body := (bs.map (blockBytes d.acq bs)).flatten
  let len := 96 + body.length
  let a := Mem.acq + g * d.acq.segBytes
  let d := (d.memClear a d.acq.segBytes).memWrite a (d.recordHeader g endCode len (stMoved d.acq bs) ++ body)
  let d := d.set (Reg.SEG.LENGTH g) len
  { d with acq := { d.acq with streams := [], blocks := [], segOrder := d.acq.segOrder ++ [g] } }

/-- A converter has yet to give a word that is strobed before a TT. -/
def CvX.owes (x : CvX) (t : Nat) : Bool :=
  x.conv.any (fun c => decide (c.strobe < t)) || x.late.any (fun c => decide (c.strobe < t)) ||
    x.pend.any (fun s => decide (s.due < t)) || x.restart.any (fun s => decide (s.due < t))

/-- A stream has written every entry whose TT lies before `t` (spec R426): no converter of it owes a word, no boundary before `t` is
due, and every listed cell has its entries of the frames that began before `t`. -/
def Dev.strmComplete (d : Dev) (x : StreamX) (t : Nat) : Bool :=
  let f := d.frame
  let boundaries := !(f.run && decide (f.next < t) && decide (f.next ≤ d.tt))
  let sods (n : Nat) : Bool := x.slots.all (fun s => decide (n ≤ x.seen.get s 0))
  match x.kind with
  | 1 => !(if x.source < 12 then [x.source, x.source + 1] else [x.source]).any (fun k => (d.meas.cvs.get k {}).owes t)
  | 2 => boundaries
  | _ => boundaries && (!f.started || (if f.bn < t then decide (f.bn < d.acq.armTt) || sods (f.n + 1)
      else f.n == 0 || decide (t ≤ f.bnOld) || decide (f.bnOld < d.acq.armTt) || sods f.n))

/-- The record is complete (spec R426). With AUTO_REARM an ARM is attempted at once. -/
def Dev.recordDone (d : Dev) : Dev :=
  if d.acqState == acPOST && decide (d.acqEnd ≤ d.tt) && d.acq.streams.all (fun e => d.strmComplete e.2 d.acqEnd) then
    let d := d.count Reg.ACQ.RECORDS 32 1
    let d := d.recordWrite 1 (2 ^ 65)
    let d := ((d.set (Reg.SEG.STATE (d.get Reg.ACQ.SEGMENT)) 2).acqSet acDONE).rise Reg.ACQ.LEAVES 0 uACQ
    if d.on Reg.ACQ.AUTO_REARM then
      let e := d.acqArm
      if e.acqState == acFILLING then e.ret d.status else (e.rise Reg.ACQ.LEAVES 4 uACQ).ret d.status
    else d
  else d

/-- A write of 1 to ABORT (spec R426). -/
def Dev.acqAbort (d : Dev) : Dev :=
  let g := d.get Reg.ACQ.SEGMENT
  if d.acqState == acFILLING || d.acqState == acARMED then
    let d := { d with acq := { d.acq with streams := [], blocks := [] } }
    ((d.set (Reg.SEG.STATE g) 0).acqSet acABORTED).ret stOK
  else if d.acqState == acPOST then
    if d.tt < d.acqEnd then
      (((d.recordWrite 2 d.tt).set (Reg.SEG.STATE g) 3).acqSet acABORTED).ret stOK
    else (Dev.rise { d with acq := { d.acq with abortLate := true } } Reg.ACQ.LEAVES 1 uACQ).ret stOK
  else d.ret stSTATE

/-- A record in progress is abandoned (spec R426): event leaf ABANDONED and F253. -/
def Dev.acqAbandon (d : Dev) : Dev :=
  if d.acqBusy then
    let g := d.get Reg.ACQ.SEGMENT
    let d := ((d.recordWrite 3 (2 ^ 65)).set (Reg.SEG.STATE g) 3).acqSet acABORTED
    (d.rise Reg.ACQ.LEAVES 2 uACQ).raise 253 0
  else d

/-- A write of 1 to RELEASE of a segment (spec R425). -/
def Dev.segRelease (d : Dev) (g : Nat) : Dev :=
  match d.get (Reg.SEG.STATE g) with
  | 1 => d.ret stSTATE
  | 0 => d.ret stOK
  | _ =>
    let d := d.sets [(Reg.SEG.STATE g, 0), (Reg.SEG.LENGTH g, 0), (Reg.SEG.TRIG_TT g, 0)]
    Dev.ret { d with acq := { d.acq with segOrder := d.acq.segOrder.filter (fun x => x != g) } } stOK

/-! Ash (spec R436, R437). -/

/-- A write of 1 to ASH_ARM. -/
def Dev.ashArm (d : Dev) : Dev :=
  if d.ashRunning then d.ret stBUSY
  else
    let d := { d with acq := { d.acq with ashRows := 0, ashSi := 0, ashPost := none, ashTrig := none, ashNext := siOf d.tt + 1, ashLog := [] } }
    let d := d.sets [(Reg.ASH.ASH_STATE, 1), (Reg.ASH.WRAPPED, 0), (Reg.ASH.TRIG_ROW, 0xFFFF), (Reg.ASH.LAST_ROW_SI, 0)]
    (d.memClear Mem.ash Mem.ashSize).engineSync.ret stOK

/-- Rows held, at most 32,768. -/
def Dev.ashHeld (d : Dev) : Nat := min d.acq.ashRows 32768

/-- Row index, oldest row 0, of an SI, given the newest row's SI; none where the ring does not hold it. -/
def Dev.ashRowOf (d : Dev) (si : Nat) : Nat :=
  let div := max 1 (d.get Reg.ASH.DIV)
  let row := si / div * div
  if row ≤ d.acq.ashSi && (d.acq.ashSi - row) / div < d.ashHeld then d.ashHeld - 1 - (d.acq.ashSi - row) / div else 0xFFFF

/-- Ash stops (spec R437). -/
def Dev.ashHalt (d : Dev) : Dev :=
  let row := match d.acq.ashTrig with
    | some si => d.ashRowOf si
    | none => 0xFFFF
  let d := d.sets [(Reg.ASH.ASH_STATE, 2), (Reg.ASH.LAST_ROW_SI, d.acq.ashSi), (Reg.ASH.TRIG_ROW, row)]
  (d.rise Reg.ACQ.LEAVES 5 uACQ).engineSync

/-- A write of 1 to ASH_STOP. -/
def Dev.ashStop (d : Dev) : Dev := if d.ashRunning then d.ashHalt.ret stOK else d.ret stSTATE

/-- POST rows have followed the trigger. -/
def Dev.ashPostDone (d : Dev) : Dev :=
  if d.ashRunning && d.acq.ashPost == some 0 then d.ashHalt else d

/-- One row for an SI (spec R436): eight values of 32 bits. After a trigger the rows of later SIs are counted down. -/
def Dev.ashRow (d : Dev) (si : Nat) (vals : List Nat) : Dev :=
  let post := d.acq.ashPost
  if !d.ashRunning || post == some 0 || si % max 1 (d.get Reg.ASH.DIV) != 0 then d
  else
    let d := d.memWrite (Mem.ash + 32 * (d.acq.ashRows % 32768)) (vals.map (leBytes 4)).flatten
    let after := match d.acq.ashTrig with
      | some t => decide (t < si)
      | none => false
    let d : Dev := { d with acq := { d.acq with
      ashRows := d.acq.ashRows + 1, ashSi := si
      ashPost := if after then post.map (fun p => p - 1) else post } }
    if 32768 < d.acq.ashRows then d.set Reg.ASH.WRAPPED 1 else d

/-- Bytes of ROWS, oldest row first (spec R437): `n` bytes from an offset. -/
def Dev.ashBytes (d : Dev) (m : Memory) (off n : Nat) : List Byte :=
  let base := if 32768 < d.acq.ashRows then d.acq.ashRows % 32768 * 32 else 0
  (List.range n).map (fun i => m.read (Mem.ash + (base + off + i) % Mem.ashSize))

/-! Threshold units (spec R435). -/

def thrCrosses (mode : Nat) (level p w : Int) : Bool :=
  let up := decide (p < level) && decide (level ≤ w)
  let down := decide (level < p) && decide (w ≤ level)
  if mode == 0 then up else if mode == 1 then down else up || down

/-- A VALID word of a converter, or merged pair, passes the threshold units that watch it. -/
def Dev.thrWord (d : Dev) (src : Nat) (code : Int) (tt : Nat) : Dev :=
  let prev := d.acq.thrPrev.find src
  let d : Dev := { d with acq := { d.acq with thrPrev := d.acq.thrPrev.put src (ofSigned 16 code) } }
  match prev with
  | some p =>
    [0, 1, 2, 3].foldl (fun d u =>
      if d.get (Reg.THR.CV u) == src && thrCrosses (d.get (Reg.THR.MODE u)) (d.getI (Reg.THR.LEVEL u) 16) (toSigned 16 p) code then
        d.condition (4 + u) tt
      else d) d
  | none => d

end Sys2Proof.Machine
end

