-- ==== Sys2Proof/Machine/Ports.lean ====
section
/-!
DEFINITION. What waits on a port for a downlink slot, the dedicated BLOCK path, removals and joins of cells, and the
transitions of an arm (spec R23, R136, R139, R189, R254–R260, R287, R288).
-/
namespace Sys2Proof.Machine

/-- A link source that names a port or a cell (spec R160, R165, R209). -/
def Dev.raisePort (d : Dev) (src p : Nat) : Dev := (d.set Reg.LINK.LAST_FAULT_PORT p).raise src p
def Dev.raiseCell (d : Dev) (src s : Nat) : Dev := (d.set Reg.LSTAT.LAST_CELL s).raise src s

/-- An arm source records its arm (spec R272, R275). -/
def Dev.raiseLoop (d : Dev) (src a : Nat) : Dev := (d.set Reg.ARMG.LAST_ARM a).raiseArm src a a

/-! Queues. -/

/-- Unicast BYPASS, INSERT_POS or INSERT_NEG (spec R23). -/
def DlCmd.switching (c : DlCmd) : Bool := !c.group && (c.op == opBYPASS || c.op == opPOS || c.op == opNEG)

/-- Another command of R139 waits on a port. Between a BLOCK and the arm's next OPEN a unicast switching command is
withheld and dropped (spec R23). -/
def Dev.other (d : Dev) (p : Nat) (c : DlCmd) : Dev :=
  let x := d.port p
  if x.ban && c.switching then d else d.setPort p { x with otherQ := x.otherQ ++ [c] }

/-- A new unicast command to a cell as another command; its SEQ is given when it leaves. -/
def Dev.otherCell (d : Dev) (s op : Nat) : Dev := d.other (portOf s) { dest := addrOf s, op := op }

/-- A selection's command: its SEQ is given now, and it waits as a stack command. A full FIFO drops it and raises F020
(spec R22, R189). -/
def Dev.stackCell (d : Dev) (s op : Nat) : Dev :=
  let p := portOf s
  let x := d.port p
  if 8 ≤ x.stackQ.length then d.raise 20 0 else
  let seq := (d.get (Reg.CELL.SEQ s) + 1) % 16
  let c := d.cell s
  let d := d.set (Reg.CELL.SEQ s) seq
  let d := d.setCell s { c with recent := d.tt :: c.recent }
  d.setPort p { x with stackQ := x.stackQ ++ [{ dest := addrOf s, op := op, seq := some seq }] }

/-- BLOCK goes to the dedicated FIFO of an enabled port; the unicast switching commands and the repeats of R191
pending there are discarded, and none is sent until the arm next enters OPEN (spec R23, R24). -/
def Dev.blockPort (d : Dev) (p : Nat) : Dev :=
  let x := d.port p
  d.setPort p { x with
    blockWord := x.live, ban := true
    stackQ := x.stackQ.filter (fun c => !c.switching && !c.isRepeat)
    otherQ := x.otherQ.filter (fun c => !c.switching && !c.isRepeat) }

/-- The same on every port. -/
def Dev.blockPorts (d : Dev) (ps : List Nat) : Dev := ps.foldl Dev.blockPort d

/-- A group BLOCK sets every entry of an arm to BLK (spec R287). -/
def Dev.blkCells (d : Dev) (a : Nat) : Dev := (d.laneSlots a).foldl (fun d s => d.setCmd s swBLK false) d

/-! Station outputs and TX_DIS. -/

/-- The device state does not force TX_DIS (spec R136). -/
def Dev.txState (d : Dev) : Bool := d.dsIn [dsLINKS_UP, dsADMITTED, dsREADY, dsRUNNING, dsTAKEOVER]

/-- No condition of R136 forces TX_DIS of a port high. -/
def Dev.txFree (d : Dev) (p : Nat) (interlock : Bool) : Bool := (d.armOfPort p).isSome && d.txState && !interlock

/-- A broadcast that belongs to one frame of a confirmation run or of a profile change (spec R192, R203). -/
def DlCmd.framed (c : DlCmd) : Bool := c.group && (c.op == opBLOCK || c.op == opPREPARE || c.op == opCOMMIT || c.op == opABORT)

/-- TX_DIS of every port follows its forcing conditions at once; since when none forces it is kept for the release at a
boundary (spec R136). A port whose BLOCK has yet to leave is forced after it (spec R97). Broadcasts of the frame that runs do not
outlast the forcing. -/
def Dev.gate (d : Dev) (interlock : Bool) : Dev :=
  (List.range 24).foldl (fun d p =>
    let x := d.port p
    if d.txFree p interlock then
      if x.freeSince.isSome then d else d.setPort p { x with freeSince := some d.tt, closing := false }
    else if x.live && x.blockWord && !interlock && d.ds == dsSAFE then
      d.setPort p { x with freeSince := none, closing := true }
    else if x.live || x.freeSince.isSome then
      d.setPort p { x with live := false, fresh := false, freeSince := none, closing := false, blockWord := false
                           otherQ := x.otherQ.filter (fun c => !c.framed) }
    else d) d

/-! Removal and join of cells (spec R287, R288). -/

/-- The commanded state is INS_POS or INS_NEG. -/
def Dev.inserted (d : Dev) (s : Nat) : Bool := d.cmdState s == swPOS || d.cmdState s == swNEG

/-- A removal of the cell waits for its arm's next sample. -/
def Dev.leaving (d : Dev) (s : Nat) : Bool :=
  match d.armOfSlot s with
  | some a => (d.lane a).removals.any (fun r => r.slot == s)
  | none => false

/-- A counted cell is to be removed: its commanded state and the arm's count change at the first arm sample after now. A cell
that its arm does not count (UNCONFIRMED, or between two lanes) takes its state at once. -/
def Dev.uncount (d : Dev) (s st : Nat) (unicast : Bool) : Dev :=
  match d.armOfSlot s with
  | some a =>
    if d.flag s flUNCONFIRMED then d.setCmd s st unicast
    else d.setLane a { d.lane a with removals := (d.lane a).removals ++ [{ slot := s, state := st, tt := d.tt, unicast := unicast }] }
  | none => d.setCmd s st unicast

/-- A removal that waits for its sample ends in another state, without a command of its own. -/
def Dev.removeAs (d : Dev) (s st : Nat) : Dev :=
  match d.armOfSlot s with
  | some a => d.setLane a { d.lane a with
      removals := (d.lane a).removals.map (fun r => if r.slot == s then { r with state := st, unicast := false } else r) }
  | none => d

/-- Removal with a unicast command that leaves as another command. Nothing happens to a cell that is not inserted, nor to one
whose removal waits, and none is made with a command that R23 withholds. -/
def Dev.removeBy (d : Dev) (s st op : Nat) : Dev :=
  if !d.inserted s || d.leaving s || ((d.port (portOf s)).ban && op != opBLOCK) then d else (d.uncount s st true).otherCell s op

/-- The removals that an arm's sample takes: event leaf REMOVED and REMOVALS for each cell that still counts. -/
def Dev.takeRemovals (d : Dev) (a si : Nat) : Dev :=
  let l := d.lane a
  let due (r : Removal) : Bool := decide (r.tt < d.strobe a si)
  let d0 := d.setLane a { l with removals := l.removals.filter (fun r => !due r) }
  if (l.removals.filter due).isEmpty then d
  else (l.removals.filter due).foldl (fun d r =>
    if d.inserted r.slot then
      ((d.setCmd r.slot r.state r.unicast).rise (Reg.LANE.LEAVES a) 1 uSTACK).count (Reg.LANE.REMOVALS a) 32 1
    else d) d0

/-- BYPASS unless the commanded state is BYP or BLK (spec R202, R203). -/
def Dev.bypassCell (d : Dev) (s : Nat) : Dev := d.removeBy s swBYP opBYPASS

/-- The join BYPASS of a cell in BLK whose arm is OPEN or CLOSED (spec R287). -/
def Dev.join (d : Dev) (s : Nat) : Dev :=
  match d.armOfSlot s with
  | some a =>
    let st := d.get (Reg.ARM.STATE a)
    if d.cmdState s == swBLK && (st == asOPEN || st == asCLOSED) && !(d.port (portOf s)).ban then
      (d.otherCell s opBYPASS).setCmd s swBYP true
    else d
  | none => d

/-! Arm transitions (spec R255). -/

abbrev caNONE : Nat := 0x00
abbrev caSOFTWARE : Nat := 0x01
abbrev caDEVICE : Nat := 0x02
abbrev caDEBLOCK_DONE : Nat := 0x03
abbrev caFREEZE : Nat := 0x04
abbrev caINVALID : Nat := 0x05
abbrev caLEGSUM : Nat := 0x06
abbrev caRECOVERED : Nat := 0x07
abbrev caWATCHDOG : Nat := 0x08
abbrev caDAMPER : Nat := 0x09
abbrev caTAKEOVER : Nat := 0x0A
abbrev caTAKEOVER_DONE : Nat := 0x0B

def Dev.armState (d : Dev) (a : Nat) : Nat := d.get (Reg.ARM.STATE a)
def Dev.armCause (d : Dev) (a : Nat) : Nat := d.get (Reg.ARM.CAUSE a)
def Dev.armMapped (d : Dev) (a : Nat) : Bool := !(d.portsOf a).isEmpty

/-- OPEN with a feedback-loss cause (spec R268). -/
def Dev.fbLoss (d : Dev) (a : Nat) : Bool :=
  let c := d.armCause a
  d.armState a == asOPEN && (c == caFREEZE || c == caINVALID || c == caLEGSUM)

/-- Live leaf FB_LOSS follows. -/
def Dev.fbLeaf (d : Dev) (a : Nat) : Dev := d.leaf (Reg.ARM.LEAVES a) 0 uARM (d.fbLoss a)

/-- A transition of a rank of R257, 1 highest, takes effect at the sample `si`. -/
def Dev.ranked (d : Dev) (a si rank : Nat) : Dev :=
  let x := d.arm a
  d.setArm a { x with transSi := si, transRank := rank, tapFlags := setBit x.tapFlags 7 }

/-- A transition is asked of an arm; it takes effect at the processing of its first sample that qualifies (spec R255,
R256, R270). -/
def Dev.ask (d : Dev) (a : Nat) (k : ArmAsk) : Dev :=
  let x := d.arm a
  d.setArm a { x with asks := x.asks ++ [k] }

/-- An arm that leaves BLOCKED or HOLD for another state than BLOCKED while the spare lane loads for it abandons the
spare-in (spec R300). -/
def Dev.spareAbandon (d : Dev) (a new : Nat) : Dev :=
  let old := d.armState a
  if d.get Reg.SPARE.SPARE_STATE == 1 && d.spare.arm == a + 1 && (old == asBLOCKED || old == asHOLD) &&
      old != new && new != asBLOCKED then
    { (d.sets [(Reg.SPARE.SPARE_STATE, 0), (Reg.SPARE.LAST_RESULT, 3)]) with spare := { d.spare with arm := 0 } }
  else d

/-- State and cause of an arm. -/
def Dev.armSet (d : Dev) (a st cause : Nat) : Dev :=
  (((d.spareAbandon a st).set (Reg.ARM.STATE a) st).set (Reg.ARM.CAUSE a) cause).fbLeaf a

/-- To BLOCKED at a sample: the entries of the arm in BLK, its requests discarded (spec R255, R287). -/
def Dev.armBlock (d : Dev) (a si cause : Nat) : Dev :=
  if d.armState a == asBLOCKED then d else
  let d := (d.blkCells a).armSet a asBLOCKED cause
  let x := d.arm a
  (d.setArm a { x with req := none, burst := 0, burstDone := false, closeFrame := none, recover := none }).ranked a si 1

/-- Every arm that is not BLOCKED, or that an access is about to deblock, is asked to BLOCKED; a deblock of the device that waits for
its sample is dropped (spec R97, R270). -/
def Dev.blockArms (d : Dev) (cause : Nat) : Dev :=
  (List.range 6).foldl (fun d a =>
    let x := d.arm a
    let asks := x.asks.filter (fun k => k.act != .deblock || k.access)
    let d := d.setArm a { x with asks := asks }
    if d.armState a == asBLOCKED && !asks.any (fun k => k.act == .deblock) then d else d.ask a { act := .block, cause := cause, from_ := d.tt }) d

/-- To HOLD at a sample (spec R255). -/
def Dev.armHold (d : Dev) (a si cause : Nat) : Dev :=
  if d.armState a == asOPEN || d.armState a == asCLOSED then
    let d := d.armSet a asHOLD cause
    let x := d.arm a
    (d.setArm a { x with req := none, burst := 0, burstDone := false, closeFrame := none, recover := none }).ranked a si 2
  else d

/-- The watchdog starts: time and strobe of the entry into OPEN (spec R259). -/
def Dev.watchdog (d : Dev) (a si : Nat) : Dev :=
  let t := d.strobe a si
  let x := d.arm a
  (d.setArm a { x with openSince := t }).set (Reg.ARM.OPEN_TT a) t

/-- Unicast switching commands may leave again on the ports of an arm that enters OPEN: not where it does so at a sample before the
one at which its state follows a BLOCK that has been sent (spec R23). -/
def Dev.unban (d : Dev) (a : Nat) : Dev :=
  if (d.arm a).asks.any (fun k => k.act == .block) then d
  else (d.portsOf a).foldl (fun d p => d.setPort p { d.port p with ban := false }) d

/-- The frame values that govern a sample. -/
def ArmX.frameOf (x : ArmX) (si : Nat) : RefX := if x.cur.si0 ≤ si then x.cur else x.old

/-- Leaving BLOCKED at a sample: r_prev := r_new for the rest of its frame, and the current sign is that of ref(0) (spec R245,
R252). -/
def Dev.leaveBlocked (d : Dev) (a si : Nat) : Dev :=
  let x := d.arm a
  let pos := !(F32.lt (x.frameOf si).rNew F32.zero)
  d.setArm a (if x.cur.si0 ≤ si then { x with cur := { x.cur with rPrev := x.cur.rNew }, pos := pos }
    else { x with old := { x.old with rPrev := x.old.rNew }, pos := pos })

/-- BLOCKED to OPEN with a deblock burst: n_fb and n_cmd are 0, and every ACTIVE cell of the arm counts as BLK (spec R255, R258). -/
def Dev.armDeblock (d : Dev) (a si cause : Nat) : Dev :=
  let d := ((d.unban a).leaveBlocked a si).armSet a asOPEN cause
  let d := ((d.laneSlots a).filter (fun s => d.cellState s == csACTIVE)).foldl (fun d s => d.setCmd s swBLK false) d
  let x := d.arm a
  let x := { x with nFb := 0, nCmd := 0, burst := 1, burstDone := false, closeFrame := none, req := none }
  ((d.setArm a x).watchdog a si).ranked a si 4

/-- HOLD or CLOSED to OPEN on software's command; from HOLD every ACTIVE entry still in BLK is bypassed (spec R255,
R287). -/
def Dev.armOpen (d : Dev) (a si : Nat) : Dev :=
  let hold := d.armState a == asHOLD
  let d := (d.unban a).armSet a asOPEN caSOFTWARE
  let d := (d.watchdog a si).ranked a si 4
  let x := d.arm a
  let d := d.setArm a { x with burstDone := false, closeFrame := none, recover := none }
  if hold then ((d.laneSlots a).filter (fun s => d.cellState s == csACTIVE)).foldl Dev.join d else d

/-- To CLOSED: the feedback history is cleared, and the watchdog of OPEN has no more to ask (spec R255, R259). -/
def Dev.armClose (d : Dev) (a si cause rank : Nat) : Dev :=
  let d := (d.armSet a asCLOSED cause).ranked a si rank
  let x := d.arm a
  d.setArm a { x with asks := x.asks.filter (fun k => k.cause != caWATCHDOG), lastDir := 0, burstDone := false, closeFrame := none, recover := none }

/-- To OPEN for feedback loss; the watchdog starts if the arm was CLOSED (spec R255). -/
def Dev.armLoss (d : Dev) (a si cause : Nat) : Dev :=
  let closed := d.armState a == asCLOSED
  let d := if closed then d.unban a else d
  let d := d.armSet a asOPEN cause
  let d := if closed then d.watchdog a si else d
  let x := d.arm a
  (d.setArm a { x with recover := none, burstDone := false, closeFrame := none }).ranked a si 3

/-- A transition of rank `r` or higher has taken effect at the sample `si` (spec R257). -/
def Dev.transAt (d : Dev) (a si r : Nat) : Bool :=
  let x := d.arm a
  x.transSi == si && decide (0 < x.transRank) && decide (x.transRank ≤ r)

/-- A coefficient of an arm (spec R261). -/
def isCoef (a k : Nat) : Bool := decide ((0x2600 + a) * 256 + 0x06 ≤ k) && decide (k ≤ (0x2600 + a) * 256 + 0x13)

/-- A coefficient of an arm waits for a strobe. -/
def Dev.coefWaits (d : Dev) (a : Nat) : Bool := d.shadow.any (fun e => isCoef a e.1)

/-- A coefficient of an arm is pending at a sample: it waits for a strobe, or for the apply index of one (spec R50, R263). -/
def Dev.coefPending (d : Dev) (a si : Nat) : Bool :=
  d.coefWaits a || d.hist.any (fun o => isCoef a o.key && decide (si < o.k))

end Sys2Proof.Machine
end

