-- ==== Sys2Proof/Machine/LegSum.lean ====
section
/-!
DEFINITION. The leg-sum check over the six arm currents (spec R266, R268). It takes the words as they come, so that a trip
acts on the sample that brought it about wherever an arm has not processed that sample yet.
-/
namespace Sys2Proof.Machine

/-- Arm current of a code (spec R244, R266, R280). -/
def Dev.armAmps (d : Dev) (a si : Nat) (code : Int) : F32 :=
  F32.add (F32.mul (d.getAtF si (Reg.CV.SCALE (2 * a))) (F32.ofInt code)) (d.getAtF si (Reg.CV.BIAS (2 * a)))

/-- The arm runs its loop with commands: CLOSED or OPEN. -/
def Dev.armRuns (d : Dev) (a : Nat) : Bool := d.armState a == asOPEN || d.armState a == asCLOSED

/-- The leg-sum check is idle at a sample (spec R266). -/
def Dev.legsumIdleAt (d : Dev) (si : Nat) : Bool :=
  let up := ((List.range 6).filter (fun a => d.getAt si (Reg.ARM.POL a) == 0)).length
  d.getAt si Reg.ARMG.LEGSUM_EN == 0 || (List.range 6).any (fun a => d.armState a == asBLOCKED) || up != 3

/-- The check is idle with the settings in force. -/
def Dev.legsumIdle (d : Dev) : Bool := d.legsumIdleAt (siOf d.tt)

def Dev.legsumLeaf (d : Dev) : Dev := d.leaf Reg.ARMG.LEAVES 1 uARM d.legsumIdle

/-- The recovery time of arms with cause LEGSUM: it runs on the leg-sum samples (spec R268). -/
def Dev.legsumRecover (d : Dev) (ok : Bool) : Dev :=
  (List.range 6).foldl (fun d a =>
    if d.armState a == asOPEN && d.armCause a == caLEGSUM then
      let x := d.arm a
      d.setArm a { x with criterion := ok, recover := if ok then some (match x.recover with
        | some k => k + 1
        | none => 0) else none }
    else d) d

/-- Every arm that is not BLOCKED, HOLD or already so caused goes to OPEN at the next sample that it processes (spec R255,
R266). -/
def Dev.legsumTrip (d : Dev) (diff : F32) : Dev :=
  let d := ((d.rise Reg.ARMG.LEAVES 0 uARM).count Reg.ARMG.LEGSUM_TRIPS 32 1).setF Reg.ARMG.LEGSUM_DIFF diff
  let d := (List.range 6).foldl (fun d a =>
    if d.armRuns a && !(d.armState a == asOPEN && d.armCause a == caLEGSUM) then
      d.ask a { act := .loss, cause := caLEGSUM, from_ := 0 }
    else d) d
  d.raise 118 0

/-- A complete sample of the leg-sum check: six words. Idle, or without six VALID words, it takes none, so that a run goes on
(spec R266). -/
def Dev.legsumTake (d : Dev) (si : Nat) (ws : List (Nat × Bool × F32)) : Dev :=
  if d.legsumIdleAt si then d
  else if ws.any (fun w => !w.2.1) then d.legsumRecover true
  else
    let part (pol : Nat) : F32 := (List.range 6).foldl (fun s a =>
      if d.getAt si (Reg.ARM.POL a) == pol then
        match ws.find? (fun w => w.1 == a) with
        | some w => F32.add s w.2.2
        | none => s
      else s) F32.zero
    let diff := F32.sub (part 0) (part 1)
    let exceeds := !F32.le (F32.abs diff) (d.getAtF si Reg.ARMG.LEGSUM_LIMIT)
    let run := if exceeds then d.legSum.run + 1 else 0
    let trip := exceeds && !d.legSum.tripped && decide (d.getAt si Reg.ARMG.LEGSUM_TIME ≤ run)
    let d : Dev := { d with legSum := { d.legSum with
      run := min run 1000, tripped := exceeds && (d.legSum.tripped || trip) } }
    let d := d.legsumRecover (!exceeds)
    if trip then d.legsumTrip diff else d

/-- A word joins the leg-sum check. -/
def Dev.legsumWord (d : Dev) (a : Nat) (w : WordX) : Dev :=
  let ls := d.legSum
  let old := (ls.rows.find? (fun r => r.1 == w.si)).elim [] Prod.snd
  let ws := old.filter (fun e => e.1 != a) ++ [(a, w.valid, d.armAmps a w.si w.data)]
  let rest := ls.rows.filter (fun r => r.1 != w.si && decide (w.si < r.1 + 64))
  if ws.length == 6 then Dev.legsumTake { d with legSum := { ls with rows := rest } } w.si ws
  else { d with legSum := { ls with rows := rest ++ [(w.si, ws)] } }

end Sys2Proof.Machine
end

