-- ==== Sys2Proof/Machine/Meas.lean ====
section
/-!
DEFINITION. Converters and protection comparators (spec R211–R233).
-/
namespace Sys2Proof.Machine

def Dev.cv (d : Dev) (k : Nat) : CvX := d.meas.cvs.get k {}
def Dev.setCv (d : Dev) (k : Nat) (x : CvX) : Dev := { d with meas := { d.meas with cvs := d.meas.cvs.put k x } }

/-- Members of a pair are CV0–CV11 (spec R212). -/
def isPair (k : Nat) : Bool := decide (k < 12)
/-- The channel of a converter: the even member of its pair, or itself. -/
def chanOf (k : Nat) : Nat := if k < 12 then k / 2 * 2 else k
def otherOf (k : Nat) : Nat := if k % 2 == 0 then k + 1 else k - 1

def Dev.calibrating (d : Dev) (k : Nat) : Bool := d.get (Reg.CV.CAL_STATE k) == 1

/-! Starts (spec R214–R217). -/

/-- A start that finds another pending is dropped (spec R216). -/
def Dev.startDropped (d : Dev) : Dev :=
  ((d.count Reg.MEAS.OVERRUNS 32 1).rise Reg.MEAS.LEAVES 1 uMEAS).raise 96 0

/-- A calibration that waited for the conversion in progress begins once that has ended (spec R223). What CAL_STATE read before is
kept for an ABORT (spec R386). -/
def Dev.calBegin (d : Dev) (k at_ : Nat) : Dev :=
  let x := d.cv k
  if x.calWait && decide (x.calFrom ≤ at_) then
    (d.setCv k { x with calWait := false, calPrev := d.get (Reg.CV.CAL_STATE k) }).set (Reg.CV.CAL_STATE k) 1
  else d

/-- A conversion begins: it occupies its converter until `fin`, for 200 ns; a pair's for 200 ns from where its slot's strobe was
due, so that one that waited delays no other (spec R216). The word of the one before may still be on its way, since correction and
a long filter take longer than the occupancy (spec R211, R221). -/
def Dev.convBegin (d : Dev) (k : Nat) (c : ConvX) (fin : Nat := c.strobe + 2000) : Dev :=
  let d := d.calBegin k c.strobe
  let x := d.cv k
  let late := match x.conv with
    | some b => if isPair k || decide (b.strobe + 2000 ≤ c.strobe) then some b else x.late
    | none => x.late
  d.setCv k { x with conv := some { c with cal := d.calibrating k }, late := late, busyUntil := fin
                     urgentUntil := if c.urgent then fin else x.urgentUntil }

/-- The result word (spec R218). -/
def resultWord (valid : Bool) (leg reason si : Nat) (code : Int) : Nat :=
  2 ^ 31 * b2n valid + 2 ^ 30 * leg + 2 ^ 28 * reason + 2 ^ 16 * (si % 4096) + (if valid then ofSigned 16 code else 0)

/-- SCALE × DATA + BIAS of a converter (spec R229). -/
def Dev.scaled (d : Dev) (k si : Nat) (code : Int) : F32 :=
  F32.add (F32.mul (d.getAtF si (Reg.CV.SCALE k)) (F32.ofInt code)) (d.getAtF si (Reg.CV.BIAS k))

/-- Live leaf FF_INVALID of an arm follows its two voltages; F123 with its rise (spec R269). -/
def Dev.ffLeaf (d : Dev) (a : Nat) : Dev :=
  let bad := (d.arm a).ffPole || (d.arm a).ffAc
  if bad && !d.bit (Reg.ARM.LEAVES a) 9 then (d.rise (Reg.ARM.LEAVES a) 9 uARM).raiseLoop 123 a
  else d.leaf (Reg.ARM.LEAVES a) 9 uARM bad

/-- A word of a converter for the arms that name it as a feed-forward voltage (spec R269). -/
def Dev.ffWord (d : Dev) (k : Nat) (valid : Bool) : Dev :=
  let n := if valid then 0 else min 255 ((d.cv k).badRun + 1)
  let d := d.setCv k { d.cv k with badRun := n }
  (List.range 6).foldl (fun d a =>
    let pole := d.get (Reg.ARM.V_POLE_CV a) == k
    let ac := d.get (Reg.ARM.V_AC_CV a) == k
    let bad (old : Bool) : Bool := !valid && (old || decide (d.get (Reg.ARM.FF_INVALID_MAX a) ≤ n))
    let x := d.arm a
    if pole || ac then
      (d.setArm a { x with ffPole := if pole then bad x.ffPole else x.ffPole
                           ffAc := if ac then bad x.ffAc else x.ffAc }).ffLeaf a
    else d) d

/-- An arm names another converter, or none, for a voltage: what that one has given so far counts (spec R244, R269). -/
def Dev.ffNamed (d : Dev) (a : Nat) (pole ac : Bool) : Dev :=
  let bad (k : Nat) : Bool := k != 0xFF && decide (d.get (Reg.ARM.FF_INVALID_MAX a) ≤ (d.cv k).badRun)
  let x := d.arm a
  if pole || ac then
    (d.setArm a { x with ffPole := if pole then bad (d.get (Reg.ARM.V_POLE_CV a)) else x.ffPole
                         ffAc := if ac then bad (d.get (Reg.ARM.V_AC_CV a)) else x.ffAc }).ffLeaf a
  else d

/-- A word leaves a converter for every consumer (spec R218, R219): its registers, the event counters, and as the word
of its channel the arm loop, acquisition, the threshold units and the feed-forward terms. -/
def Dev.emit (d : Dev) (k : Nat) (valid : Bool) (reason : Nat) (code : Int) (si strobe : Nat) : Dev :=
  let leg := if isPair k then k % 2 else 0
  let w := resultWord valid leg reason si code
  let v := d.scaled k si code
  let d := ((d.sets [(Reg.CV.RESULT k, w), (Reg.CV.RESULT_TT k, strobe)]).count (Reg.CV.CONVERSIONS k) 64 1).ashNote k si w
  let d := if valid then d.setF (Reg.CV.VALUE k) v else d
  let d := d.event (0x180 + k)
  let x := d.cv k
  let calOf (j : Nat) : Bool := (d.cv j).reduced || d.calibrating j
  let alone := if calOf (otherOf k) then some (k % 2) else if !valid && calOf k then some (1 - k % 2) else none
  let atB := decide (strobe ≤ d.frame.bn)
  let d := if valid then d.setCv k { x with lastValid := some strobe, reduced := false
                                            bVal := if atB then v else x.bVal, bAt := if atB then some strobe else x.bAt } else d
  let d := if isPair k then
      let a := k / 2
      let y := d.arm a
      let y := if !valid then y
        else if d.frame.bn ≤ strobe then { y with meanSum := y.meanSum + code, meanN := y.meanN + 1 }
        else if d.frame.bnOld ≤ strobe then { y with oldSum := y.oldSum + code, oldN := y.oldN + 1 } else y
      let d := d.setArm a y
      let wx : WordX := { si := si, valid := valid, data := if valid then code else 0, leg := leg, reason := reason
                          reduced := valid && reason == 1, alone := alone }
      let d := if d.sampling then (d.setArm a { y with words := y.words ++ [wx] }).legsumWord a wx else d
      if valid then d else d.event (0x172 + a)
    else d.ffWord k valid
  let d := d.acqWord (chanOf k) w strobe si
  if valid then d.thrWord (chanOf k) code strobe else d

/-- The words of a converter that stands in for one that calibrates reach that one's consumers too, marked REDUCED (spec R224). -/
def Dev.standInWords (d : Dev) (k : Nat) (valid : Bool) (reason : Nat) (code : Int) (si strobe : Nat) : Dev :=
  [12, 13, 14, 15, 16, 17].foldl (fun d j =>
    if d.calibrating j && (d.cv j).standIn == some k then d.emit j valid (if valid then 1 else reason) code si strobe else d) d

/-- A word that is not VALID: while VREF is out of range its reason is FAULT, whatever else holds (spec R219, R228). -/
def Dev.badReason (d : Dev) (reason : Nat) : Nat := if d.meas.vrefBad then 3 else reason

/-- The aborted slot gives its word (spec R217, step 4). -/
def Dev.abortedWord (d : Dev) (k : Nat) (r : StartX) : Dev :=
  let d := d.setCv k { d.cv k with restart := none }
  let why := d.badReason 2
  (d.emit k false why 0 r.si r.due).standInWords k false why 0 r.si r.due

/-- A regular start whose strobe is due at `t` for the slot of `si`: it begins, waits, or, at a single converter, is dropped (spec
R215, R216). Where it falls due while a conversion waits to restart, that one's slot is lost (spec R217). -/
def Dev.startDue (d : Dev) (k si t : Nat) : Dev :=
  let x := d.cv k
  if t < x.busyUntil then
    let d := match x.restart with
      | some r => d.abortedWord k r
      | none => d
    let x := d.cv k
    if x.pend.isSome && !isPair k then d.startDropped else d.setCv k { x with pend := some { due := t, si := si } }
  else if x.pend.isSome && !isPair k then d.startDropped
  else d.convBegin k { strobe := t, si := si }

/-- A start event at TT `ev` for a single converter (spec R215, R216): its strobe lies DELAY later. -/
def Dev.startEvent (d : Dev) (k ev : Nat) : Dev :=
  let due := ev + 16 * d.get (Reg.CV.DELAY k)
  let x := d.cv k
  if !d.live then d
  else if due ≤ d.tt then d.startDue k (siOf due) due
  else if x.pend.isSome then d.startDropped
  else d.setCv k { x with pend := some { due := due, si := siOf due } }

/-- The first 10 ns ADC clock edge at or after a TT. -/
def ceilEdge (t : Nat) : Nat := (t + 99) / 100 * 100

/-- An urgent request (spec R217): at the next 10 ns edge it aborts the conversion in progress. One that comes in an urgent
occupancy waits, and so does one that comes in a regular occupancy whose word is out (log 89). -/
def Dev.urgent (d : Dev) (k : Nat) : Dev :=
  let x := d.cv k
  let u := ceilEdge d.tt
  if !d.live then d
  else if d.calibrating k then d.startDropped
  else if d.tt < x.urgentUntil then
    (if x.urgentWait then d.startDropped else d.setCv k { x with urgentWait := true })
  else if u < x.busyUntil then
    match x.conv with
    | some c => (d.setCv k { x with restart := some { due := c.strobe, si := c.si } }).convBegin k { strobe := u, si := siOf u, urgent := true }
    | none => if x.urgentWait then d.startDropped else d.setCv k { x with urgentWait := true }
  else d.convBegin k { strobe := u, si := siOf u, urgent := true }

/-- Event `code` of R214 at TT `ev`: the single converters that start or convert urgently on it. -/
def Dev.startSource (d : Dev) (code ev : Nat) : Dev :=
  [12, 13, 14, 15, 16, 17].foldl (fun d k =>
    let d := if d.get (Reg.CV.START_SRC k) == code then d.startEvent k ev else d
    if d.get (Reg.CV.URGENT_SRC k) == code then d.urgent k else d) d

/-- The sample index of the converter's strobe at TT `t` if its grid has one there (spec R212, R215): a pair's sample keeps
its SI whatever its DELAY, a single converter's tag is that of its strobe. -/
def Dev.gridSlot (d : Dev) (k t : Nat) : Option Nat :=
  if isPair k then
    let si := siOf t
    if t == d.strobe (k / 2) si && si % 2 == k % 2 then some si else none
  else
    let off := 16 * d.get (Reg.CV.DELAY k)
    let si := (t - off) / 1000
    if d.get (Reg.CV.START_SRC k) == 0 && decide (off ≤ t) && (t - off) % 1000 == 0 &&
        si % (2 * d.get (Reg.CV.GRID_DIV k)) == d.get (Reg.CV.PHASE k) then some (siOf t) else none

/-- A delayed start that falls due in an occupancy takes the place of a conversion that waits to restart (spec R217, step 4). -/
def Dev.restartLost (d : Dev) (k : Nat) : Dev :=
  let x := d.cv k
  match x.restart, x.pend with
  | some r, some s => if s.due ≤ d.tt && s.due < x.busyUntil then d.abortedWord k r else d
  | _, _ => d

/-- What begins when a converter's occupancy is over: a waiting urgent request, the restart of an aborted conversion, a
pending start that is due; each as soon as the occupancy ends (spec R216, R217). -/
def Dev.convNext (d : Dev) (k : Nat) : Dev :=
  let d := d.restartLost k
  let x := d.cv k
  let u := ceilEdge x.busyUntil
  if d.tt < x.busyUntil then d
  else if x.urgentWait then
    Dev.convBegin (d.setCv k { x with urgentWait := false }) k { strobe := u, si := siOf u, urgent := true }
  else match x.restart with
  | some r => Dev.convBegin (d.setCv k { x with restart := none }) k { strobe := x.busyUntil, si := r.si, delayed := true }
  | none =>
    match x.pend with
    | some s =>
      let t := max s.due x.busyUntil
      if t ≤ d.tt then
        Dev.convBegin (d.setCv k { x with pend := none }) k
          { strobe := t, si := if isPair k then s.si else siOf t, delayed := decide (s.due < t) } ((if isPair k then s.due else t) + 2000)
      else d
    | none => d

/-- A strobe of a converter (spec R215, R216): what waits first, then the slot of the grid. Arm sampling, hence the pairs' grid, runs
from LINKS_UP; the single converters convert from CONFIGURED on (spec R101, log 104). -/
def Dev.convStart (d : Dev) (k : Nat) : Dev :=
  if !d.live then d else
  let d := d.convNext k
  if isPair k && !d.sampling then d
  else match d.gridSlot k d.tt with
  | some si => d.startDue k si d.tt
  | none => d

/-! The result (spec R213, R218–R221, R225, R227). -/

/-- Filter lengths (spec R221). -/
def filterLen (f : Nat) : Nat := 2 ^ min f 5

/-- Moving average, rounded to the nearest code, ties towards +full scale. -/
def average (l : List Int) (n : Nat) : Int :=
  let t := l.take n
  if t.isEmpty then 0 else divRound (t.foldl (fun a b => a + b) 0) t.length

/-- Whether a word of a channel is SETTLING, and whether its raw sample counts for the filter (spec R220, R221). -/
def CvX.settling (x : CvX) (pair : Bool) (si strobe : Nat) : Bool × Bool :=
  if pair then
    (x.settle.any (fun r => decide (r.1 ≤ si) && decide (si < r.1 + r.2.2)),
     !x.settle.any (fun r => decide (r.1 ≤ si) && decide (si < r.1 + r.2.1)))
  else
    (x.settle.any (fun r => decide (r.1 ≤ strobe) && decide (0 < r.2.2)), !x.settle.any (fun r => decide (r.1 ≤ strobe) && decide (0 < r.2.1)))

/-- One word of the channel is behind. -/
def CvX.settleStep (x : CvX) (pair : Bool) (si strobe : Nat) : CvX :=
  if pair then { x with settle := x.settle.filter (fun r => decide (si < r.1 + r.2.2 + 4)) }
  else
    { x with settle := (x.settle.map (fun r => if r.1 ≤ strobe then (r.1, r.2.1 - 1, r.2.2 - 1) else r)).filter (fun r => decide (0 < r.2.2)) }

/-- The filter of a channel takes a raw sample. -/
def CvX.filterIn (x : CvX) (pair : Bool) (si strobe : Nat) (raw : Option Int) : CvX :=
  let due (k : Nat) : Bool := decide (k ≤ if pair then si else strobe)
  let x := if x.emptyAt.any due then { x with raws := [], emptyAt := x.emptyAt.filter (fun k => !due k) } else x
  match raw with
  | some r => { x with raws := (r :: x.raws).take 32 }
  | none => x

/-- The FILTER that governs a strobe of a single converter: that before the earliest change after it, else the one in force. -/
def CvX.filterAt (x : CvX) (strobe now : Nat) : Nat :=
  match (x.filters.filter (fun r => decide (strobe < r.1))).getLast? with
  | some r => r.2
  | none => now

/-- A converter's live OVERRANGE bit; for a member of a pair the live leaf OVERRANGE, and F092 at the bit's rising edge
(spec R213, log 36). -/
def Dev.overrange (d : Dev) (k : Nat) (now : Bool) : Dev :=
  let x := d.cv k
  let d := d.setCv k { x with exceeds := now }
  if !isPair k then d
  else
    let any := (List.range 12).any (fun j => (d.cv j).exceeds)
    let d := d.leaf Reg.MEAS.LEAVES 4 uMEAS any
    if now && !x.exceeds then d.raise 92 0 else d

/-- Live leaf LEG_MISMATCH over the pairs. -/
def Dev.legLeaf (d : Dev) : Dev := d.leaf Reg.MEAS.LEAVES 5 uMEAS ([0, 2, 4, 6, 8, 10].any (fun j => (d.cv j).legBad))

/-- The leg check of a pair (spec R227) with the sample `si`: 1,024 samples of each member, their VALID codes averaged. The limit is
that of the sample which ends the window (spec R50). -/
def Dev.legCheck (d : Dev) (k si : Nat) (code : Option Int) : Dev :=
  if !isPair k || d.armState (k / 2) == asBLOCKED then d else
  let c := chanOf k
  let x := d.cv c
  let v := code.getD 0
  let n := b2n code.isSome
  let x := if k % 2 == 0 then
      (if x.legCnt0 < 1024 then { x with legSum0 := x.legSum0 + v, legN0 := x.legN0 + n, legCnt0 := x.legCnt0 + 1 } else x)
    else (if x.legCnt1 < 1024 then { x with legSum1 := x.legSum1 + v, legN1 := x.legN1 + n, legCnt1 := x.legCnt1 + 1 } else x)
  if x.legCnt0 < 1024 || x.legCnt1 < 1024 then d.setCv c x
  else
    let diff := x.legSum0 * x.legN1 - x.legSum1 * x.legN0
    let bad := decide (d.getAt si Reg.MEAS.LEG_LIMIT * x.legN0 * x.legN1 < diff.natAbs)
    let was := x.legBad
    let d := (d.setCv c { x with legSum0 := 0, legN0 := 0, legCnt0 := 0, legSum1 := 0, legN1 := 0, legCnt1 := 0,
                                 legBad := bad }).legLeaf
    if bad && !was then d.raise 94 0 else d

/-- Whether the other member's calibration reduces a word of a pair. -/
def Dev.pairReduced (d : Dev) (k : Nat) : Bool :=
  isPair k && ((d.cv (otherOf k)).reduced || d.calibrating (otherOf k))

/-- The word of a conversion that ended with a raw code: CALIBRATING, FAULT, SETTLING or VALID with its qualifier. -/
def Dev.convWord (d : Dev) (k : Nat) (c : ConvX) (raw : Int) (ok : Bool) : Dev :=
  let ch := chanOf k
  let pair := isPair k
  let fault := d.meas.vrefBad || !ok
  let x := d.cv ch
  let st := x.settling pair c.si c.strobe
  let calSettle := match (d.cv k).calSettle with
    | some t => decide (t ≤ c.strobe)
    | none => false
  let rawOk := !fault && st.2 && !calSettle
  let x := (x.filterIn pair c.si c.strobe (if rawOk then some raw else none)).settleStep pair c.si c.strobe
  let d := d.setCv ch x
  let d := if calSettle then d.setCv k { d.cv k with calSettle := none } else d
  let len := filterLen (if pair then d.getAt c.si (Reg.CV.FILTER ch) else x.filterAt c.strobe (d.get (Reg.CV.FILTER k)))
  let code := average x.raws len
  if fault then ((d.emit k false 3 0 c.si c.strobe).standInWords k false 3 0 c.si c.strobe).legCheck k c.si none
  else if st.1 || calSettle then ((d.emit k false 0 0 c.si c.strobe).standInWords k false 0 0 c.si c.strobe).legCheck k c.si none
  else
    let q := if d.pairReduced k then 1 else if c.urgent then 3 else if c.delayed then 2 else 0
    ((d.emit k true q code c.si c.strobe).standInWords k true q code c.si c.strobe).legCheck k c.si (some code)

/-- A conversion ends (spec R213, R218): `raw` is the code, `satHi` and `satLo` an input at or beyond full scale, `ok` the
converter's internal check. -/
def Dev.convDone (d : Dev) (k raw : Nat) (satHi satLo ok : Bool) : Dev :=
  let x := d.cv k
  match if x.late.isSome then x.late else x.conv with
  | none => d
  | some c =>
    if d.tt < c.strobe + 1500 then d else
    let code : Int := if satHi then 32767 else if satLo then -32768 else toSigned 16 raw
    let d := d.setCv k (if x.late.isSome then { x with late := none } else { x with conv := none })
    let d :=
      if c.cal then
        let why := d.badReason 1
        let d := if x.standIn.isSome then d else d.emit k false why 0 c.si c.strobe
        (d.standInWords k false why 0 c.si c.strobe).legCheck k c.si none
      else (d.overrange k (satHi || satLo)).convWord k c code ok
    d.calBegin k d.tt

/-! Changes of settings (spec R220). -/

/-- A strobe changes a channel's input, gain or filter: `k` is the apply index for a pair, the strobe TT for a single, and `was`
the FILTER before. -/
def Dev.cvChanged (d : Dev) (ch k : Nat) (ain gain filter : Bool) (was : Nat) : Dev :=
  let a := if gain then 2 else if ain then 1 else 0
  let n := a + filterLen (d.get (Reg.CV.FILTER ch)) - 1
  let x := d.cv ch
  let x := if filter then { x with emptyAt := x.emptyAt ++ [k], filters := if isPair ch then [] else ((k, was) :: x.filters).take 8 } else x
  d.setCv ch { x with settle := x.settle ++ [(k, a, n)] }

/-! Calibration (spec R223–R225). -/

/-- A calibration is accepted: it begins when the conversion in progress ends, 150 ns after its strobe. -/
def Dev.calAccept (d : Dev) (k : Nat) (standIn : Option Nat) : Dev :=
  let x := d.cv k
  let fin := match x.conv with
    | some c => max d.tt (c.strobe + 1500)
    | none => d.tt
  (d.setCv k { x with calWait := true, calFrom := fin, standIn := standIn }).calBegin k d.tt

/-- The single converter that may stand in for another (spec R224). -/
def Dev.redundant (d : Dev) (k : Nat) : Option Nat :=
  let y := d.get (Reg.CV.REDUNDANT k)
  let fresh := match (d.cv y).lastValid with
    | some t => decide (d.tt ≤ t + 10000000)
    | none => false
  if 12 ≤ y && y ≤ 17 && y != k && !d.calibrating y && fresh && d.get (Reg.CV.AIN y) == d.get (Reg.CV.AIN k) &&
      d.get (Reg.CV.GAIN y) == d.get (Reg.CV.GAIN k) then some y else none

/-- Whether CAL of a converter would be accepted now. -/
def Dev.calAllowed (d : Dev) (k : Nat) : Bool :=
  let busy := d.calibrating k || (d.cv k).calWait
  if isPair k then
    let o := otherOf k
    !busy && d.dsIn [dsCONFIGURED, dsLINKS_UP, dsADMITTED, dsREADY, dsRUNNING] && !d.calibrating o && !(d.cv o).calWait &&
    (d.get (Reg.CV.RESULT o)).testBit 31
  else !busy && (d.dsIn [dsCONFIGURED, dsLINKS_UP, dsADMITTED, dsREADY] || (d.ds == dsRUNNING && (d.redundant k).isSome))

/-- A write of 1 to CAL_ALL (spec R224). A converter that calibrates already, or waits to, goes on with that. -/
def Dev.calAll (d : Dev) : Dev :=
  if d.dsIn [dsCONFIGURED, dsLINKS_UP, dsADMITTED, dsREADY] then
    ((List.range 18).foldl (fun d k => if d.calibrating k || (d.cv k).calWait then d else d.calAccept k none) d).ret stOK
  else d.ret stBUSY

/-- What follows the end of a calibration: the first word strobed from here on is SETTLING, and REDUCED ends with the first VALID
one (spec R220, R223). -/
def Dev.calOver (d : Dev) (k : Nat) : Dev := d.setCv k { d.cv k with standIn := none, calSettle := some d.tt, reduced := true }

/-- A calibration ends (spec R225). -/
def Dev.calDone (d : Dev) (k : Nat) (ok : Bool) : Dev :=
  if !d.calibrating k then d else
  let d := d.calOver k
  if ok then d.set (Reg.CV.CAL_STATE k) 0
  else ((d.set (Reg.CV.CAL_STATE k) 2).rise Reg.MEAS.LEAVES 3 uMEAS).raise 93 0

/-- A write of 1 to URGENT (spec R217); that of a pair's member accepts only its default (spec R229). -/
def Dev.urgentWrite (d : Dev) (k : Nat) : Dev := if isPair k then d.ret stRANGE else (d.urgent k).ret stOK

/-! VREF (spec R228). -/

/-- Live leaf VREF with F095 at its rising edge. -/
def Dev.vrefLeaf (d : Dev) : Dev := d.leafRaise Reg.MEAS.LEAVES 0 uMEAS d.meas.vrefBad 95 0xFF 0

/-- VREF leaves its range or is back in it. It is followed in every state; where no core runs, the leaf rises with the next one. -/
def Dev.vref (d : Dev) (bad : Bool) : Dev :=
  let d : Dev := { d with meas := { d.meas with vrefBad := bad } }
  if d.live || !bad then d.vrefLeaf else d

/-! Comparators (spec R231, R232). -/

/-- An input passes a threshold of an enabled comparator; in a takeover from the end of the core wake on (spec R231, R411). -/
def Dev.ocCross (d : Dev) (k : Nat) (above : Bool) : Dev :=
  let b := if above then 0 else 1
  if d.live && (d.ds != dsTAKEOVER || d.twin.take.awake) && d.on (Reg.OC.ENABLE k) && !d.bit (Reg.OC.LEVEL k) b then
    let d := d.set (Reg.OC.LEVEL k) (1 <<< b)
    let d := (d.rise (Reg.OC.LATCHED k) b uMEAS).rise Reg.MEAS.LEAVES 6 uMEAS
    let d := ((d.set (Reg.OC.LAST_TRIP_TT k) d.tt).count (Reg.OC.TRIPS k) 32 1).event (0x192 + k)
    d.raise (80 + k) 0
  else d

/-- The input is back inside the window by HYST. -/
def Dev.ocRelease (d : Dev) (k : Nat) : Dev := d.set (Reg.OC.LEVEL k) 0

/-- The internal monitor's measurement of a comparator's two DACs. -/
def Dev.ocReadback (d : Dev) (k high low : Nat) : Dev :=
  let off (key : Nat) (m : Nat) : Bool := decide (4 < ((m : Int) - d.get key).natAbs)
  if d.live && d.on (Reg.OC.ENABLE k) && (off (Reg.OC.UPPER k) high || off (Reg.OC.LOWER k) low) then
    (d.rise Reg.MEAS.LEAVES 7 uMEAS).raise 110 0
  else d

end Sys2Proof.Machine
end

