-- ==== Sys2Proof/Machine/Compare.lean ====
section
/-!
DEFINITION. Time compares (spec R127–R131) and the supervision of the clocks (spec R132, R133).
-/
namespace Sys2Proof.Machine

abbrev tcARMED : Nat := 0
abbrev tcFAR : Nat := 1
abbrev tcLATE : Nat := 2

/-- The first tick after now: a late compare fires there (spec R129). -/
def Dev.nextTick (d : Dev) : Nat := (d.tt / 16 + 1) * 16 % 2 ^ 64

/-- A compare fired late or skipped periods (spec R129, R130). LATE is an event leaf of its own (spec R55, R133). -/
def Dev.compareLate (d : Dev) (n : Nat) : Dev :=
  ((d.rise (Reg.TC.STATUS n) tcLATE uTIME).rise Reg.TB.LEAVES 7 uTIME).raise 70 0

/-- Gates of event counters that a compare opens or closes (spec R438). -/
def Dev.ecGates (d : Dev) (n : Nat) : Dev :=
  let g := (List.range 32).foldl (fun g k =>
    if d.get (Reg.ECN.START_TC k) == n then setBit g k
    else if d.get (Reg.ECN.STOP_TC k) == n then clearBits g (1 <<< k) else g) d.acq.ecGate
  Dev.gatesMoved { d with acq := { d.acq with ecGate := g } } d

/-- The consumers of a compare's firing at tick `ft`; conversions take `ev` as the event's TT (spec R128, R129, R215). -/
def Dev.compareConsumers (d : Dev) (n ft ev : Nat) : Dev :=
  let d := if d.get Reg.TRIG.TC == n then d.condition 8 ft else d
  let d := d.startSource (0x10 + n) ev
  let d := (d.event (0x1AA + n)).ecGates n
  let d := if d.bit (Reg.TC.ROUTE n) 0 then d.trigPulse 0 ev else d
  let d := if d.bit (Reg.TC.ROUTE n) 1 then d.trigPulse 1 ev else d
  if d.bit Reg.EC.SNAP_SRC 1 && d.get Reg.EC.SNAP_TC == n then d.snap else d

/-- The rearm of a periodic compare after a firing at `ft` (spec R130). -/
def Dev.compareRearm (d : Dev) (n ft : Nat) : Dev :=
  let p := d.get (Reg.TC.PERIOD n)
  if p == 0 then d else
  let t := d.get (Reg.TC.TARGET n)
  let k : Nat := max 1 ((diffW 64 (ft + 200) t + p - 1) / p).toNat
  let t' : Nat := (t + k * p) % 2 ^ 64
  let st := setBit (clearBits (d.get (Reg.TC.STATUS n)) 2) tcARMED
  let st := if (2 ^ 31 : Int) ≤ diffW 64 t' d.tt then setBit st tcFAR else st
  let d := (d.sets [(Reg.TC.TARGET n, t'), (Reg.TC.STATUS n, st)]).count (Reg.TC.MISSED n) 32 (k - 1)
  if 1 < k then d.compareLate n else d

/-- A compare fires at tick `ft`. -/
def Dev.compareFireAt (d : Dev) (n ft : Nat) (late : Bool) : Dev :=
  let ev := if late then ft else d.get (Reg.TC.TARGET n)
  let d := d.sets [(Reg.TC.STATUS n, clearBits (d.get (Reg.TC.STATUS n)) 3), (Reg.TC.FIRED_AT n, ft)]
  let d := d.compareConsumers n ft ev
  let d := if late then d.compareLate n else d
  d.compareRearm n ft

/-- An armed near compare whose tick has come. -/
def Dev.compareDue (d : Dev) (n : Nat) : Bool :=
  d.bit (Reg.TC.STATUS n) tcARMED && !d.bit (Reg.TC.STATUS n) tcFAR && d.tickCame (d.get (Reg.TC.TARGET n))

/-- COMPARE_FIRE (spec R128). -/
def Dev.compareFire (d : Dev) (n : Nat) : Dev :=
  if d.compareDue n then d.compareFireAt n (firingTick (d.get (Reg.TC.TARGET n))) false else d

/-- A write of 1 to ARM (spec R128, R129, R131). -/
def Dev.compareArm (d : Dev) (n : Nat) : Dev :=
  let st := d.get (Reg.TC.STATUS n)
  if st.testBit tcARMED then d.ret stBUSY
  else
    let diff := diffW 64 (d.get (Reg.TC.TARGET n)) d.tt
    if diff < 0 then (d.compareFireAt n d.nextTick true).ret stOK
    else
      let st := setBit st tcARMED
      (d.set (Reg.TC.STATUS n) (if (2 ^ 31 : Int) ≤ diff then setBit st tcFAR else st)).ret stOK

/-- A write of 1 to DISARM (spec R131): a firing whose tick has come stands. -/
def Dev.compareDisarm (d : Dev) (n : Nat) : Dev :=
  let d := d.compareFire n
  (d.set (Reg.TC.STATUS n) (clearBits (d.get (Reg.TC.STATUS n)) 3)).ret stOK

/-- A far compare within 2^30 units becomes near (spec R128). -/
def farNear (target : Nat) (tt : Nat) : Bool := decide (diffW 64 target tt < (2 ^ 30 : Int))

/-- The examination of far compares, every 1,000 µs. -/
def Dev.farScan (d : Dev) : Dev :=
  let d := (List.range 16).foldl (fun d n =>
    if d.bit (Reg.TC.STATUS n) tcARMED && d.bit (Reg.TC.STATUS n) tcFAR && farNear (d.get (Reg.TC.TARGET n)) d.tt then
      d.set (Reg.TC.STATUS n) (clearBits (d.get (Reg.TC.STATUS n)) 2)
    else d) d
  if d.time.commitFar && farNear (d.get Reg.COMMIT.TIME_AT) d.tt then { d with time := { d.time with commitFar := false } }
  else d

/-- A TB PLL loses or regains lock (spec R132, R133). -/
def Dev.pllLock (d : Dev) (locked : Bool) : Dev :=
  if d.ttZero.isSome then d.leafRaise Reg.TB.LEAVES 0 uTIME (!locked) 65 0xFF 0 else d

/-- REFCLK is lost (spec R132). -/
def Dev.refclkLoss (d : Dev) : Dev := d.raise 66 0

end Sys2Proof.Machine
end

