-- ==== Sys2Proof/Machine/Gau.lean ====
section
/-!
DEFINITION. Grid angle units, angle compares and Flue (spec R234–R242).
-/
namespace Sys2Proof.Machine

def Dev.gau (d : Dev) (g : Nat) : GauX := d.meas.gaus.get g {}
def Dev.setGau (d : Dev) (g : Nat) (x : GauX) : Dev := { d with meas := { d.meas with gaus := d.meas.gaus.put g x } }

/-- STATUS bits (spec R242). -/
abbrev gsSTANDSTILL : Nat := 7
abbrev gsLOSS : Nat := 6
abbrev gsANGLE_VALID : Nat := 5
abbrev gsFREQ_VALID : Nat := 4
abbrev gsDIR : Nat := 3

def Dev.gs (d : Dev) (g b : Nat) : Bool := d.bit (Reg.GAU.STATUS g) b
def Dev.setGs (d : Dev) (g b : Nat) (v : Bool) : Dev := d.set (Reg.GAU.STATUS g) (putBit (d.get (Reg.GAU.STATUS g)) b v)

def Dev.gauOn (d : Dev) (g : Nat) : Bool := d.live && d.on (Reg.GAU.ENABLE g)

/-- The quadrant the lines define (spec R234). -/
def Dev.quadrant (d : Dev) (g : Nat) : Nat :=
  match d.gs g 0, d.gs g 1 with
  | true, true => 0
  | true, false => 1
  | false, false => 2
  | false, true => 3

/-- The lines of a quadrant. -/
def Dev.setLines (d : Dev) (g q : Nat) : Dev := (d.setGs g 0 (q == 0 || q == 1)).setGs g 1 (q == 0 || q == 3)

def Dev.freqOff (d : Dev) (g : Nat) : Dev := (d.setF (Reg.GAU.FREQ g) F32.zero).setGs g gsFREQ_VALID false

/-- The angle now (spec R236): the last conversion carried on with FREQ and DIR, clamped at the boundaries of the quadrant that
the lines give. Angles go round: a conversion in the quadrant before lies below this one's start. -/
def Dev.angleAt (d : Dev) (g t : Nat) : Nat :=
  let x := d.gau g
  let lo : Nat := d.quadrant g * 2 ^ 30
  let base := diffW 32 x.angle lo
  let step : Int := if d.gs g gsFREQ_VALID then
      (F32.toRat (d.getF (Reg.GAU.FREQ g)) * (((t - x.convTt : Nat) : Rat) / 10000000000) * 4294967296).floor else 0
  let a := if d.gs g gsDIR then base - step else base + step
  lo + (max 0 (min a (2 ^ 30 - 1))).toNat

/-- The unit latches ANGLE, CYCLES and FREQ, extrapolated to B(n), for the snapshot (spec R17, R236). -/
def Dev.gauLatch (d : Dev) (g : Nat) : Dev :=
  d.setGau g { d.gau g with bAngle := d.angleAt g d.frame.bn, bCycles := d.getI (Reg.GAU.CYCLES g) 32, bFreq := d.getF (Reg.GAU.FREQ g) }

/-- P of R239 at a TT. -/
def Dev.position (d : Dev) (g t : Nat) : Int := d.getI (Reg.GAU.CYCLES g) 32 * 2 ^ 32 + d.angleAt g t

/-- T of R239. -/
def Dev.cmpTarget (d : Dev) (g : Nat) : Int := d.getI (Reg.GAU.CMP_CYCLES g) 32 * 2 ^ 32 + d.get (Reg.GAU.CMP_ANGLE g)

/-! The angle compare (spec R239, R240, R105). -/

abbrev csARMED : Nat := 0
abbrev csHELD : Nat := 1
abbrev csLATE : Nat := 2

def Dev.cs (d : Dev) (g b : Nat) : Bool := d.bit (Reg.GAU.CMP_STATUS g) b
def Dev.setCs (d : Dev) (g b : Nat) (v : Bool) : Dev :=
  d.set (Reg.GAU.CMP_STATUS g) (putBit (d.get (Reg.GAU.CMP_STATUS g)) b v)

/-- What holds the compare. -/
def Dev.cmpBlocked (d : Dev) (g : Nat) : Bool := d.gs g gsDIR || !d.gs g gsFREQ_VALID || !d.gs g gsANGLE_VALID

/-- The GAUs whose compare a close pulse is armed on, and CLOSE_ARMED with them (spec R103, R105). -/
def Dev.closeArms (d : Dev) (mask : Nat) : Dev :=
  Dev.set { d with kindle := { d.kindle with closeArm := mask } } Reg.STN.CLOSE_ARMED (b2n (mask != 0))

/-- The close pulse armed on a unit's compare: it rises with an on-time firing; a late one sets CLOSE_LATE (spec R105). -/
def Dev.closeFire (d : Dev) (g : Nat) (late : Bool) : Dev :=
  if d.kindle.closeArm.testBit g then
    let d := d.closeArms (clearBits d.kindle.closeArm (1 <<< g))
    let d : Dev := if late then d else { d with kindle := { d.kindle with close := d.kindle.close.put g d.now } }
    if late then d.rise Reg.STN.LEAVES 3 uREG else d
  else d

/-- The compare fires at a TT. -/
def Dev.cmpFireAt (d : Dev) (g t : Nat) (late : Bool) : Dev :=
  let d := d.setGau g { d.gau g with hit := none }
  let d := ((d.setCs g csARMED false).setCs g csHELD false).set (Reg.GAU.CMP_FIRED_TT g) t
  let d := if d.bit (Reg.GAU.CMP_ROUTE g) 0 then d.trigPulse 0 t else d
  let d := if d.bit (Reg.GAU.CMP_ROUTE g) 1 then d.trigPulse 1 t else d
  let d := d.closeFire g late
  if late then (((d.setCs g csLATE true).rise (Reg.GAU.LEAVES g) 2 uGAU).rise Reg.TB.LEAVES 7 uTIME).raise 70 0 else d

/-- HELD follows; a target that lies behind on release fires late (spec R239, R240). -/
def Dev.cmpUpdate (d : Dev) (g : Nat) : Dev :=
  if !d.cs g csARMED then d
  else if d.cmpBlocked g then Dev.setCs (d.setGau g { d.gau g with hit := none }) g csHELD true
  else
    let d := d.setCs g csHELD false
    if (d.gau g).hit.isNone && diffW 64 (d.cmpTarget g) (d.position g d.tt) < 0 then d.cmpFireAt g d.nextTick true else d

/-- At a conversion: t_hit within 1,000 ns sets the internal time compare (spec R239). -/
def Dev.cmpConversion (d : Dev) (g : Nat) : Dev :=
  let d := d.cmpUpdate g
  if !d.cs g csARMED || d.cs g csHELD then d else
  let diff := diffW 64 (d.cmpTarget g) (d.position g d.tt)
  let f := F32.toRat (d.getF (Reg.GAU.FREQ g))
  let wait := if f ≤ 0 then 2 ^ 62 else roundRat ((diff : Rat) * 10000000000 / (4294967296 * f))
  if wait ≤ 10000 then d.setGau g { d.gau g with hit := some (d.tt + wait.toNat) } else d

/-- ANGLE_COMPARE_FIRE. -/
def Dev.cmpFire (d : Dev) (g : Nat) : Dev :=
  match (d.gau g).hit with
  | some t => if d.cs g csARMED && !d.cs g csHELD && decide (t ≤ d.tt) then d.cmpFireAt g t false else d
  | none => d

/-- The cycle of the first passage of CMP_ANGLE at least 1,000 ns of rotation ahead (spec R239). -/
def Dev.nextCycle (d : Dev) (g : Nat) : Int :=
  let lead := (F32.toRat (d.getF (Reg.GAU.FREQ g)) * 4294967296 / 1000000).ceil
  let need := d.position g d.tt + lead - d.get (Reg.GAU.CMP_ANGLE g)
  Int.neg (Int.neg need / (2 ^ 32 : Int))

/-- Arming, by CMP_ARM or CLOSE_ARM; `ok` is what follows an accepted arming. -/
def Dev.cmpArm (d : Dev) (g : Nat) (ok : Dev → Dev) : Dev :=
  let next := d.get (Reg.GAU.CMP_MODE g) == 1
  if d.cs g csARMED then d.ret stBUSY
  else if next && d.cmpBlocked g then d.ret stSTATE
  else
    let d := if next then d.setI (Reg.GAU.CMP_CYCLES g) 32 (d.nextCycle g) else d
    (((ok d).setCs g csARMED true).cmpUpdate g).ret stOK

/-- CMP_ARM. -/
def Dev.angleArm (d : Dev) (g : Nat) : Dev := d.cmpArm g (fun d => d)

/-- CLOSE_ARM for one unit (spec R103, R105). -/
def Dev.closeArmWrite (d : Dev) (v : Nat) : Dev :=
  if !(v == 1 || v == 2) then d.ret stRANGE
  else if !d.dsIn [dsLINKS_UP, dsADMITTED, dsREADY, dsRUNNING] then d.ret stSTATE
  else d.cmpArm (v - 1) (fun d => d.closeArms (setBit d.kindle.closeArm (v - 1)))

/-- CMP_DISARM (spec R131, R240): a firing whose TT has come stands. A close pulse armed on the compare is given up. -/
def Dev.angleDisarm (d : Dev) (g : Nat) : Dev :=
  let d := d.cmpFire g
  let d := ((d.setGau g { d.gau g with hit := none }).setCs g csARMED false).setCs g csHELD false
  let d := if d.kindle.closeArm.testBit g then d.closeArms (clearBits d.kindle.closeArm (1 <<< g)) else d
  d.ret stOK

/-! Edges (spec R235, R237). -/

/-- Frequency at a legal edge: five legal edges in one direction (spec R237). -/
def Dev.gauFreq (d : Dev) (g : Nat) (es : List (Nat × Bool)) : Dev :=
  match es with
  | [a, b, c, e, f] =>
    if a.2 == b.2 && b.2 == c.2 && c.2 == e.2 && e.2 == f.2 && f.1 < a.1 && a.2 == d.gs g gsDIR then
      (d.setF (Reg.GAU.FREQ g) (F32.ofRat ((10000000000 : Rat) / ((a.1 - f.1 : Nat) : Rat)))).setGs g gsFREQ_VALID true
    else d
  | _ => d

/-- A legal edge, `rev` in the reverse direction. -/
def Dev.gauLegal (d : Dev) (g q : Nat) (rev : Bool) : Dev :=
  let old := d.quadrant g
  let cyc := d.getI (Reg.GAU.CYCLES g) 32
  let loss := d.gs g gsLOSS
  let d := d.setLines g q
  let d := if loss then d
    else if !rev && old == 3 then d.setI (Reg.GAU.CYCLES g) 32 (cyc + 1)
    else if rev && old == 0 then d.setI (Reg.GAU.CYCLES g) 32 (cyc - 1) else d
  let d := if !rev && old == 3 then d.event (0x1BA + g) else d
  let x := d.gau g
  let es := ((d.tt, rev) :: x.edges).take 5
  let against := if rev == d.gs g gsDIR then 0 else x.against + 1
  let d := d.setGau g { x with edges := es, against := if 2 ≤ against then 0 else against, lastEdge := d.tt }
  let d := d.setGs g gsSTANDSTILL false
  let d := if loss then d else d.setGs g gsANGLE_VALID true
  let d := if 2 ≤ against then
      (((d.setGs g gsDIR rev).freqOff g).rise (Reg.GAU.LEAVES g) 1 uGAU).raise (108 + g) 0
    else d.gauFreq g es
  d.cmpUpdate g

/-- GAU_EDGE: the lines take a new quadrant. -/
def Dev.gauEdge (d : Dev) (g q : Nat) : Dev :=
  if !d.gauOn g then d
  else if !(d.gau g).known then (d.setLines g q).setGau g { d.gau g with known := true, lastEdge := d.tt }
  else match (q + 4 - d.quadrant g) % 4 with
  | 0 => d
  | 1 => d.gauLegal g q false
  | 3 => d.gauLegal g q true
  | _ =>
    let d := (d.setLines g q).setGau g { d.gau g with edges := [], against := 0 }
    let d := (d.count (Reg.GAU.ILLEGAL_COUNT g) 32 1).rise (Reg.GAU.LEAVES g) 0 uGAU
    (((d.setGs g gsANGLE_VALID false).freqOff g).raise (104 + g) 0).cmpUpdate g

/-- FREQ_TIMEOUT without a legal edge (spec R237). -/
def Dev.gauStandstill (d : Dev) (g : Nat) : Dev :=
  let x := d.gau g
  if d.gauOn g && decide (x.lastEdge + d.get (Reg.GAU.FREQ_TIMEOUT g) * 10000 ≤ d.tt) then
    (((d.setGau g { x with edges := [], against := 0 }).setGs g gsSTANDSTILL true).freqOff g).cmpUpdate g
  else d

/-- A conversion: the arctangent converter's angle in steps of 2^18 and amplitude in mV (spec R236, R238). -/
def Dev.gauConversion (d : Dev) (g theta amp : Nat) : Dev :=
  if !d.gauOn g then d else
  let q := d.quadrant g
  let within := if theta / 4096 == q then theta % 4096 else if theta / 4096 == (q + 1) % 4 then 4095 else 0
  let a := (q * 4096 + within) * 2 ^ 18
  let below := decide (amp < d.get (Reg.GAU.AMP_MIN g))
  let x := d.gau g
  let low := if below then x.low + 1 else 0
  let high := if below then 0 else x.high + 1
  let d := (d.setGau g { x with low := min low 8, high := min high 8, convTt := d.tt, angle := a }).set (Reg.GAU.ANGLE g) a
  let d :=
    if 8 ≤ low && !d.gs g gsLOSS then
      ((((d.setGs g gsLOSS true).setGs g gsANGLE_VALID false).freqOff g).setGau g { d.gau g with edges := [], against := 0 }).raise
        (106 + g) 0
    else if 8 ≤ high && d.gs g gsLOSS then (d.setGs g gsLOSS false).setGs g gsANGLE_VALID true
    else d
  d.cmpConversion g

/-! Flue (spec R241). -/

/-- FLUE_A (0) and FLUE_B (1): a line of the selected unit, low while LINES_EN is 0 and in RESET, KINDLING and BANKED (spec R78). -/
def Dev.flueLine (d : Dev) (b : Nat) : Bool := d.live && d.on Reg.FLUE.LINES_EN && d.gs (d.get Reg.FLUE.SEL) b

/-- One frame of FLUE_DAT. -/
def Dev.flueFrame (d : Dev) : Dev :=
  let per := d.get Reg.FLUE.DAT_PERIOD * 10000
  if d.live && d.on Reg.FLUE.DAT_EN && d.tt % per == 0 then
    let g := d.get Reg.FLUE.SEL
    let flags := g + 2 * b2n (d.gs g gsDIR) + 4 * b2n (d.gs g gsANGLE_VALID) + 8 * b2n (d.gs g gsFREQ_VALID) + 16 * b2n (d.gs g gsLOSS)
    let b := leBytes 1 0xA5 ++ leBytes 1 flags ++ beBytes 2 (d.angleAt g d.tt / 65536) ++ leBytes 1 (d.get (Reg.GAU.CYCLES g))
    let bytes := b ++ leBytes 1 (crc8 b)
    Dev.send { d with meas := { d.meas with flue := bytes, flueAt := d.tt } } (.flue bytes)
  else d

/-- The level of FLUE_DAT at a TT (spec R241): low while DAT_EN is 0 and in RESET, KINDLING and BANKED (spec R78); else the line idles
high, and a frame sends each byte as 8N1, LSB first, 100 ns a bit. -/
def Dev.flueDat (d : Dev) (t : Nat) : Bool :=
  let n := (t - d.meas.flueAt) / 1000
  if !d.live || !d.on Reg.FLUE.DAT_EN then false
  else if t < d.meas.flueAt then true
  else match d.meas.flue[n / 10]? with
    | none => true
    | some b => if n % 10 == 0 then false else n % 10 == 9 || b.getLsbD (n % 10 - 1)

end Sys2Proof.Machine
end

