-- ==== Sys2Proof/Machine/Arm.lean ====
section
/-!
DEFINITION. The arm loops and their lanes: samples, the loop law, selections, deblock bursts, feedback loss, arm
commands, rankings and aggregates, the spare lane, and ash rows (spec R244–R301, R436).
-/
namespace Sys2Proof.Machine

/-! Selections (spec R248, R249, R253, R258, R285). -/

/-- The lane sends a command to a cell (spec R253, R287). -/
def Dev.laneSend (d : Dev) (a s op : Nat) : Dev :=
  let key := d.key s
  let d := ((d.stackCell s op).setCmd s (opState op) true).count (Reg.LANE.SELECTIONS a) 64 1
  let d := d.setLane a { d.lane a with lastSlot := s, lastKey := key }
  (d.setArm a { d.arm a with tapSlot := s }).event (0x178 + a)

/-- Cells of an arm that step 3 of a burst has still to bypass (spec R258). -/
def Dev.burstRest (d : Dev) (a : Nat) : List Nat :=
  (d.laneSlots a).filter (fun s => d.cellState s == csACTIVE && d.cmdState s == swBLK)

/-- A level event of an arm at a sample (spec R248). -/
def Dev.levelEvent (d : Dev) (a si : Nat) : Dev :=
  let x := d.arm a
  let d := d.setArm a { x with events := (si :: x.events.filter (fun e => decide (si < e + 256))), tapFlags := setBit x.tapFlags 0 }
  ((d.count (Reg.ARM.EVENTS a) 64 1).set (Reg.ARM.LAST_EVENT_SI a) si).event (0x160 + a)

/-- The counts an arm shows. -/
def Dev.armMirror (d : Dev) (a : Nat) : Dev :=
  let x := d.arm a
  ((d.setI (Reg.ARM.N_FF a) 16 x.nFf).setI (Reg.ARM.N_FB a) 16 x.nFb).setI (Reg.ARM.N_CMD a) 16 x.nCmd

/-- The answers to a request are complete: the shortfall is taken back, the event starts the dwell (spec R248, R249). -/
def Dev.selDone (d : Dev) (a : Nat) (r : SelReq) : Dev :=
  let x := d.arm a
  let d := d.setArm a { x with req := none }
  if r.burst then d.armMirror a
  else
    let short : Int := (r.asked : Int) - r.granted
    let x := d.arm a
    let back := r.dir * min short (x.nFb - r.fb0).natAbs
    let d := if 0 < short then
        let d := d.setArm a { x with nFb := x.nFb - back, tapFlags := setBit x.tapFlags 3 }
        (((d.rise (Reg.ARM.LEAVES a) 5 uARM).count (Reg.ARM.NO_CELLS a) 32 1).raiseLoop 124 a).event (0x16C + a)
      else d
    let d := if 0 < r.granted then
        let d := d.levelEvent a r.si
        let x := d.arm a
        let x := { x with dwellEnd := r.si + d.getAt r.si (Reg.ARM.T_DWELL a)
                          tapFlags := if r.dFb == 0 then setBit x.tapFlags 2 else x.tapFlags }
        let x := if r.dFb == 0 then x
          else { x with lastDir := if r.dFb < 0 then -1 else 1, respEnd := r.si + d.getAt r.si (Reg.ARM.T_RESP a) }
        d.setArm a x
      else d
    d.armMirror a

/-- A request goes on with what it has granted and left, or is complete. A burst is complete with its last cell commanded: from
the next sample R248 applies in full (spec R258). -/
def Dev.selNext (d : Dev) (a : Nat) (r : SelReq) : Dev :=
  if r.burst && (d.burstRest a).isEmpty then Dev.selDone (d.setArm a { d.arm a with burst := 0, burstDone := true }) a r
  else if r.left == 0 then d.selDone a r else d.setArm a { d.arm a with req := some r }

/-- One bypass of step 3 of a burst; with none left the burst is complete (spec R258). After a BLOCK none is sent (spec R23). -/
def Dev.selectRest (d : Dev) (a : Nat) (r : SelReq) : Dev :=
  match d.burstRest a with
  | s :: _ =>
    if (d.port (portOf s)).ban then d.selDone a r else
    let d := (d.laneSend a s opBYPASS).levelEvent a r.si
    (d.setArm a { d.arm a with burst := 2 }).selNext a { r with granted := r.granted + 1, left := r.left - 1, rest := true }
  | [] => Dev.selDone (d.setArm a { d.arm a with burst := 0, burstDone := true }) a r

/-- One selection of the arm's request, or one bypass of a burst (spec R258, R285). No cell ends the request; in a burst
it ends step 2. A selection withheld after a BLOCK is no shortfall (spec R23). -/
def Dev.selectOne (d : Dev) (a : Nat) : Dev :=
  let x := d.arm a
  match x.req with
  | none => d
  | some r =>
    if r.left == 0 then d.selDone a r
    else if r.rest || (r.burst && r.need == 0) then d.selectRest a r
    else
      match d.choose a r.si r.dir r.pos r.burst with
      | some (s, op, l) =>
        if (d.port (portOf s)).ban then Dev.selDone d a { r with asked := r.granted }
        else
          let d := (d.setLane a l).laneSend a s op
          let d := if r.burst then d.levelEvent a r.si else d
          d.selNext a { r with granted := r.granted + 1, left := r.left - 1, need := r.need - 1 }
      | none => if r.burst then d.selectRest a r else d.selNext a { r with left := 0 }

/-- At most four selections fall on one sample (spec R250). -/
def Dev.selectAll (d : Dev) (a : Nat) : Dev := (List.range 5).foldl (fun d _ => d.selectOne a) d

/-! One sample: reference, feed-forward, error (spec R245–R247, R252, R280). -/

/-- The nearest integer, ties away from zero, within bounds; `open_` where the value is no number. -/
def boundedInt (x : F32) (lo hi open_ : Int) : Int :=
  if F32.isNaN x then max lo (min open_ hi)
  else if F32.isInf x then (if F32.sign x then lo else hi)
  else max lo (min (F32.toIntHalfAway x) hi)

/-- ref(j) (spec R245). -/
def RefX.ref (r : RefX) (si : Nat) : F32 :=
  let j := min (si - r.si0) (r.ns - 1)
  F32.add r.rPrev (F32.div (F32.mul (F32.sub r.rNew r.rPrev) (F32.ofNat (j + 1))) (F32.ofNat r.ns))

/-- dref in amperes per second; TF in units of 100 ps. -/
def RefX.dref (r : RefX) : F32 := F32.div (F32.sub r.rNew r.rPrev) (F32.ofRat ((r.tf : Rat) / 10000000000))

/-- v_avg (spec R246). -/
def Dev.vAvg (d : Dev) (a si : Nat) (r : RefX) : F32 :=
  let m := d.getAtF si (Reg.ARM.V_AVG_MIN a)
  if r.healthy == 0 then m else F32.max (F32.div r.vSum (F32.ofNat r.healthy)) m

/-- v_ff / v_avg (spec R246); a voltage is the VALUE of the converter named, that of its latest VALID word (spec R244). -/
def Dev.ffCount (d : Dev) (a si : Nat) (r : RefX) : F32 :=
  let volts (k : Nat) : F32 := if k == 0xFF then F32.zero else d.getF (Reg.CV.VALUE k)
  let v := F32.sub (volts (d.getAt si (Reg.ARM.V_POLE_CV a))) (volts (d.getAt si (Reg.ARM.V_AC_CV a)))
  let vIn := if d.getAt si (Reg.ARM.POL a) == 0 then v else F32.neg v
  let vAcc := F32.mul (d.getAtF si (Reg.ARM.L_ARM a)) r.dref
  let vFf := F32.add (F32.sub (F32.mul (d.getAtF si (Reg.ARM.K_V a)) vIn) (F32.mul (d.getAtF si (Reg.ARM.K_A a)) vAcc)) r.vKiln
  F32.div vFf (d.vAvg a si r)

/-- 256 × ref_code (spec R247). -/
def Dev.refCode (d : Dev) (a si : Nat) (r : RefX) : F32 :=
  F32.mul (F32.ofNat 256)
    (F32.div (F32.sub (r.ref si) (d.getAtF si (Reg.CV.BIAS (2 * a)))) (d.getAtF si (Reg.CV.SCALE (2 * a))))

/-- The lane's charge takes one sample (spec R280); where the current is no finite number the advance is open. -/
def Dev.advanceQ (d : Dev) (a : Nat) (w : WordX) : Dev :=
  let l := d.lane a
  let code := if w.valid then w.data else l.code
  let i := d.armAmps a w.si code
  let f := d.fresh
  let d := if F32.isFinite i then d else f.2
  let step : Int := if F32.isFinite i then roundRat (F32.toRat i * 4294967296 / 10000000) else f.1.toInt
  let q := ofSigned 64 (l.q + step)
  d.setLane a { d.lane a with q := q, qSi := w.si, code := code, qHist := (q :: l.qHist).take 1024 }

/-! Feedback loss (spec R264–R268). -/

/-- Maximum minus minimum of the last `n` VALID codes. -/
def codeSpan (l : List (Int × Nat)) (n : Nat) : Int :=
  match l.take n with
  | [] => 0
  | c :: cs => cs.foldl (fun m x => max m x.1) c.1 - cs.foldl (fun m x => min m x.1) c.1

/-- The words that count: both legs', or those of the remaining leg alone (spec R264). -/
def legWords (l : List (Int × Nat)) (alone : Option Nat) : List (Int × Nat) :=
  match alone with
  | some leg => l.filter (fun c => c.2 == leg)
  | none => l

/-- The freeze condition at sample `w`: both legs among the words, or of a pair that runs REDUCED the words of the remaining leg
alone (spec R264). -/
def Dev.freezeCond (d : Dev) (a w : Nat) (alone : Option Nat) : Bool :=
  let x := d.arm a
  let n := d.getAt w (Reg.ARM.FREEZE_N a)
  let lag := d.getAt w (Reg.ARM.FREEZE_LAG a)
  let all := x.recent.take n
  let l := legWords all alone
  let legs := match alone with
    | some _ => !l.isEmpty
    | none => l.any (fun c => c.2 == 0) && l.any (fun c => c.2 == 1)
  decide (n ≤ all.length) && decide (codeSpan l n ≤ d.getAt w (Reg.ARM.FREEZE_TOL a)) && legs &&
  x.events.any (fun e => decide (w + 1 ≤ e + n + lag) && decide (e + lag + 4 ≤ w))

/-- n_fb before the earliest feedback step in the event range (spec R267). -/
def Dev.rollback (d : Dev) (a w : Nat) : Dev :=
  let x := d.arm a
  let n := d.getAt w (Reg.ARM.FREEZE_N a)
  let lag := d.getAt w (Reg.ARM.FREEZE_LAG a)
  let l := x.steps.filter (fun e => decide (w + 1 ≤ e.1 + n + lag) && decide (e.1 + lag + 4 ≤ w))
  let d := d.count (Reg.ARM.ROLLBACKS a) 32 1
  match l.getLast? with
  | some e => d.setArm a { x with nFb := e.2 }
  | none => d

/-- A feedback loss may take the arm to OPEN at this sample: it runs, and no transition of the same rank or a higher one has
taken place at it (spec R257). -/
def Dev.lossOpen (d : Dev) (a w : Nat) : Bool := d.armRuns a && !d.transAt a w 3

/-- A freeze detected at sample `w`: the arm goes to OPEN, or stays there with this cause, and takes back the steps in the event
range (spec R255, R264, R267). -/
def Dev.freezeHit (d : Dev) (a w : Nat) : Dev :=
  let d := d.rise (Reg.ARM.LEAVES a) 1 uARM
  if d.lossOpen a w then ((d.armLoss a w caFREEZE).rollback a w).raiseLoop (112 + a) a else d

/-- An invalid run completed at sample `w` (spec R255, R265). -/
def Dev.invalidHit (d : Dev) (a w : Nat) : Dev :=
  let d := d.rise (Reg.ARM.LEAVES a) 2 uARM
  if d.lossOpen a w then (d.armLoss a w caINVALID).raiseLoop (112 + a) a else d

/-- The recovery criterion of a FREEZE or INVALID cause at a sample (spec R268); a new detection restarts its time, and a sample of
the unbroken run of a freeze fails it (spec R264). -/
def Dev.recoverStep (d : Dev) (a : Nat) (w : WordX) (hit : Bool) : Dev :=
  let x := d.arm a
  let cause := d.armCause a
  if d.armState a != asOPEN || !(cause == caFREEZE || cause == caINVALID) then d
  else
    let n := d.getAt w.si (Reg.ARM.FREEZE_N a)
    let ok := !hit && !x.frozen && (if cause == caFREEZE then
        decide (n ≤ x.recent.length) &&
          decide ((d.getAt w.si (Reg.ARM.FREEZE_TOL a) : Int) < codeSpan (legWords (x.recent.take n) w.alone) n)
      else w.valid || w.reason == 1)
    d.setArm a { x with criterion := ok, recover := if ok then some (match x.recover with
      | some k => k + 1
      | none => 0) else none }

/-- No feedback-loss condition is present (spec R255, R413). -/
def Dev.lossFree (d : Dev) (a si : Nat) : Bool :=
  let x := d.arm a
  !x.frozen && decide (x.invRun < d.getAt si (Reg.ARM.INVALID_MAX a)) && !(d.legSum.tripped && !d.legsumIdleAt si)

/-! Automatic closings (spec R255, R263, R268, R413). -/

/-- A recovered arm closes; after a deblock burst it closes from the next frame boundary on; a resumed arm closes with
n_fb set from the count its cells report. A transition of higher rank at this sample comes first (spec R257). -/
def Dev.autoClose (d : Dev) (a si : Nat) : Dev :=
  let x := d.arm a
  let cause := d.armCause a
  if d.armState a != asOPEN || d.transAt a si 4 || d.coefPending a si then d
  else if d.fbLoss a then
    let long := match x.recover with
      | some k => decide (10 * d.getAt si (Reg.ARM.T_RECOVER a) ≤ k)
      | none => false
    if long && d.getAt si (Reg.ARM.AUTO_CLOSE a) != 0 then d.armClose a si caRECOVERED 5 else d
  else if cause == caTAKEOVER then
    if d.ds == dsRUNNING && decide (d.get (Reg.ADM.ADMIT_MIN a) ≤ d.get (Reg.LANE.HEALTHY a)) && d.lossFree a si then
      let lo := d.getAtI si (Reg.ARM.N_MIN a) 16 - x.nFf
      let hi := d.getAtI si (Reg.ARM.N_MAX a) 16 - x.nFf
      Dev.armClose (d.setArm a { x with nFb := max lo (min (x.nCmd - x.nFf) hi) }) a si caTAKEOVER_DONE 5
    else d
  else if x.closeFrame.any (fun k => decide (k ≤ si)) && (cause == caDEVICE || cause == caSOFTWARE) && d.getAt si (Reg.ARM.DEBLOCK_CLOSE a) != 0 && d.lossFree a si then
    d.armClose a si caDEBLOCK_DONE 5
  else d

/-! The sample (spec R248, R250, R251). -/

/-- Where e lies against the bands (spec R271). -/
def bandOf (e hIn hOut : Int) : Nat :=
  if e < -256 * hOut then 3 else if 256 * hOut < e then 4 else if e < -256 * hIn then 1 else if 256 * hIn < e then 2 else 0

/-- The feedback step of R248 for an error; the second part says whether it lies beyond H_OUT. -/
def feedbackStep (x : ArmX) (si nStep : Nat) (e hIn hOut : Int) : Int × Bool :=
  let dir : Int := if e < -256 * hIn then 1 else if 256 * hIn < e then -1 else 0
  if dir == 0 then (0, false)
  else if 256 * hOut < e.natAbs then (dir * nStep, true)
  else if dir != x.lastDir then (dir, false)
  else if x.respEnd ≤ si && x.ePrev.natAbs < e.natAbs then (dir, false)
  else (0, false)

/-- What the word itself tells: validity counts, sign, charge, leg sum, freeze and invalid run. -/
def Dev.sampleWord (d : Dev) (a : Nat) (w : WordX) : Dev :=
  let x := d.arm a
  let zb : Int := d.getAt w.si (Reg.ARM.ZERO_BAND a)
  let x := if !w.valid then x
    else { x with pos := if zb < w.data then true else if w.data < -zb then false else x.pos
                  recent := ((w.data, w.leg) :: x.recent).take 64 }
  let run := if w.valid then 0 else if w.reason == 1 then x.invRun else x.invRun + 1
  let d := d.setArm a { x with invRun := min run 64, invDone := x.invDone && !w.valid, tapSlot := 0xFFFF
                               tapFlags := 128 * b2n (d.transAt a w.si 5) + 16 * b2n (!w.valid) }
  let d := if w.valid then d else d.count (Reg.ARM.INVALID_WORDS a) 32 1
  let d := (d.advanceQ a w).laneKeys a
  let cond := d.freezeCond a w.si w.alone
  let freeze := cond && !(d.arm a).frozen
  let inval := decide (d.getAt w.si (Reg.ARM.INVALID_MAX a) ≤ run) && !(d.arm a).invDone
  let d := d.setArm a { d.arm a with frozen := cond, invDone := (d.arm a).invDone || inval }
  let d := if freeze then d.freezeHit a w.si else d
  let d := if inval then d.invalidHit a w.si else d
  d.recoverStep a w (freeze || inval)

/-- n_ff, the reference and the error of a sample (spec R245–R247). -/
def Dev.sampleCounts (d : Dev) (a : Nat) (w : WordX) : Int × Dev :=
  let x := d.arm a
  let r := x.frameOf w.si
  let lo := d.getAtI w.si (Reg.ARM.N_MIN a) 16
  let hi := d.getAtI w.si (Reg.ARM.N_MAX a) 16
  let q := d.ffCount a w.si r
  let rc := d.refCode a w.si r
  let f := d.fresh
  let d := if F32.isNaN q || F32.isNaN rc then f.2 else d
  let nFf := boundedInt q lo hi (f.1.toInt % 4096)
  let ref := boundedInt rc (-2147483648) 2147483647 (f.1.toInt % 2147483648)
  let e := if w.valid then ref - 256 * w.data else x.tapErr
  let hIn : Int := d.getAt w.si (Reg.ARM.H_IN a)
  let hOut : Int := d.getAt w.si (Reg.ARM.H_OUT a)
  let d := d.setArm a { d.arm a with nFf := nFf, tapRef := ref, tapErr := e, tapBand := bandOf e hIn hOut, si := w.si }
  let d := (d.setF (Reg.ARM.REF_NOW a) (r.ref w.si)).setF (Reg.ARM.V_AVG a) (d.vAvg a w.si r)
  (e, d)

/-- The step of R248: n_fb, n_tgt and the request to the lane. -/
def Dev.sampleStep (d : Dev) (a : Nat) (w : WordX) (e : Int) : Dev :=
  let x := d.arm a
  let lo := d.getAtI w.si (Reg.ARM.N_MIN a) 16
  let hi := d.getAtI w.si (Reg.ARM.N_MAX a) 16
  let nStep := d.getAt w.si (Reg.ARM.N_STEP_MAX a)
  let stepping := w.valid && d.armState a == asCLOSED && decide (x.dwellEnd ≤ w.si)
  let fb := if stepping then
      feedbackStep x w.si nStep e (d.getAt w.si (Reg.ARM.H_IN a)) (d.getAt w.si (Reg.ARM.H_OUT a)) else (0, false)
  let want := x.nFb + fb.1
  let nFb := max (lo - x.nFf) (min want (hi - x.nFf))
  let nTgt := max lo (min (x.nFf + nFb) hi)
  let fb0 := x.nFb
  let x := { x with nFb := nFb, ePrev := if w.valid then e else x.ePrev
                    steps := if fb.1 == 0 then x.steps else ((w.si, fb0) :: x.steps.filter (fun s => decide (w.si < s.1 + 256))) }
  let d := d.setArm a x
  let d := d.leaf (Reg.ARM.LEAVES a) 10 uARM (decide (nFb ≠ want))
  let d := if fb.2 then (d.count (Reg.ARM.BURSTS a) 32 1).event (0x166 + a) else d
  let runs := d.armRuns a && d.ds != dsTAKEOVER
  let dir : Int := if nTgt < x.nCmd then -1 else 1
  let gap := (nTgt - x.nCmd).natAbs
  let flags := x.tapFlags + 2 * b2n fb.2 + 32 * b2n (decide (w.si < x.dwellEnd)) +
    64 * b2n (decide (w.si < x.respEnd))
  let d := d.setArm a { x with tapFlags := flags }
  if !runs then d.armMirror a
  else if x.burst == 1 || x.burst == 2 then
    d.setArm a { x with tapFlags := flags, req := some { si := w.si, dir := dir, asked := 4, left := 4, fb0 := fb0, dFb := 0
                                                         pos := x.pos, burst := true, need := gap, rest := x.burst == 2 } }
  else if gap != 0 && x.dwellEnd ≤ w.si then
    let k := min gap nStep
    d.setArm a { x with tapFlags := flags, req := some { si := w.si, dir := dir, asked := k, left := k, fb0 := fb0
                                                         dFb := fb.1, pos := x.pos } }
  else d.armMirror a

/-- What a source of ash shows now, at a sample of its arm (spec R271, R436). -/
def Dev.ashValue (d : Dev) (code si : Nat) : Nat :=
  if code < 0x12 then d.get (Reg.CV.RESULT code)
  else if 0x200 ≤ code && code < 0x260 then
    let x := d.arm ((code - 0x200) / 16)
    match code % 16 with
    | 0 => ofSigned 32 x.tapErr
    | 1 => x.tapBand
    | 2 => ofSigned 32 x.nFf
    | 3 => ofSigned 32 x.nFb
    | 4 => ofSigned 32 x.nCmd
    | 5 => x.tapSlot
    | 6 => x.tapFlags
    | _ => ofSigned 32 x.tapRef
  else if 0x300 ≤ code && code < 0x360 then
    let a := (code - 0x300) / 16
    let l := d.lane a
    let x := d.arm a
    match code % 16 with
    | 0 => l.lastSlot
    | 1 => ofSigned 32 l.lastKey
    | 2 => ofSigned 32 x.nCmd
    | 3 => ((d.laneSlots a).filter (fun s => d.insEligible s a si false (d.bursting a))).length
    | 4 => ((d.laneSlots a).filter (fun s => d.bypEligible s a si (d.bursting a))).length
    | _ => l.q / 2 ^ 32
  else if code == 0x510 then si * 1000 % 2 ^ 32
  else d.get Reg.DAMP.LAST_SOURCE

/-- The value of an ash channel at the end of an SI's processing (spec R436): the commands started in the SI; the angle at its end;
else what the source showed before it changed at a later SI. -/
def Dev.ashAt (d : Dev) (code si : Nat) : Nat :=
  let l := d.acq.ashLog.get code []
  let angle (g : Nat) : Nat := ((l.find? (fun e => e.1 == si)).map Prod.snd).getD (d.angleAt g ((si + 1) * 1000))
  if 0x400 ≤ code && code < 0x418 then (l.filter (fun e => e.1 == si)).length
  else if code == 0x500 then angle 0
  else if code == 0x501 then angle 1
  else if l.all (fun e => decide (e.1 ≤ si)) then d.ashValue code si
  else ((l.find? (fun e => decide (e.1 ≤ si))).map Prod.snd).getD (d.ashValue code si)

/-- What the sources of an arm and its lane showed at the end of the processing of its last sample (spec R250, R436). -/
def Dev.ashSample (d : Dev) (a : Nat) : Dev :=
  let si := (d.arm a).si
  let mine (code : Nat) : Bool := (0x200 ≤ code && code < 0x260 && (code - 0x200) / 16 == a) ||
    (0x300 ≤ code && code < 0x360 && (code - 0x300) / 16 == a)
  if !d.ashRunning then d
  else (((List.range 8).map (fun c => d.get (Reg.ASH.SRC c))).filter mine).foldl (fun d k => d.ashNote k si (d.ashValue k si)) d

/-- A write of 1 to ASH_ARM (spec R437): what its sources show stands until they change. -/
def Dev.ashStart (d : Dev) : Dev :=
  let e := d.ashArm
  if d.ashRunning then e
  else (((List.range 8).map (fun c => e.get (Reg.ASH.SRC c))).filter (fun k => k < 0x400 || k == 0x600)).foldl
    (fun e k => e.ashNote k (siOf e.tt) (e.ashValue k (siOf e.tt))) e

/-- The last SI whose processing has surely ended: the trigger engine waits 300 ns after the end of an SI for all that it brings
(spec R432, log 100). -/
def Dev.siDone (d : Dev) : Nat := (d.tt - 3000) / 1000 - 1

/-- Rows of the SIs that have ended, up to `upTo` (spec R436). -/
def Dev.ashFlush (d : Dev) (upTo : Nat) : Dev :=
  if !d.ashRunning || upTo < d.acq.ashNext then d
  else
    let d := ((List.range (upTo + 1 - d.acq.ashNext)).map (fun i => d.acq.ashNext + i)).foldl (fun d si =>
      if si % max 1 (d.get Reg.ASH.DIV) == 0 then
        d.ashRow si ((List.range 8).map (fun c => d.ashAt (d.get (Reg.ASH.SRC c)) si))
      else d) d
    let later (e : Nat × Nat) : Bool := decide (upTo < e.1)
    { d with acq := { d.acq with ashNext := upTo + 1
                                 ashLog := d.acq.ashLog.map (fun e => (e.1, e.2.takeWhile later ++ (e.2.dropWhile later).take 1)) } }

/-- Rows of every SI whose processing has ended, whether or not an arm samples (spec R436). -/
def Dev.ashRows (d : Dev) : Dev := d.ashFlush d.siDone

/-- A grid angle unit is about to change: its angle at the end of the SIs that have passed stands (spec R436). -/
def Dev.ashAngle (d : Dev) (g : Nat) : Dev :=
  let d := d.ashRows
  let first := max d.acq.ashNext (((d.acq.ashLog.get (0x500 + g) []).head?.map (fun e => e.1 + 1)).getD 0)
  if !d.ashWatches (0x500 + g) then d
  else ((List.range (siOf d.tt - first)).map (fun i => first + i)).foldl
    (fun d si => d.ashNote (0x500 + g) si (d.angleAt g ((si + 1) * 1000))) d

/-! Transitions that wait for a sample (spec R255–R257, R259, R260, R270). -/

/-- The access of an ARM_CMD write completes with a status (spec R256). -/
def Dev.cmdEnd (d : Dev) (a st : Nat) : Dev :=
  let iop (w : IopWait) : IopWait := if w.arm == a && w.result.isNone then { w with result := some st } else w
  let spi (w : SpiWait) : SpiWait := if w.arm == a && w.result.isNone then { w with result := some st } else w
  Dev.ret { d with net := { d.net with wait := d.net.wait.map iop, spiWait := d.net.spiWait.map spi } } st

/-- HOLD, with the events of the watchdog where that is the cause (spec R259, R260). -/
def Dev.askHold (d : Dev) (a si cause : Nat) : Dev :=
  if !d.armRuns a then d
  else if cause == caWATCHDOG then
    if d.armState a != asOPEN then d else
    let lost := d.fbLoss a
    let d := ((d.armHold a si cause).rise (Reg.ARM.LEAVES a) 3 uARM).raiseLoop 120 a
    if lost then (d.rise (Reg.ARM.LEAVES a) 4 uARM).raiseLoop 119 a else d
  else d.armHold a si cause

/-- BLOCKED; a BLOCK commanded by ARM_CMD leaves from here (spec R255, R270). -/
def Dev.askBlock (d : Dev) (a si cause : Nat) : Dev :=
  (if cause == caSOFTWARE then d.blockPorts (d.portsOf a) else d).armBlock a si cause

/-- The status of an ARM_CMD BLOCK (`block`) or HOLD at its sample, for the arm's state before and whether a transition to BLOCKED
was due at the sample (spec R256). -/
def highStatus (st : Nat) (blocked block : Bool) : Nat :=
  if st == asBLOCKED then stSTATE
  else if block then stOK
  else if blocked then stSUPERSEDED
  else if st == asOPEN || st == asCLOSED then stOK else stSTATE

/-- The transitions to BLOCKED and HOLD at a sample: the highest happens (spec R257). -/
def Dev.asksHigh (d : Dev) (a si : Nat) : Dev :=
  let x := d.arm a
  let st := d.armState a
  let t := d.strobe a si
  let now := x.asks.filter (fun k => decide (k.from_ ≤ t) && (k.act == .block || k.act == .hold))
  if now.isEmpty then d
  else
    let d := d.setArm a { x with asks := x.asks.filter (fun k => !(decide (k.from_ ≤ t) && (k.act == .block || k.act == .hold))) }
    let blocks := now.filter (fun k => k.act == .block)
    let d := match blocks with
      | k :: _ => d.askBlock a si k.cause
      | [] => now.foldl (fun d k => d.askHold a si k.cause) d
    now.foldl (fun d k => if k.access then d.cmdEnd a (highStatus st (!blocks.isEmpty) (k.act == .block)) else d) d

/-- ARM_CMD OPEN, CLOSE or DEBLOCK, or a device's deblock, at its sample; its status (spec R256). -/
def Dev.askLow (d : Dev) (a si : Nat) (k : ArmAsk) : Nat × Dev :=
  let st := d.armState a
  if d.transAt a si 3 then (stSUPERSEDED, d)
  else match k.act with
  | .openArm =>
    if (st == asCLOSED || st == asHOLD) && d.dsIn [dsRUNNING, dsTAKEOVER] then (stOK, d.armOpen a si) else (stSTATE, d)
  | .close =>
    if st != asOPEN || d.armCause a == caTAKEOVER || (d.fbLoss a && !(d.arm a).criterion) then (stSTATE, d)
    else if d.coefPending a si then (stBUSY, d)
    else (stOK, d.armClose a si caSOFTWARE 4)
  | _ => if st == asBLOCKED && d.ds == dsRUNNING && d.armMapped a then (stOK, d.armDeblock a si k.cause) else (stSTATE, d)

/-- The transitions of lower rank at a sample, after what its word itself brought about (spec R257): the leg sum's, then
those of software and of the device. -/
def Dev.asksLow (d : Dev) (a si : Nat) : Dev :=
  let x := d.arm a
  let t := d.strobe a si
  let now := x.asks.filter (fun k => decide (k.from_ ≤ t))
  if now.isEmpty then d
  else
    let d := d.setArm a { x with asks := x.asks.filter (fun k => !decide (k.from_ ≤ t)) }
    let d := if now.any (fun k => k.act == .loss) && d.lossOpen a si then d.armLoss a si caLEGSUM else d
    (now.filter (fun k => k.act != .loss)).foldl (fun d k =>
      let r := d.askLow a si k
      if k.access then r.2.cmdEnd a r.1 else r.2) d

/-- ARM_SAMPLE: the next word of the arm's stream, in SI order. What the lane still owes the sample before comes first
(spec R250). -/
def Dev.armSample (d : Dev) (a : Nat) : Dev :=
  match (d.arm a).words with
  | [] => d
  | w :: rest =>
    let d := (d.selectAll a).ashSample a
    let d := d.setArm a { d.arm a with words := rest }
    let d := (((d.asksHigh a w.si).sampleWord a w).takeRemovals a w.si).asksLow a w.si
    let r := d.sampleCounts a w
    let d := r.2.autoClose a w.si
    (d.sampleStep a w r.1).legsumLeaf

/-! Arm commands (spec R256, R257, R259, R260): accepted ones act at the first sample whose strobe lies after now. -/

/-- A transition that software commands, or the maintenance engine, whose write no access waits for. -/
def Dev.cmdAsk (d : Dev) (a : Nat) (act : ArmAct) (access : Bool) : Dev :=
  d.ask a { act := act, cause := caSOFTWARE, from_ := d.tt + 1, access := access }

/-- The write is accepted so far. -/
def Dev.cmdOk (d : Dev) (a : Nat) (act : ArmAct) : Dev := (d.cmdAsk a act true).ret stOK

/-- ARM_CMD OPEN. -/
def Dev.armCmdOpen (d : Dev) (a : Nat) : Dev :=
  let st := d.armState a
  if (st == asCLOSED || st == asHOLD) && d.dsIn [dsRUNNING, dsTAKEOVER] then d.cmdOk a .openArm else d.ret stSTATE

/-- ARM_CMD CLOSE; the recovery criterion is that of the sample. -/
def Dev.armCmdClose (d : Dev) (a : Nat) : Dev :=
  if d.armState a != asOPEN || d.armCause a == caTAKEOVER then d.ret stSTATE
  else if d.coefWaits a then d.ret stBUSY
  else d.cmdOk a .close

/-- ARM_CMD HOLD. -/
def Dev.armCmdHold (d : Dev) (a : Nat) : Dev := if d.armRuns a then d.cmdOk a .hold else d.ret stSTATE

/-- ARM_CMD BLOCK. -/
def Dev.armCmdBlock (d : Dev) (a : Nat) : Dev := if d.armState a == asBLOCKED then d.ret stSTATE else d.cmdOk a .block

/-- ARM_CMD DEBLOCK. -/
def Dev.armCmdDeblock (d : Dev) (a : Nat) : Dev :=
  if d.armState a == asBLOCKED && d.ds == dsRUNNING && d.armMapped a then d.cmdOk a .deblock else d.ret stSTATE

/-- T_OPEN_MAX has passed in OPEN: HOLD at the next sample (spec R259, R260). -/
def Dev.armWatchdog (d : Dev) (a : Nat) : Dev :=
  let x := d.arm a
  if d.armState a == asOPEN && decide (x.openSince + d.getAt (siOf d.tt) (Reg.ARM.T_OPEN_MAX a) * 10000 ≤ d.tt) &&
      !x.asks.any (fun k => k.cause == caWATCHDOG) then
    d.ask a { act := .hold, cause := caWATCHDOG, from_ := d.tt }
  else d

/-! Frame boundaries (spec R245, R269, R279, R292, R293). -/

/-- The loop takes its reference at B(m): a STALE one keeps the last (spec R245). While the kiln is halted the frame
counts as neither fresh nor stale (spec R269). -/
def Dev.armFrame (d : Dev) (a : Nat) (iRef : F32) (stale halted : Bool) (vKiln : F32) : Dev :=
  let x := d.arm a
  let c : RefX := { rPrev := x.cur.rNew, rNew := if stale then x.cur.rNew else iRef, si0 := siOf d.frame.bn
                    ns := d.get Reg.LINK.TF, tf := d.get Reg.LINK.TF * 1000, vKiln := vKiln
                    vSum := d.getF (Reg.LANE.VCAP_SUM a), healthy := d.get (Reg.LANE.HEALTHY a) }
  let n := if halted then x.staleFrames else if stale then x.staleFrames + 1 else 0
  let d := d.setArm a { x with
    old := x.cur, cur := c, staleFrames := min n 255
    closeFrame := if x.closeFrame.isNone && x.burstDone then some (siOf d.frame.bn) else x.closeFrame }
  if halted then d
  else if stale && d.get (Reg.ARM.REF_STALE_MAX a) ≤ n then
    (if d.bit (Reg.ARM.LEAVES a) 8 then d else (d.rise (Reg.ARM.LEAVES a) 8 uARM).raiseLoop 122 a)
  else if stale then d else d.fall (Reg.ARM.LEAVES a) 8

/-- Healthy cells (spec R292). -/
def Dev.healthy (d : Dev) (s : Nat) : Bool :=
  d.cellState s == csACTIVE && !d.flag s flPROFILE_BAD && !d.flag s flFAULT && !d.flag s flEXCLUDED && !d.flag s flUNCONFIRMED

/-- Sum in slot order (spec R292). -/
def sumF (l : List F32) : F32 := l.foldl F32.add F32.zero

/-- The greatest, or least, of a list; 0.0 for none. -/
def pickF (f : F32 → F32 → F32) : List F32 → F32
  | [] => F32.zero
  | x :: xs => xs.foldl f x

/-- The aggregates of frame `n`, formed at B(n+1) (spec R292). -/
def Dev.laneAggregate (d : Dev) (a n : Nat) : Dev :=
  let slots := d.laneSlots a
  let hs := slots.filter d.healthy
  let si := siOf d.frame.bn
  let v := hs.map d.vcapEst
  let ins (st : Nat) := sumF ((hs.filter (fun s => d.cmdState s == st)).map d.vcapEst)
  let cnt (p : Nat → Bool) : Nat := (slots.filter p).length
  let floors := (slots.filter (fun s => d.cellState s == csACTIVE && !d.flag s flSEED_PENDING)).map (fun s => d.get (Reg.CELL.SW_COUNT s))
  let d0 := d
  let d := d.sets [(Reg.LANE.AGG_FRAME a, n % 2 ^ 32), (Reg.LANE.HEALTHY a, hs.length),
    (Reg.LANE.VCAP_SUM a, (sumF v).toNat), (Reg.LANE.VCAP_MIN a, (pickF F32.min v).toNat),
    (Reg.LANE.VCAP_MAX a, (pickF F32.max v).toNat), (Reg.LANE.INS_VCAP_SUM a, (F32.sub (ins swPOS) (ins swNEG)).toNat),
    (Reg.LANE.SOC_MEAN a, if hs.isEmpty then 0 else
      (F32.div (sumF (hs.map (fun s => d0.getF (Reg.CELL.SOC s)))) (F32.ofNat hs.length)).toNat),
    (Reg.LANE.TEMP_MAX a, (pickF F32.max (hs.map (fun s => d0.getF (Reg.CELL.TEMP s)))).toNat),
    (Reg.LANE.N_POS a, cnt (fun s => d0.cmdState s == swPOS && !d0.flag s flUNCONFIRMED)),
    (Reg.LANE.N_NEG a, cnt (fun s => d0.cmdState s == swNEG && !d0.flag s flUNCONFIRMED)),
    (Reg.LANE.ELIGIBLE_INS a, cnt (fun s => d0.insEligible s a si false (d0.bursting a))),
    (Reg.LANE.ELIGIBLE_BYP a, cnt (fun s => d0.bypEligible s a si (d0.bursting a)))]
  match floors with
  | [] => d
  | f :: fs => d.set (Reg.LANE.SW_FLOOR a) (fs.foldl min f)

/-- HEALTHY against its minimum (spec R293). -/
def Dev.healthyCheck (d : Dev) (a : Nat) : Dev :=
  let m := d.get (Reg.LANE.HEALTHY_MIN a)
  let need := if m == 0 then d.get (Reg.ADM.ADMIT_MIN a) else m
  let idle := !d.armMapped a || d.dsIn [dsRESET, dsKINDLING, dsCONFIGURED, dsLINKS_UP, dsBANKED]
  let low := !idle && decide (d.get (Reg.LANE.HEALTHY a) < need)
  if low && !d.bit (Reg.LANE.LEAVES a) 0 then (d.rise (Reg.LANE.LEAVES a) 0 uSTACK).raiseStack (144 + a) a none
  else d.leaf (Reg.LANE.LEAVES a) 0 uSTACK low

/-- A weight in force: a STALE or non-finite sink keeps the one before (spec R279). -/
def sinkOr (stale : Bool) (v old : F32) : F32 := if stale || !F32.isFinite v then old else v

/-- The lane starts a new ranking at B(n) (spec R279). `sink` gives value and staleness of the arm's kiln sinks W_V, W_SOC,
W_T, W_W and SOC_TARGET. -/
def Dev.laneFrame (d : Dev) (a : Nat) (sink : Nat → F32 × Bool) : Dev :=
  let l := d.lane a
  let w (i : Nat) (k : Nat) (old : F32) : F32 :=
    if d.get (Reg.LANE.WEIGHT_SRC a) == 1 then d.getF k else sinkOr (sink i).2 (sink i).1 old
  let v : KeyVals := {
    wV := w 0 (Reg.LANE.W_V a) l.vals.wV, wSoc := w 1 (Reg.LANE.W_SOC a) l.vals.wSoc, wT := w 2 (Reg.LANE.W_T a) l.vals.wT
    wW := w 3 (Reg.LANE.W_W a) l.vals.wW, socTarget := w 4 (Reg.LANE.SOC_TARGET a) l.vals.socTarget
    vNom := d.getF (Reg.LANE.V_NOM a), cEst := d.getF (Reg.LANE.C_EST a), swFloor := d.get (Reg.LANE.SW_FLOOR a) }
  d.setLane a { l with building := some v }

/-- RANKING_SWITCH: the new ranking replaces the old one for every cell at once (spec R279). -/
def Dev.rankingSwitch (d : Dev) (a : Nat) : Dev :=
  let l := d.lane a
  match l.building with
  | none => d
  | some v =>
    let d := d.setLane a { l with vals := v, building := none }
    let d := d.sets [(Reg.LANE.REKEY_TT a, d.tt), (Reg.LANE.W_V_NOW a, v.wV.toNat), (Reg.LANE.W_SOC_NOW a, v.wSoc.toNat),
      (Reg.LANE.W_T_NOW a, v.wT.toNat), (Reg.LANE.W_W_NOW a, v.wW.toNat), (Reg.LANE.SOC_TARGET_NOW a, v.socTarget.toNat)]
    (d.laneSlots a).foldl Dev.rekey d

/-! Audit and the spare lane (spec R299–R301). -/

/-- The arm that a physical lane carries. -/
def Dev.laneArm (d : Dev) (k : Nat) : Option Nat :=
  (List.range 6).find? (fun a => field (d.get Reg.SPARE.LANE_MAP) (4 * a) 4 == k)

/-- LANE_AUDIT: the audit of a lane that carries an arm, or the test pattern of the idle spare. -/
def Dev.laneAudit (d : Dev) (k : Nat) (agree : Bool) : Dev :=
  if agree then d
  else match d.laneArm k with
  | some a => (d.rise (Reg.LANE.LEAVES a) 4 uSTACK).raiseStack 153 a none
  | none => if k == 6 then d.set Reg.SPARE.FAILED_LANES (setBit (d.get Reg.SPARE.FAILED_LANES) 6) else d

/-- SPARES_LEFT (spec R301). -/
def Dev.sparesLeft (d : Dev) : Nat := b2n (d.get Reg.SPARE.SERVES == 0xFF && !d.bit Reg.SPARE.FAILED_LANES 6)

/-- L6 carries an arm from now on; the lane before it is marked failed. -/
def Dev.spareServe (d : Dev) (a : Nat) : Dev :=
  let map := d.get Reg.SPARE.LANE_MAP
  let old := field map (4 * a) 4
  let d := d.sets [(Reg.SPARE.LANE_MAP, clearBits map (15 <<< (4 * a)) ||| (6 <<< (4 * a))), (Reg.SPARE.SERVES, a),
    (Reg.SPARE.SPARE_STATE, 2), (Reg.SPARE.FAILED_LANES, setBit (d.get Reg.SPARE.FAILED_LANES) old), (Reg.LANE.PHYS_LANE a, 6)]
  { d with spare := { d.spare with arm := 0 } }

/-- SPARE_IN (spec R300). -/
def Dev.spareIn (d : Dev) (v : Nat) : Dev :=
  let a := v - 1
  let st := d.armState a
  if v == 0 || 6 < v then d.ret stRANGE
  else if d.get Reg.SPARE.SPARE_STATE == 1 then d.ret stBUSY
  else if !d.hasLease || d.get Reg.SPARE.SPARE_STATE != 0 || d.bit Reg.SPARE.FAILED_LANES 6 || !(st == asBLOCKED || st == asHOLD) then
    d.ret stSTATE
  else (Dev.set { d with spare := { d.spare with arm := v } } Reg.SPARE.SPARE_STATE 1).ret stOK

/-- L6 has built and checked its ranking, and the first arm sample after the check has come (spec R300, log 92). -/
def Dev.spareLoaded (d : Dev) (ok : Bool) : Dev :=
  let a := d.spare.arm - 1
  if d.get Reg.SPARE.SPARE_STATE != 1 then d
  else if ok then
    (((d.spareServe a).set Reg.SPARE.LAST_RESULT 1).rise Reg.STACKG.LEAVES 0 uSTACK).raiseStack 154 a none
  else
    let d := d.sets [(Reg.SPARE.SPARE_STATE, 3), (Reg.SPARE.LAST_RESULT, 2),
      (Reg.SPARE.FAILED_LANES, setBit (d.get Reg.SPARE.FAILED_LANES) 6)]
    (Dev.rise { d with spare := { d.spare with arm := 0 } } Reg.STACKG.LEAVES 1 uSTACK).raiseStack 155 a none

end Sys2Proof.Machine
end

