-- ==== Sys2Proof/Machine/Fx.lean ====
section
/-!
DEFINITION. sin, cos, atan2, exp and ln of the kiln (spec R303, R311): the exact value in fixed point of 200 fractional
bits, rounded to binary32, then moved by up to 2 units in the last place that the spec leaves open (log 31).
-/
namespace Sys2Proof.Machine

namespace Fx

/-- One, 2^200. -/
abbrev one : Int := 1606938044258990275541962092341162602522202993782792835301376

/-- 2π in units of 2^-400. -/
def twoPi : Int := 0x6487ed5110b4611a62633145c06e0e68948127044533e63a0105df531d89cd9128a5043cc71a026ef7ca8cd9e69d218d98158

/-- π in units of 2^-200. -/
def pi : Int := twoPi / 2 ^ 201

/-- ln 2 in units of 2^-200. -/
def ln2 : Int := 0xb17217f7d1cf79abc9e3b39803f2f6af40f343267298b62d8a

/-- Products and quotients in units of 2^-200. -/
def mul (x y : Int) : Int := x * y / one
def div (x y : Int) : Int := if y == 0 then 0 else x * one / y

/-- A finite value in units of 2^-k. -/
def ofF (k : Nat) (x : F32) : Int :=
  let e := F32.qexp x + k
  if 0 ≤ e then F32.smant x * 2 ^ e.toNat else F32.smant x / 2 ^ (-e).toNat

/-- A series: from a term and the number of the next one on, each next term is `f` of the term before. -/
def series (f : Nat → Int → Int) : Nat → Nat → Int → Int → Int
  | 0, _, _, s => s
  | n + 1, i, t, s => series f n (i + 1) (f i t) (s + f i t)

/-- sin and cos of an angle below 2π. -/
def sin (r : Int) : Int :=
  let q := mul r r
  series (fun i t => -(mul t q) / ((2 * i) * (2 * i + 1) : Nat)) 60 1 r r

def cos (r : Int) : Int :=
  let q := mul r r
  series (fun i t => -(mul t q) / ((2 * i - 1) * (2 * i) : Nat)) 60 1 one one

/-- An angle in radians, taken into one turn. -/
def turn (x : F32) : Int := (ofF 400 x % twoPi) / one

/-- e^r for a small r. -/
def exp (r : Int) : Int := series (fun i t => mul t r / (i : Int)) 60 1 one one

/-- The sum of z^(2i+1)/(2i+1) with sign: atanh for sg = 1, atan for sg = -1. -/
def odd (sg : Int) (z : Int) : Int :=
  let q := mul z z
  ((List.range 50).foldl (fun (p : Int × Int) i => (sg * mul p.1 q, p.2 + p.1 / ((2 * i + 1 : Nat) : Int))) (z, 0)).2

/-- Half the angle of a tangent: t / (1 + √(1 + t²)). -/
def halve (t : Int) : Int := div t (one + (F32.isqrtAux 204 ((one + mul t t) * one).toNat 0 : Nat))

/-- The angle of a tangent between 0 and 1. -/
def atan (t : Int) : Int := 4 * odd (-1) (halve (halve t))

end Fx

/-- A value moved by `n` units in the last place. -/
def ulpMove (x : F32) (n : Int) : F32 :=
  if !F32.isFinite x then x
  else
    let k := F32.okey x + n
    F32.flush (BitVec.ofNat 32 ((if k < 0 then 2 ^ 31 else 0) + k.natAbs))

/-- A result known within 2 units in the last place. -/
def ulpOpen (fn : Nat) (a b v : F32) : F32 := ulpMove v ((Config.ulp fn a b).toNat % 5 - 2)

/-- The binary32 value nearest v·2^-200. -/
def fxRound (v : Int) : F32 := F32.flush (F32.ofScaled v (-200))

def kSin (x : F32) : F32 := if F32.isFinite x then ulpOpen 0 x x (fxRound (Fx.sin (Fx.turn x))) else F32.nan
def kCos (x : F32) : F32 := if F32.isFinite x then ulpOpen 1 x x (fxRound (Fx.cos (Fx.turn x))) else F32.nan

/-- atan2(a, b) in (−π, π]; the spec does not state atan2(0, 0). -/
def kAtan2 (a b : F32) : F32 :=
  if !F32.isFinite a || !F32.isFinite b then F32.nan
  else if F32.isZero a && F32.isZero b then
    let v := Config.atan2Zero a b
    let p : F32 := 0x40490FDB#32
    if F32.isFinite v then F32.max (F32.neg p) (F32.min v p) else F32.zero
  else
    let y : Int := (Fx.ofF 400 a).natAbs
    let x : Int := (Fx.ofF 400 b).natAbs
    let r := if y ≤ x then Fx.atan (Fx.div y x) else Fx.pi / 2 - Fx.atan (Fx.div x y)
    let r := if F32.sign b && !F32.isZero b then Fx.pi - r else r
    ulpOpen 2 a b (fxRound (if F32.sign a && !F32.isZero a then -r else r))

def kExp (x : F32) : F32 :=
  if F32.isNaN x then F32.nan
  else if F32.le 0x42B40000#32 x then F32.inf false
  else if F32.le x 0xC2D20000#32 then F32.zero
  else
    let v := Fx.ofF 200 x
    let k := v / Fx.ln2
    ulpOpen 3 x x (F32.flush (F32.ofScaled (Fx.exp (v - k * Fx.ln2)) (k - 200)))

/-- ln a; not finite for 0 and below. -/
def kLog (x : F32) : F32 :=
  if F32.isNaN x || (F32.sign x && !F32.isZero x) then F32.nan
  else if F32.isZero x then F32.inf true
  else if F32.isInf x then x
  else
    let n : Nat := Nat.log2 (F32.mant x)
    let m : Int := (F32.mant x : Int) * 2 ^ (200 - n)
    let e : Int := F32.qexp x + (n : Int)
    let big := decide (3 * Fx.one < 2 * m)
    let m := if big then m / 2 else m
    let e := if big then e + 1 else e
    ulpOpen 4 x x (fxRound (2 * Fx.odd 1 (Fx.div (m - Fx.one) (m + Fx.one)) + e * Fx.ln2))

end Sys2Proof.Machine
end

