-- ==== Sys2Proof/Machine/KilnOps.lean ====
section
/-!
DEFINITION. The opcode catalogue of the kiln (spec R302–R311, R322–R326): what one execution of a node computes. Each
elementary operation of a formula rounds to nearest even and takes subnormals as zero (log 30).
-/
namespace Sys2Proof.Machine

namespace Kf

def add (x y : F32) : F32 := F32.flush (F32.add (F32.flush x) (F32.flush y))
def sub (x y : F32) : F32 := F32.flush (F32.sub (F32.flush x) (F32.flush y))
def mul (x y : F32) : F32 := F32.flush (F32.mul (F32.flush x) (F32.flush y))
def div (x y : F32) : F32 := F32.flush (F32.div (F32.flush x) (F32.flush y))
def fma (x y z : F32) : F32 := F32.flush (F32.fma (F32.flush x) (F32.flush y) (F32.flush z))
def sqrt (x : F32) : F32 := F32.flush (F32.sqrt (F32.flush x))

/-- √(a² + b²), rounded once (spec R303). -/
def mag (a b : F32) : F32 :=
  let a := F32.flush a
  let b := F32.flush b
  if F32.isInf a || F32.isInf b then F32.inf false
  else if F32.isNaN a || F32.isNaN b then F32.nan
  else
    let s := F32.addDyadic (F32.mant a ^ 2 : Nat) (2 * F32.qexp a) (F32.mant b ^ 2 : Nat) (2 * F32.qexp b)
    if s.1 == 0 then F32.zero
    else
      let e := s.2 - 64
      let m : Nat := if e % 2 == 0 then s.1.natAbs * 2 ^ 64 else s.1.natAbs * 2 ^ 65
      let e := if e % 2 == 0 then e else e - 1
      let r := F32.isqrtAux (Nat.log2 m / 2 + 2) m 0
      F32.flush (F32.round false (2 * r + (if r * r == m then 0 else 1)) (e / 2 - 1))

def clamp (x lo hi : F32) : F32 := F32.min (F32.max x lo) hi

/-- The greatest integer at or below x. -/
def floor (x : F32) : F32 := if F32.isFinite x then F32.ofInt (F32.floor (F32.flush x)) else x

/-- A value counts as true when it is at least 0.5 (spec R305). -/
def isTrue (x : F32) : Bool := F32.le F32.half x

def logic (b : Bool) : F32 := if b then F32.one else F32.zero

/-- √3 as binary32. -/
def root3 : F32 := 0x3FDDB3D7#32

def gt (x y : F32) : Bool := F32.lt y x

end Kf

/-- What one execution gives: outputs, new state, SAT. -/
structure OpRes where
  o0 : F32 := 0
  o1 : F32 := 0
  s : List F32 := []
  sat : Bool := false
deriving DecidableEq, Repr

/-- What one execution takes: inputs with whether they are connected, coefficients, state, T, the gate (true CLOSED) with
its GATE_MODE and whether this execution re-initializes, SAT so far, and the table of a LOOKUP. -/
structure OpIn where
  ins : List (Bool × F32) := []
  k : List F32 := []
  s : List F32 := []
  t : F32 := 0
  closed : Bool := false
  preset : Bool := false
  reinit : Bool := false
  sat : Bool := false
  x0 : F32 := 0
  dx : F32 := 0
  points : List F32 := []
deriving DecidableEq, Repr

def OpIn.arg (x : OpIn) (i : Nat) : F32 := F32.flush ((x.ins.getD i (false, F32.zero)).2)
/-- Coefficients and state are operands too: a subnormal one is taken as zero (spec R303). -/
def OpIn.kc (x : OpIn) (i : Nat) : F32 := F32.flush (x.k.getD i F32.zero)
def OpIn.st (x : OpIn) (i : Nat) : F32 := F32.flush (x.s.getD i F32.zero)

/-- The connected inputs, in order. -/
def OpIn.conn (x : OpIn) : List F32 := (x.ins.filter Prod.fst).map (fun e => F32.flush e.2)

/-- Fold from the left over the connected inputs. -/
def OpIn.fold (x : OpIn) (f : F32 → F32 → F32) : F32 :=
  match x.conn with
  | [] => F32.zero
  | v :: vs => vs.foldl f v

def OpRes.one (v : F32) (s : List F32) : OpRes := { o0 := v, s := s }

/-- SAT of a loop (spec R322): 1 where i or u is limited, 0 where neither is and u lies strictly between the limits. -/
def loopSat (old : Bool) (lo hi iRaw uRaw : F32) : Bool :=
  let out (v : F32) := F32.lt v lo || F32.lt hi v
  if out iRaw || out uRaw then true
  else if F32.lt lo uRaw && F32.lt uRaw hi then false
  else old

/-- PI and PID (spec R322, R323, R326). -/
def loopNode (pid : Bool) (x : OpIn) : OpRes :=
  let e := Kf.sub (x.arg 0) (x.arg 1)
  let lo := x.kc 2
  let hi := x.kc 3
  let c := x.arg 2
  if !x.closed then
    if x.preset then { o0 := x.kc 4, o1 := Kf.logic x.sat, s := [x.st 0, x.kc 4, x.st 2, x.st 3], sat := x.sat }
    else { o0 := x.st 1, o1 := Kf.logic x.sat, s := x.s, sat := x.sat }
  else
    let s2 := if !pid then x.st 2 else if x.reinit then F32.zero else
      Kf.div (Kf.add (Kf.mul (x.kc 6) (x.st 2)) (Kf.mul (x.kc 5) (Kf.sub (x.st 3) (x.arg 1)))) (Kf.add (x.kc 6) x.t)
    let s3 := if pid then x.arg 1 else x.st 3
    let iRaw := if x.reinit then
        let v := Kf.sub (Kf.sub (x.st 1) (Kf.mul (x.kc 0) e)) c
        if pid then Kf.sub v s2 else v
      else Kf.add (x.st 0) (Kf.mul (Kf.mul (x.kc 1) x.t) e)
    let i := Kf.clamp iRaw lo hi
    let p := Kf.add (Kf.mul (x.kc 0) e) i
    let uRaw := Kf.add (if pid then Kf.add p s2 else p) c
    let u := Kf.clamp uRaw lo hi
    let sat := loopSat x.sat lo hi iRaw uRaw
    { o0 := u, o1 := Kf.logic sat, s := [i, u, s2, s3], sat := sat }

/-- LOOKUP (spec R311, R339). -/
def lookupNode (x : OpIn) : F32 :=
  let n := x.points.length
  let p := Kf.clamp (Kf.div (Kf.sub (x.arg 0) x.x0) x.dx) F32.zero (F32.ofNat (n - 1))
  if !F32.isFinite p then F32.nan
  else
    let i := min (F32.floor p).toNat (n - 2)
    let y (j : Nat) : F32 := x.points.getD j F32.zero
    Kf.add (y i) (Kf.mul (Kf.sub p (F32.ofNat i)) (Kf.sub (y (i + 1)) (y i)))

/-- One execution (spec R311). -/
def evalOp (op : Nat) (x : OpIn) : OpRes :=
  let a := x.arg 0
  let b := x.arg 1
  let c := x.arg 2
  let d := x.arg 3
  let k := x.kc
  let s0 := x.st 0
  let s1 := x.st 1
  let keep (v : F32) : OpRes := .one v x.s
  let store (v : F32) (n0 : F32) : OpRes := { o0 := v, s := [n0, s1, x.st 2, x.st 3] }
  match op with
  | 0x01 => keep a
  | 0x02 => keep (k 0)
  | 0x03 => keep (x.fold Kf.add)
  | 0x04 => keep (Kf.sub a b)
  | 0x05 => keep (Kf.mul a b)
  | 0x06 => keep (Kf.fma a b c)
  | 0x07 => keep (Kf.div a b)
  | 0x08 => keep (Kf.fma (k 0) a (k 1))
  | 0x09 => keep (F32.abs a)
  | 0x0A => keep (x.fold F32.min)
  | 0x0B => keep (x.fold F32.max)
  | 0x0C => keep (Kf.sqrt a)
  | 0x0D => keep (Kf.mag a b)
  | 0x0E => keep (if F32.isZero a then F32.zero else if F32.sign a then F32.neg F32.one else F32.one)
  | 0x0F => keep (Kf.floor a)
  | 0x10 => { o0 := kSin a, o1 := kCos a, s := x.s }
  | 0x11 => keep (kAtan2 a b)
  | 0x12 => keep (kExp a)
  | 0x13 => keep (kLog a)
  | 0x14 => keep (Kf.sub a (Kf.mul (k 1) (Kf.floor (Kf.div (Kf.sub a (k 0)) (k 1)))))
  | 0x15 => { o0 := Kf.div (Kf.sub (Kf.sub (Kf.mul (F32.ofNat 2) a) b) c) (F32.ofNat 3)
              o1 := Kf.div (Kf.sub b c) Kf.root3, s := x.s }
  | 0x16 => { o0 := Kf.add (Kf.mul a (kCos c)) (Kf.mul b (kSin c))
              o1 := Kf.add (Kf.mul (F32.neg a) (kSin c)) (Kf.mul b (kCos c)), s := x.s }
  | 0x17 => { o0 := Kf.sub (Kf.mul a (kCos c)) (Kf.mul b (kSin c))
              o1 := Kf.add (Kf.mul a (kSin c)) (Kf.mul b (kCos c)), s := x.s }
  | 0x18 => loopNode false x
  | 0x19 => loopNode true x
  | 0x1A =>
    let n := if Kf.isTrue d then k 3 else Kf.clamp (Kf.add s0 (Kf.mul (Kf.mul (k 0) a) x.t)) (k 1) (k 2)
    let lim := F32.le n (k 1) || F32.le (k 2) n
    { o0 := n, o1 := Kf.logic lim, s := [n, s1, x.st 2, x.st 3], sat := lim }
  | 0x1B =>
    let n := Kf.add s0 (Kf.div (Kf.mul (Kf.sub a s0) x.t) (Kf.add (k 0) x.t))
    store n n
  | 0x1C =>
    let o := Kf.add (Kf.mul (k 0) a) s0
    { o0 := o, s := [Kf.add (Kf.sub (Kf.mul (k 1) a) (Kf.mul (k 3) o)) s1, Kf.sub (Kf.mul (k 2) a) (Kf.mul (k 4) o), x.st 2, x.st 3] }
  | 0x1D => store (Kf.div (Kf.sub a s0) x.t) a
  | 0x1E => store s0 a
  | 0x1F =>
    let n := if Kf.isTrue b then a else s0
    store n n
  | 0x20 =>
    let n := Kf.add s0 (Kf.clamp (Kf.sub a s0) (Kf.mul (F32.neg (k 1)) x.t) (Kf.mul (k 0) x.t))
    store n n
  | 0x21 =>
    let c1 := Kf.div (Kf.mul (F32.ofNat 2) (k 1)) x.t
    let c2 := Kf.div (Kf.mul (F32.ofNat 2) (k 2)) x.t
    let num := Kf.sub (Kf.mul (k 0) (Kf.add (Kf.mul (Kf.add F32.one c1) a) (Kf.mul (Kf.sub F32.one c1) s0)))
      (Kf.mul (Kf.sub F32.one c2) s1)
    let o := Kf.div num (Kf.add F32.one c2)
    { o0 := o, s := [a, o, x.st 2, x.st 3] }
  | 0x22 =>
    let lim := F32.lt a (k 0) || F32.lt (k 1) a
    { o0 := Kf.clamp a (k 0) (k 1), o1 := Kf.logic lim, s := x.s, sat := lim }
  | 0x23 => keep (if F32.le (F32.abs a) (k 0) then F32.zero
      else Kf.sub a (if F32.sign a then F32.neg (k 0) else k 0))
  | 0x24 =>
    let o := if Kf.gt a (k 1) then F32.one else if F32.lt a (k 0) then F32.zero else s0
    store o o
  | 0x25 => { o0 := Kf.logic (Kf.gt (Kf.sub a b) (k 0)), o1 := Kf.logic (F32.lt (Kf.sub a b) (F32.neg (k 0))), s := x.s }
  | 0x26 => keep (if Kf.isTrue a then b else c)
  | 0x27 => keep (Kf.logic (x.conn.all Kf.isTrue))
  | 0x28 => keep (Kf.logic (x.conn.any Kf.isTrue))
  | 0x29 => keep (Kf.logic ((x.conn.filter Kf.isTrue).length % 2 == 1))
  | 0x2A => keep (Kf.logic (!Kf.isTrue a))
  | 0x2B =>
    let n := if Kf.isTrue b then F32.zero else if Kf.isTrue a then F32.one else s0
    store n n
  | 0x2C => { o0 := Kf.logic (Kf.isTrue a && !Kf.isTrue s0), o1 := Kf.logic (!Kf.isTrue a && Kf.isTrue s0)
              s := [Kf.logic (Kf.isTrue a), s1, x.st 2, x.st 3] }
  | 0x2D =>
    let n := if Kf.isTrue a then Kf.add s0 x.t else F32.zero
    { o0 := Kf.logic (F32.le (k 0) n), o1 := n, s := [n, s1, x.st 2, x.st 3] }
  | 0x2E => keep (lookupNode x)
  | 0x2F => keep (Kf.add (Kf.mul (Kf.add (Kf.mul (Kf.add (Kf.mul (k 3) a) (k 2)) a) (k 1)) a) (k 0))
  | 0x30 => keep (((x.ins.zip [k 0, k 1, k 2, k 3]).filter (fun e => e.1.1)).foldl
      (fun (r : Option F32) e => some (match r with
        | none => Kf.mul e.2 e.1.2
        | some v => Kf.add v (Kf.mul e.2 e.1.2))) none |>.getD F32.zero)
  | _ => keep F32.zero

/-- Required inputs, inputs in all, and outputs of an opcode (spec R311); none for a reserved code. `d` of INTEG is
input 3 with 1 and 2 unlisted. -/
def opShape (op : Nat) : Option (List Nat × List Nat × Nat) :=
  let r (need all outs : Nat) : Option (List Nat × List Nat × Nat) := some (List.range need, List.range all, outs)
  match op with
  | 0x01 => r 1 1 1
  | 0x02 => r 0 0 1
  | 0x03 => r 1 4 1
  | 0x04 => r 2 2 1
  | 0x05 => r 2 2 1
  | 0x06 => r 3 3 1
  | 0x07 => r 2 2 1
  | 0x08 => r 1 1 1
  | 0x09 => r 1 1 1
  | 0x0A => r 1 4 1
  | 0x0B => r 1 4 1
  | 0x0C => r 1 1 1
  | 0x0D => r 2 2 1
  | 0x0E => r 1 1 1
  | 0x0F => r 1 1 1
  | 0x10 => r 1 1 2
  | 0x11 => r 2 2 1
  | 0x12 => r 1 1 1
  | 0x13 => r 1 1 1
  | 0x14 => r 1 1 1
  | 0x15 => r 3 3 2
  | 0x16 => r 3 3 2
  | 0x17 => r 3 3 2
  | 0x18 => r 2 3 2
  | 0x19 => r 2 3 2
  | 0x1A => some ([0], [0, 3], 2)
  | 0x1B => r 1 1 1
  | 0x1C => r 1 1 1
  | 0x1D => r 1 1 1
  | 0x1E => r 1 1 1
  | 0x1F => r 2 2 1
  | 0x20 => r 1 1 1
  | 0x21 => r 1 1 1
  | 0x22 => r 1 1 2
  | 0x23 => r 1 1 1
  | 0x24 => r 1 1 1
  | 0x25 => r 2 2 2
  | 0x26 => r 3 3 1
  | 0x27 => r 1 4 1
  | 0x28 => r 1 4 1
  | 0x29 => r 1 4 1
  | 0x2A => r 1 1 1
  | 0x2B => r 2 2 1
  | 0x2C => r 1 1 2
  | 0x2D => r 1 1 2
  | 0x2E => r 1 1 1
  | 0x2F => r 1 1 1
  | 0x30 => r 1 4 1
  | _ => none

end Sys2Proof.Machine
end

