-- ==== Sys2Proof/Machine/Kiln.lean ====
section
/-!
DEFINITION. The kiln: graph, periods, scheduler, cores, sinks, trace and statistics (spec R302–R340).
-/
namespace Sys2Proof.Machine

/-- States of a node in a period (spec R320). -/
abbrev npNONE : Nat := 0
abbrev npWAITING : Nat := 1
abbrev npREADY : Nat := 2
abbrev npGRANTED : Nat := 3
abbrev npDUP_READY : Nat := 4
abbrev npDUP_GRANTED : Nat := 5
abbrev npCOMPLETE : Nat := 6
abbrev npCANCELLED : Nat := 7
abbrev npMISMATCHED : Nat := 8

/-- Core states (spec R331). -/
abbrev kcACTIVE : Nat := 0
abbrev kcSPARE : Nat := 1
abbrev kcRETIRED : Nat := 2
abbrev kcTESTING : Nat := 3

/-- Gate states of STATUS (spec R310). -/
abbrev gtNONE : Nat := 0
abbrev gtOPEN : Nat := 1
abbrev gtCLOSED : Nat := 2
abbrev gtCHANGING : Nat := 3

/-- Fields of DESC (spec R310). -/
def descOp (v : Nat) : Nat := field v 26 6
def descRg (v : Nat) : Nat := field v 24 2
def descGate (v : Nat) : Bool := v.testBit 23
def descPreset (v : Nat) : Bool := v.testBit 22
def descStaleStop (v : Nat) : Bool := v.testBit 21
def isLoopOp (op : Nat) : Bool := op == 0x18 || op == 0x19

def NodeX.op (x : NodeX) : Nat := descOp x.desc
def NodeX.rg (x : NodeX) : Nat := descRg x.desc
def NodeX.ended (x : NodeX) : Bool := decide (npCOMPLETE ≤ x.phase)

def Dev.setKiln (d : Dev) (x : KilnX) : Dev := { d with kiln := x }
def Dev.node (d : Dev) (n : Nat) : NodeX := d.kiln.nodes.get n {}
def Dev.setNode (d : Dev) (n : Nat) (x : NodeX) : Dev := d.setKiln { d.kiln with nodes := d.kiln.nodes.put n x }
def Dev.rgx (d : Dev) (k : Nat) : RgX := d.kiln.rgs.get k {}
def Dev.setRgx (d : Dev) (k : Nat) (x : RgX) : Dev := d.setKiln { d.kiln with rgs := d.kiln.rgs.put k x }
def Dev.kcore (d : Dev) (c : Nat) : KCoreX := d.kiln.cores.get c {}
def Dev.setKcore (d : Dev) (c : Nat) (x : KCoreX) : Dev := d.setKiln { d.kiln with cores := d.kiln.cores.put c x }

/-- Nodes of a rate group in force, by rising number. -/
def Dev.rgNodes (d : Dev) (k : Nat) : List Nat := (d.kiln.nodes.filter (fun e => e.2.rg == k)).map Prod.fst

/-- STATUS bits of a node (spec R310). -/
def Dev.nodeGate (d : Dev) (n : Nat) : Nat := field (d.get (Reg.NODE.STATUS n)) 8 2
def Dev.setNodeGate (d : Dev) (n g : Nat) : Dev :=
  d.set (Reg.NODE.STATUS n) (clearBits (d.get (Reg.NODE.STATUS n)) 0x300 ||| (g <<< 8))

/-- How the node's last period ended: DONE, CANCELLED, NONFINITE and MISMATCH. -/
def Dev.nodeResult (d : Dev) (n bits : Nat) : Dev :=
  d.set (Reg.NODE.STATUS n) (clearBits (d.get (Reg.NODE.STATUS n)) 0x71 ||| bits)

/-- COEF_PENDING: a coefficient shadow waits (spec R310). -/
def Dev.nodeCoefPending (d : Dev) (n : Nat) : Bool := (List.range 8).any (fun i => (Tab.find d.shadow (Reg.NODE.K n i)).isSome)

/-- Keys of the structural fields (spec R328). -/
def isStructKey (k : Nat) : Bool :=
  let idx := k / 256
  let sub := k % 256
  (decide (0x3000 ≤ idx) && decide (idx ≤ 0x3FFF) && decide (1 ≤ sub) && decide (sub ≤ 6)) ||
  (idx == 0x2910 && decide (1 ≤ sub)) ||
  (decide (0x2901 ≤ idx) && decide (idx ≤ 0x2904) && decide (1 ≤ sub) && decide (sub ≤ 3))

/-- STRUCT_PENDING (spec R328). -/
def Dev.structPending (d : Dev) : Bool := d.shadow.any (fun e => isStructKey e.1)

/-! Scheduling trace (spec R334, R335). -/

/-- A record of the trace, as a number. -/
def traceWord (ty tt core node rg wait : Nat) : Nat :=
  ty * 2 ^ 61 + field tt 4 25 * 2 ^ 36 + core * 2 ^ 31 + node * 2 ^ 19 + rg * 2 ^ 17 + min wait 0x1FFFF

/-- A record reaches the trace port: the ring takes it unless its type or group is masked, recording has stopped, or the
buffer of 64 is full (spec R334). -/
def Dev.trace (d : Dev) (ty core node rg wait : Nat) : Dev :=
  let keep := d.on Reg.TRACE.ENABLE && !d.on Reg.TRACE.STOPPED && d.bit Reg.TRACE.TYPE_MASK ty &&
    (ty == 6 || d.bit Reg.TRACE.RG_MASK rg)
  if !keep then d
  else if d.now + 630 < d.kiln.traceFree then d.count Reg.TRACE.DROPPED 32 1
  else
    let i := d.get Reg.TRACE.WR_INDEX
    let d := d.memWrite (Mem.trace + 8 * i) (leBytes 8 (traceWord ty d.tt core node rg wait))
    let d := d.setKiln { d.kiln with traceFree := max d.kiln.traceFree d.now + 10 }
    let d := d.set Reg.TRACE.WR_INDEX ((i + 1) % 32768)
    let d := if i + 1 == 32768 then d.set Reg.TRACE.WRAPPED 1 else d
    let d := if i + 1 == 32768 && d.get Reg.TRACE.STOP_MODE == 1 then d.set Reg.TRACE.STOPPED 1 else d
    match d.kiln.tracePost with
    | some (k + 1) =>
      let d := d.setKiln { d.kiln with tracePost := if k == 0 then none else some k }
      if k == 0 then d.set Reg.TRACE.STOPPED 1 else d
    | _ => d

/-- The acquisition trigger resolves: in STOP_MODE 2 the trace records POST records more (spec R335). -/
def Dev.traceTrigger (d : Dev) : Dev :=
  if d.get Reg.TRACE.STOP_MODE == 2 && d.on Reg.TRACE.ENABLE && !d.on Reg.TRACE.STOPPED && d.kiln.tracePost.isNone then
    let p := d.get Reg.TRACE.POST
    if p == 0 then d.set Reg.TRACE.STOPPED 1 else d.setKiln { d.kiln with tracePost := some p }
  else d

/-- TRACE_RESTART (spec R335). -/
def Dev.traceRestart (d : Dev) : Dev :=
  let d := d.sets [(Reg.TRACE.WR_INDEX, 0), (Reg.TRACE.WRAPPED, 0), (Reg.TRACE.STOPPED, 0)]
  (d.setKiln { d.kiln with tracePost := none }).ret stOK

/-! References (spec R309, R313, R314). -/

def refKind (r : Nat) : Nat := r / 2 ^ 13
def refWhich (r : Nat) : Nat := r % 2 ^ 13

/-- 100 ps as seconds. -/
def seconds (t : Nat) : F32 := F32.ofRat ((t : Rat) / 10000000000)

/-- Length of a frame in 100 ps. -/
def Dev.tf (d : Dev) : Nat := d.get Reg.LINK.TF * 1000

def openTap (b : Bool) : F32 := if b then F32.one else F32.zero

/-- VALUE of a converter from its latest VALID word with a strobe at or before B(n): both members of a pair give the pair's
(spec R17, R313). -/
def Dev.tapCv (d : Dev) (k : Nat) : F32 × Bool :=
  let l (j : Nat) : Option Nat := (d.cv j).bAt
  let j := if isPair k then
      (match l (chanOf k), l (chanOf k + 1) with
      | some a, some b => if a < b then chanOf k + 1 else chanOf k
      | none, some _ => chanOf k + 1
      | _, _ => chanOf k)
    else k
  let fresh := match l j with
    | some t => decide (d.frame.bn ≤ t + 2 * d.tf)
    | none => false
  ((d.cv j).bVal, !fresh)

/-- Mean current of an arm over the frame that ended (spec R313). -/
def Dev.tapMean (d : Dev) (a : Nat) : F32 × Bool :=
  let x := d.arm a
  if x.oldN == 0 then (F32.zero, true)
  else
    let s := d.getF (Reg.CV.SCALE (2 * a))
    let b := d.getF (Reg.CV.BIAS (2 * a))
    (F32.ofRat (F32.toRat s * ((x.oldSum : Rat) / (x.oldN : Rat)) + F32.toRat b), false)

/-- A tap of the snapshot at B(n) (spec R313). -/
def Dev.tap (d : Dev) (t : Nat) : F32 × Bool :=
  let n := d.frame.n
  let nat (v : Nat) : F32 := F32.ofNat v
  if t ≤ 0x11 then d.tapCv t
  else if 0x18 ≤ t && t ≤ 0x1D then d.tapMean (t - 0x18)
  else if 0x20 ≤ t && t < 0x80 then
    let a := (t - 0x20) / 16
    let stale := n == 0 || d.get (Reg.LANE.AGG_FRAME a) != (n - 1) % 2 ^ 32
    let v := match t % 16 with
      | 0 => nat (d.get (Reg.LANE.HEALTHY a))
      | 1 => d.getF (Reg.LANE.VCAP_SUM a)
      | 2 => d.getF (Reg.LANE.VCAP_MIN a)
      | 3 => d.getF (Reg.LANE.VCAP_MAX a)
      | 4 => d.getF (Reg.LANE.INS_VCAP_SUM a)
      | 5 => d.getF (Reg.LANE.SOC_MEAN a)
      | 6 => d.getF (Reg.LANE.TEMP_MAX a)
      | 7 => nat (d.get (Reg.LANE.N_POS a))
      | 8 => nat (d.get (Reg.LANE.N_NEG a))
      | 9 => nat (d.get (Reg.LANE.ELIGIBLE_INS a))
      | _ => nat (d.get (Reg.LANE.ELIGIBLE_BYP a))
    (v, stale)
  else if 0x80 ≤ t && t < 0xB0 then
    let a := (t - 0x80) / 8
    (match t % 8 with
      | 0 => nat (d.get (Reg.ARM.STATE a))
      | 1 => F32.ofInt (d.getI (Reg.ARM.N_CMD a) 16)
      | 2 => F32.ofInt (d.getI (Reg.ARM.N_FF a) 16)
      | 3 => F32.ofInt (d.getI (Reg.ARM.N_FB a) 16)
      | 4 => openTap (d.bit (Reg.ARM.LEAVES a) 10)
      | _ => d.getF (Reg.ARM.V_AVG a), false)
  else if 0xC0 ≤ t && t < 0xD0 then
    let g := (t - 0xC0) / 8
    let off := !d.on (Reg.GAU.ENABLE g)
    (match t % 8 with
      | 0 => (F32.ofRat (((d.gau g).bAngle : Rat) * ((Fx.twoPi : Rat) / (Fx.one * Fx.one : Int)) / 4294967296), off || !d.gs g gsANGLE_VALID)
      | 1 => (nat (((d.gau g).bCycles % 16777216).toNat), off || !d.gs g gsANGLE_VALID)
      | 2 => ((d.gau g).bFreq, off || !d.gs g gsFREQ_VALID)
      | 3 => (openTap (d.gs g gsANGLE_VALID), off)
      | 4 => (openTap (d.gs g gsFREQ_VALID), off)
      | _ => (openTap (d.gs g gsDIR), off))
  else if t == 0xE0 then (seconds d.tf, false)
  else if 0xE1 ≤ t && t ≤ 0xE4 then (seconds ((d.rgx (t - 0xE1)).mult * d.tf), false)
  else if t == 0xE5 then (F32.ofRat ((d.stSub d.frame.bn : Rat) / 10000000000), false)
  else if t == 0xE6 then (nat (n % 16777216), false)
  else if t == 0xE7 then (openTap (d.get Reg.SERVO.STATE == 3), false)
  else if t == 0xF0 then (nat d.ds, false)
  else (nat (d.get Reg.STN.IN_LEVEL), false)

/-- Whether a tap number lies in the table (spec R313). -/
def isTap (t : Nat) : Bool :=
  decide (t ≤ 0x11) || (decide (0x18 ≤ t) && decide (t ≤ 0x1D)) ||
  (decide (0x20 ≤ t) && decide (t < 0x80) && decide (t % 16 ≤ 10)) ||
  (decide (0x80 ≤ t) && decide (t < 0xB0) && decide (t % 8 ≤ 5)) ||
  (decide (0xC0 ≤ t) && decide (t < 0xD0) && decide (t % 8 ≤ 5)) ||
  (decide (0xE0 ≤ t) && decide (t ≤ 0xE7)) || t == 0xF0 || t == 0xF1

def Dev.param (d : Dev) (p : Nat) : F32 := d.getF (Reg.PARAM.PARAM (p / 128) (p % 128))

/-- What a reference reads outside a dependency edge: value and STALE mark (spec R306, R307). -/
def Dev.refValue (d : Dev) (r : Nat) : F32 × Bool :=
  let w := refWhich r
  match refKind r with
  | 1 => (d.getF (if w % 2 == 0 then Reg.NODE.OUT0 (w / 2) else Reg.NODE.OUT1 (w / 2)), d.bit (Reg.NODE.STATUS (w / 2)) (1 + w % 2))
  | 2 => d.tap w
  | 3 => (d.param w, false)
  | _ => (F32.zero, false)

/-! Sinks (spec R314–R316). -/

/-- Value and STALE mark of a sink, as the consumers take it. -/
def Dev.sinkStale (d : Dev) (s : Nat) : Bool :=
  if s < 64 then d.bit Reg.SINKSTALE.STALE_LO s else d.bit Reg.SINKSTALE.STALE_HI (s - 64)

def Dev.sink (d : Dev) (s : Nat) : F32 × Bool := (d.getF (Reg.SINKVAL.SINK_VALUE s), d.sinkStale s)

def Dev.setSinkStale (d : Dev) (s : Nat) (v : Bool) : Dev :=
  let k := if s < 64 then Reg.SINKSTALE.STALE_LO else Reg.SINKSTALE.STALE_HI
  d.set k (putBit (d.get k) (s % 64) v)

/-- What a sink holds unconnected and at kiln start (spec R315). -/
def sinkIdle (s : Nat) : F32 := if s < 42 && s % 7 == 6 then F32.half else F32.zero

/-- The rate group that feeds a sink (spec R314). -/
def Dev.sinkRg (d : Dev) (r : Nat) : Nat := if refKind r == 1 then (d.node (refWhich r / 2)).rg else 0

/-! Nodes in a period (spec R306, R307, R319, R320). -/

/-- The dependency edges into a node: a reference to an output of its own group, DELAY nodes apart (spec R307). -/
def Dev.isDep (d : Dev) (x : NodeX) (r : Nat) : Bool := refKind r == 1 && x.op != 0x1E && (d.node (refWhich r / 2)).rg == x.rg

/-- Insert a node into a ready list: rounds in time order, ascending node order within one (spec R321). -/
def Dev.readyInsert (d : Dev) (l : List Nat) (n : Nat) : List Nat :=
  let later (m : Nat) : Bool := (d.node m).phase == npREADY && (d.node m).readyAt == d.now && decide (n < m)
  l.takeWhile (fun m => !later m) ++ n :: l.dropWhile (fun m => !later m)

def Dev.makeReady (d : Dev) (n : Nat) : Dev :=
  let x := d.node n
  let d := d.setNode n { x with phase := npREADY, readyAt := d.now }
  let g := d.rgx x.rg
  d.setRgx x.rg { g with ready := d.readyInsert g.ready n }

/-- A node leaves every ready list. -/
def Dev.unready (d : Dev) (n : Nat) : Dev :=
  [0, 1, 2, 3].foldl (fun d k => d.setRgx k { d.rgx k with ready := (d.rgx k).ready.filter (fun m => m != n) }) d

/-- The period is complete when every node has ended (spec R317): the span of the period is known. -/
def Dev.rgCheck (d : Dev) (k : Nat) : Dev :=
  let g := d.rgx k
  if !g.running || g.done || !(d.rgNodes k).all (fun n => (d.node n).ended) then d
  else
    let span := (g.lastDone - g.start) / 10
    let d := d.setRgx k { g with done := true }
    d.sets [(Reg.RG.LAST_SPAN k, span), (Reg.RG.MAX_SPAN k, max span (d.get (Reg.RG.MAX_SPAN k)))]

/-- A node has ended: the counters of its successors fall, and those at 0 become ready in ascending order (spec R320). -/
def Dev.nodeEnd (d : Dev) (n : Nat) : Dev :=
  let k := (d.node n).rg
  let d := (d.rgNodes k).foldl (fun d m =>
    let x := d.node m
    let edges : Nat := (x.args.filter (fun a => match a.dep with
      | some w => w / 2 == n
      | none => false)).length
    if x.phase != npWAITING || edges == 0 then d
    else
      let d := d.setNode m { x with count := x.count - edges }
      if decide (x.count ≤ edges) then d.makeReady m else d) d
  d.rgCheck k

/-- A node is cancelled: its outputs are kept and marked STALE (spec R320). Causes: 0 SOFTWARE, 1 DEADLINE, 2 CORE. -/
def Dev.nodeCancelled (d : Dev) (n cause core : Nat) : Dev :=
  let x := d.node n
  let d := d.unready n
  let d := d.setNode n { x with phase := npCANCELLED, stale0 := true, stale1 := true }
  (d.nodeResult n 0x10).trace 2 core n x.rg cause

/-- ACTIVE_COUNT, SPARE_COUNT and CORES_LOW follow the core states (spec R331, R338). -/
def Dev.coresCount (d : Dev) : Dev :=
  let cnt (st : Nat) : Nat := ((List.range 18).filter (fun c => d.get (Reg.CORES.STATE c) == st)).length
  let d := d.sets [(Reg.CORES.ACTIVE_COUNT, cnt kcACTIVE), (Reg.CORES.SPARE_COUNT, cnt kcSPARE)]
  let low := decide (d.get Reg.CORES.ACTIVE_COUNT < 16)
  if low && !d.bit Reg.KILN.LEAVES 6 then (d.rise Reg.KILN.LEAVES 6 uKILN).raise 169 0 else d.leaf Reg.KILN.LEAVES 6 uKILN low

/-- A core changes its state (spec R331). -/
def Dev.coreState (d : Dev) (c st : Nat) : Dev :=
  if d.get (Reg.CORES.STATE c) == st then d else ((d.set (Reg.CORES.STATE c) st).trace 6 c 0 0 st).coresCount

/-- The core that works on a node abandons it; a core that was to leave ACTIVE leaves now (spec R318, R331). -/
def Dev.coresDrop (d : Dev) (n : Nat) : Dev :=
  d.kiln.cores.foldl (fun d e => if e.2.node == some n then
    let d := d.setKcore e.1 { e.2 with node := none, leave := none, busy := e.2.busy + (d.now - e.2.busyFrom)
                                       busyFrame := e.2.busyFrame + (d.now - e.2.busyFrom) }
    match e.2.leave with
    | some st => d.coreState e.1 st
    | none => d
    else d) d

/-- Deadline of the running period of a group: its end, as the TF in force places it, less its margin (spec R306, R317). -/
def Dev.rgDue (d : Dev) (k : Nat) : Nat :=
  let g := d.rgx k
  d.frame.next + (g.endN - (d.frame.n + 1)) * d.tf - min (10 * g.margin) (g.mult * d.tf - 10000)

/-- A period that is not complete at its deadline (spec R318). -/
def Dev.rgOverrun (d : Dev) (k : Nat) : Dev :=
  let g := d.rgx k
  let ns := (d.rgNodes k).filter (fun n => !(d.node n).ended)
  let d := ns.foldl (fun d n => (d.coresDrop n).nodeCancelled n 1 31) d
  let d := d.trace 3 31 (min ns.length 4095) k 0
  let d := (d.count Reg.KILN.OVERRUNS 32 1).count (Reg.RG.OVERRUNS k) 32 1
  let d := d.set (Reg.RG.LAST_OVERRUN_FRAME k) (d.frame.n % 2 ^ 32)
  let d := (d.rise Reg.KILN.LEAVES 9 uKILN).raise (160 + k) 0
  let d := d.setRgx k { d.rgx k with overran := true }
  let span := (g.lastDone - g.start) / 10
  (d.setRgx k { d.rgx k with done := true }).sets [(Reg.RG.LAST_SPAN k, span), (Reg.RG.MAX_SPAN k, max span (d.get (Reg.RG.MAX_SPAN k)))]

/-- RG_DEADLINE (spec R317, R318). -/
def Dev.rgDeadline (d : Dev) (k : Nat) : Dev :=
  let g := d.rgx k
  if d.kiln.run && !d.kiln.halted && g.running && !g.done && decide (d.rgDue k ≤ d.tt) then d.rgOverrun k else d

/-- A period is abandoned: its incomplete nodes keep their outputs and marks (spec R330, R333). -/
def Dev.rgAbandon (d : Dev) (k : Nat) : Dev :=
  let d := (d.rgNodes k).foldl (fun d n =>
    if (d.node n).ended || (d.node n).phase == npNONE then d
    else
      let d := (d.coresDrop n).unready n
      d.setNode n { d.node n with phase := npNONE }) d
  d.setRgx k { d.rgx k with running := false, done := false, overran := false }

/-! Loading a graph (spec R310, R330). -/

/-- Numbers of the non-empty nodes that a view of DESC describes. -/
def nodesIn (l : List Nat) (desc : Nat → Nat) : List Nat := l.filter (fun n => descOp (desc n) != 0)

/-- Nodes whose DESC stands in a table. -/
def descKeys (t : Tab Nat) : List Nat :=
  (t.filter (fun e => decide (0x3000 ≤ e.1 / 256) && decide (e.1 / 256 ≤ 0x3FFF) && e.1 % 256 == 1)).map (fun e => e.1 / 256 - 0x3000)

/-- A node starts afresh (spec R326, R330). -/
def Dev.nodeFresh (d : Dev) (n : Nat) (x : NodeX) : Dev :=
  let loop := isLoopOp x.op
  let close := loop && descGate x.desc
  let gate := if !loop then gtNONE else if close then gtCLOSED else gtOPEN
  let d := d.sets [(Reg.NODE.S n 0, 0), (Reg.NODE.S n 1, if close then d.get (Reg.NODE.K n 4) else 0), (Reg.NODE.S n 2, 0),
    (Reg.NODE.S n 3, 0), (Reg.NODE.OUT0 n, 0), (Reg.NODE.OUT1 n, 0), (Reg.NODE.STATUS n, 0x6 + gate * 256)]
  d.setNode n { x with reinit := close }

/-- The applied structure takes effect at the snapshot (spec R330). -/
def Dev.kilnLoad (d : Dev) : Dev :=
  if !d.kiln.reload then d
  else
    let d := [0, 1, 2, 3].foldl (fun d k => d.rgAbandon k) d
    let old := d.kiln.nodes
    let oldSinks := d.kiln.sinks
    let ns := nodesIn (descKeys d.regs) (fun n => d.get (Reg.NODE.DESC n))
    let gone := (old.map Prod.fst).filter (fun n => !ns.contains n)
    let d := gone.foldl (fun d n => d.setNodeGate n gtNONE) d
    let d := d.setKiln { d.kiln with reload := false, nodes := [] }
    let d := ns.foldl (fun d n =>
      let desc := d.get (Reg.NODE.DESC n)
      let ins := (List.range 4).map (fun i => d.get (Reg.NODE.IN n i))
      let dup := d.on (Reg.NODE.DUP n)
      match Tab.find old n with
      | some x =>
        if x.op == descOp desc && x.rg == descRg desc then d.setNode n { x with desc := desc, ins := ins, dup := dup, phase := npNONE }
        else d.nodeFresh n { desc := desc, ins := ins, dup := dup }
      | none => d.nodeFresh n { desc := desc, ins := ins, dup := dup }) d
    let d := [0, 1, 2, 3].foldl (fun d k =>
      (d.setRgx k { d.rgx k with mult := d.get (Reg.RG.MULT k), phase := d.get (Reg.RG.PHASE k), margin := d.get (Reg.RG.MARGIN k) }).set
        (Reg.RG.NODES k) (d.rgNodes k).length) d
    let d := d.set Reg.KILN.NODES ns.length
    (List.range 112).foldl (fun d s =>
      let r := d.get (Reg.SINKSRC.SINK_SRC s)
      let r := if refKind r == 0 then 0 else r
      let was := oldSinks.get s 0
      let d := d.setKiln { d.kiln with sinks := if r == 0 then d.kiln.sinks.drop s else d.kiln.sinks.put s r }
      if r == was then d
      else if r == 0 then
        let d := d.setKiln { d.kiln with taken := s :: d.kiln.taken }
        (d.setF (Reg.SINKVAL.SINK_VALUE s) (sinkIdle s)).setSinkStale s false
      else if was == 0 then d.setSinkStale s true
      else d) d

/-! Frame boundaries (spec R16, R306, R307, R315). -/

/-- Sinks of a rate group take their new values, or after an overrun keep them and turn STALE (spec R315). -/
def Dev.sinksTake (d : Dev) (k : Nat) (overran : Bool) : Dev :=
  d.kiln.sinks.foldl (fun d e =>
    let s := e.1
    let r := e.2
    if d.sinkRg r != k then d
    else if overran then d.setSinkStale s true
    else
      let v := if refKind r == 1 then d.refValue r else d.kiln.sinkIn.get s (F32.zero, true)
      let d := d.setKiln { d.kiln with taken := s :: d.kiln.taken }
      (d.setF (Reg.SINKVAL.SINK_VALUE s) (F32.flush v.1)).setSinkStale s v.2) d

/-- The working outputs of a group are published (spec R307). -/
def Dev.publish (d : Dev) (k : Nat) : Dev :=
  (d.rgNodes k).foldl (fun d n =>
    let x := d.node n
    let st := clearBits (d.get (Reg.NODE.STATUS n)) 0x6 ||| (2 * b2n x.stale0 + 4 * b2n x.stale1)
    d.sets [(Reg.NODE.OUT0 n, x.work0.toNat), (Reg.NODE.OUT1 n, x.work1.toNat), (Reg.NODE.STATUS n, st)]) d

/-- Whether a period of a group starts, and the one before ends, at a frame count (spec R306). -/
def RgX.turn (g : RgX) (n : Nat) : Bool := n % max 1 g.mult == g.phase

/-- Step 1 of R16 for the boundary of frame `n`: groups whose period ends here publish, and their sinks become active. A
period still incomplete here has missed its deadline. -/
def Dev.kilnPublish (d : Dev) (n : Nat) : Dev :=
  let d := d.setKiln { d.kiln with taken := [] }
  if !d.kiln.run || d.kiln.halted then d
  else
    let ends := [0, 1, 2, 3].filter (fun k => (d.rgx k).running && (d.rgx k).turn n)
    let d := ends.foldl (fun d k => if (d.rgx k).done then d else d.rgOverrun k) d
    let d := ends.foldl Dev.publish d
    ends.foldl (fun d k => (d.sinksTake k (d.rgx k).overran).setRgx k { d.rgx k with running := false, done := false, overran := false }) d

/-- The kiln starts (spec R315, R337). -/
def Dev.kilnStart (d : Dev) : Dev :=
  let d := (d.setKiln { d.kiln with run := true, taken := List.range 112 }).set Reg.KILN.STATE (if d.kiln.halted then 2 else 1)
  (List.range 112).foldl (fun d s =>
    (d.setF (Reg.SINKVAL.SINK_VALUE s) (sinkIdle s)).setSinkStale s (d.kiln.sinks.get s 0 != 0)) d

/-- States in which the kiln runs (spec R337). -/
def Dev.kilnWanted (d : Dev) : Bool := d.dsIn [dsLINKS_UP, dsADMITTED, dsREADY, dsRUNNING, dsTAKEOVER]

/-- The kiln stops when the device leaves those states: what runs is abandoned. -/
def Dev.kilnSync (d : Dev) : Dev :=
  if !d.kiln.run || d.kilnWanted then d
  else
    let d := [0, 1, 2, 3].foldl (fun d k => d.rgAbandon k) d
    (d.setKiln { d.kiln with run := false }).set Reg.KILN.STATE (if d.kiln.halted then 2 else 0)

/-- What a node reads in the period that starts now (spec R306). -/
def Dev.nodeCapture (d : Dev) (m : Memory) (n : Nat) : Dev :=
  let x := d.node n
  let arg (r : Nat) : NodeArg :=
    if refKind r == 0 then {}
    else if d.isDep x r then { conn := true, dep := some (refWhich r) }
    else { conn := true, val := (d.refValue r).1, stale := (d.refValue r).2 }
  let t := field x.desc 0 8 % 32
  let pts := if x.op != 0x2E then [] else
    let c := d.get (Reg.LOOKUP.POINTS t)
    let bs := d.memBytes m (Mem.lookup t) (4 * c)
    (List.range c).map (fun i => BitVec.ofNat 32 (ofLe ((bs.drop (4 * i)).take 4)))
  d.setNode n { x with args := x.ins.map arg, coefs := (List.range 8).map (fun i => d.getF (Reg.NODE.K n i))
                       x0 := d.getF (Reg.LOOKUP.X0 t), dx := d.getF (Reg.LOOKUP.DX t), points := pts }

/-- A tap of a converter or of an arm's mean, whose words of the snapshot come in up to 206 ns after B(n) (spec R17, R221). -/
def isWordTap (r : Nat) : Bool := refKind r == 2 && decide (refWhich r ≤ 0x1D)

/-- Words whose strobe lies at or before B(n) belong to the snapshot when they come: what the periods that start at B(n) have
captured follows them until a node is granted (spec R17, R313). -/
def Dev.lateTaps (d : Dev) : Dev :=
  let now (r : Nat) : F32 × Bool := d.tap (refWhich r)
  let open_ (x : NodeX) : Bool := (d.rgx x.rg).running && (d.rgx x.rg).start == d.frame.bn && decide (x.phase ≤ npREADY) && x.ins.any isWordTap
  let node (x : NodeX) : NodeX := { x with
    args := (x.ins.zip x.args).map (fun e => if isWordTap e.1 then { e.2 with val := (now e.1).1, stale := (now e.1).2 } else e.2) }
  let k := d.kiln
  if !(k.run && d.frame.started) then d
  else d.setKiln { k with
    nodes := k.nodes.map (fun e => if open_ e.2 then (e.1, node e.2) else e)
    sinkIn := if (d.rgx 0).running && (d.rgx 0).start == d.frame.bn then
        k.sinkIn.map (fun e => if isWordTap (k.sinks.get e.1 0) then (e.1, now (k.sinks.get e.1 0)) else e)
      else k.sinkIn }

/-- What the snapshot at B(n) takes of the converters and the grid angle units (spec R17, R236, R313). -/
def Dev.snapshotFrame (d : Dev) : Dev :=
  let d := d.meas.cvs.foldl (fun d e =>
    let x := d.cv e.1
    match x.lastValid with
    | some t => if t ≤ d.frame.bn then d.setCv e.1 { x with bVal := d.getF (Reg.CV.VALUE e.1), bAt := some t } else d
    | none => d) d
  let d := [0, 1].foldl Dev.gauLatch d
  (List.range 6).foldl (fun d a =>
    let x := d.arm a
    d.setArm a { x with oldSum := x.meanSum, oldN := x.meanN, meanSum := 0, meanN := 0 }) d

/-- The gate state that a command asked for takes effect (spec R324, R326). -/
def Dev.gateTurn (d : Dev) (n : Nat) : Dev :=
  let x := d.node n
  match x.gateTo with
  | some g => (d.setNode n { x with gateTo := none, reinit := g == gtCLOSED }).setNodeGate n g
  | none => d

/-- A period starts (spec R306, R317, R320). -/
def Dev.rgStart (d : Dev) (m : Memory) (k : Nat) : Dev :=
  let ns := d.rgNodes k
  let d := ns.foldl (fun d n => (d.gateTurn n).nodeCapture m n) d
  let g := d.rgx k
  let d := d.setRgx k { g with running := true, done := false, overran := false, start := d.frame.bn, period := g.mult * d.tf
                               endN := d.frame.n + g.mult, lastDone := d.frame.bn }
  let d := if k == 0 then
      (d.set Reg.KILN.FRAME (d.frame.n % 2 ^ 32)).setKiln { d.kiln with
        sinkIn := (d.kiln.sinks.filter (fun e => refKind e.2 != 1)).map (fun e => (e.1, d.refValue e.2)) }
    else d
  let d := ns.foldl (fun d n =>
    let x := d.node n
    let c := (x.args.filter (fun a => a.dep.isSome)).length
    if c == 0 then d.makeReady n else d.setNode n { x with phase := npWAITING, count := c }) d
  let ready := (ns.filter (fun n => (d.node n).phase == npREADY)).length
  let d := ((d.count (Reg.RG.PERIODS k) 64 1).event (0x1BD + k)).trace 5 31 (d.frame.n % 4096) k ready
  d.rgCheck k

/-- Busy time of a core up to now. -/
def Dev.kcoreAccount (d : Dev) (c : Nat) : Dev :=
  let x := d.kcore c
  if x.node.isNone then d
  else d.setKcore c { x with busy := x.busy + (d.now - x.busyFrom), busyFrame := x.busyFrame + (d.now - x.busyFrom), busyFrom := d.now }

/-- The window's frame figures close with a frame that has ended: with the first, the window has begun at that frame's start (spec
R336). -/
def Dev.statFrame (d : Dev) : Dev :=
  let len := d.frame.bn - d.frame.bnOld
  let d := (List.range 18).foldl (fun d c =>
    let d := d.kcoreAccount c
    let x := d.kcore c
    if x.busyFrame == 0 then d else d.setKcore c { x with peak := max x.peak (x.busyFrame * 1000 / max 1 len), busyFrame := 0 }) d
  let k := d.kiln
  d.setKiln { k with winFrames := k.winFrames + 1, winStart := if k.winFrames == 0 then d.now - len else k.winStart }

/-- The kiln at the snapshot of B(n): structure, start, periods (spec R17, R306, R330, R337). -/
def Dev.kilnFrame (d : Dev) (m : Memory) : Dev :=
  let d := d.kilnSync.kilnLoad
  let d := if !d.kiln.run && d.kilnWanted then d.kilnStart else d
  if !d.kiln.run || d.kiln.halted then d
  else ([0, 1, 2, 3].filter (fun k => (d.rgx k).turn d.frame.n)).foldl (fun d k => d.rgStart m k) d

/-! Grants and completions (spec R319–R321, R327). -/

/-- The first entry of a ready list that a core may take: a DUP node's second copy never goes to the first copy's core. -/
def Dev.readyFor (d : Dev) (c : Nat) (l : List Nat) : Option Nat :=
  l.find? (fun n => !((d.node n).phase == npDUP_READY && (d.node n).core1 == c))

/-- A core that waits for work: ACTIVE, without a node (spec R319, R331). -/
def Dev.kcoreWaits (d : Dev) (c : Nat) : Bool := d.get (Reg.CORES.STATE c) == kcACTIVE && (d.kcore c).node.isNone

/-- The snapshot of B(n) is not yet complete: within 300 ns of B(n), a converter owes a word strobed at or before it (spec R17). -/
def Dev.snapOpen (d : Dev) : Bool :=
  d.frame.started && decide (d.tt < d.frame.bn + 3000) && d.meas.cvs.any (fun e => e.2.owes (d.frame.bn + 1))

/-- The nodes of a group's period are released once its snapshot is complete (spec R317). -/
def Dev.rgReleased (d : Dev) (k : Nat) : Bool := !((d.rgx k).start == d.frame.bn && d.snapOpen)

/-- A group has a node that a core may be granted. -/
def Dev.rgOffers (d : Dev) (c k : Nat) : Bool := d.rgReleased k && (d.readyFor c (d.rgx k).ready).isSome

/-- A waiting core would be granted a node now. -/
def Dev.kcoreTakes (d : Dev) (c : Nat) : Bool := d.kcoreWaits c && [0, 1, 2, 3].any (d.rgOffers c)

/-- KILN_GRANT: a waiting core gets a ready node of RG0, else RG1, RG2, RG3; lower cores come first, and cancellations by a deadline
that has come before any grant (spec R319, R321). -/
def Dev.kilnGrant (d : Dev) (c : Nat) : Dev :=
  let d := [0, 1, 2, 3].foldl Dev.rgDeadline d
  let x := d.kcore c
  if !d.kiln.run || d.kiln.halted || !d.kcoreWaits c || (List.range c).any d.kcoreTakes then d
  else
    match [0, 1, 2, 3].find? (d.rgOffers c) with
    | none => d
    | some k =>
      match d.readyFor c (d.rgx k).ready with
      | none => d
      | some n =>
        let depth := (d.rgx k).ready.length
        let y := d.node n
        let wait := d.now - y.readyAt
        let s := d.kiln.stats.get k {}
        let d := d.setKiln { d.kiln with stats := d.kiln.stats.put k { s with
          depthMax := max s.depthMax depth, depthSum := s.depthSum + depth, waitMax := max s.waitMax wait
          waitSum := s.waitSum + wait, grants := s.grants + 1 } }
        let d := d.setRgx k { d.rgx k with ready := (d.rgx k).ready.filter (fun j => j != n) }
        let d := d.setNode n { y with phase := if y.phase == npDUP_READY then npDUP_GRANTED else npGRANTED }
        let d := d.setKcore c { x with node := some n, grantAt := d.now, busyFrom := d.now }
        ((d.count (Reg.CORES.GRANTS c) 64 1).event 0x1C1).trace 0 c n y.rg (wait / 16)

/-- What an input of a node reads: the producer's working output through a dependency edge (spec R307). -/
def Dev.argValue (d : Dev) (a : NodeArg) : F32 × Bool :=
  match a.dep with
  | some w => let x := d.node (w / 2); if w % 2 == 0 then (x.work0, x.stale0) else (x.work1, x.stale1)
  | none => (a.val, a.stale)

/-- What an execution of a node takes. -/
def Dev.opInput (d : Dev) (n : Nat) : OpIn :=
  let x := d.node n
  { ins := x.args.map (fun a => (a.conn, (d.argValue a).1)), k := x.coefs, s := (List.range 4).map (fun i => d.getF (Reg.NODE.S n i))
    t := seconds (d.rgx x.rg).period, closed := d.nodeGate n == gtCLOSED || (d.nodeGate n == gtCHANGING && x.gateTo == some gtOPEN)
    preset := descPreset x.desc, reinit := x.reinit, sat := d.bit (Reg.NODE.STATUS n) 3, x0 := x.x0, dx := x.dx, points := x.points }

/-- A STALE input was read: those the opcode takes (spec R308, R323). -/
def Dev.staleIn (d : Dev) (n : Nat) : Bool :=
  let x := d.node n
  let used := match opShape x.op with
    | some sh => sh.2.1
    | none => []
  let open_ := isLoopOp x.op && !(d.opInput n).closed
  !descStaleStop x.desc && !open_ && used.any (fun i => match x.args[i]? with
    | some a => a.conn && (d.argValue a).2
    | none => false)

/-- LAST_NODE names the node of a raise among F164 to F167 (spec R337). -/
def Dev.raiseNode (d : Dev) (src n : Nat) : Dev := (d.set Reg.KILN.LAST_NODE n).raise src n

/-- A core's granted node has ended: a core that leaves ACTIVE does so now (spec R331). -/
def Dev.kcoreFree (d : Dev) (c : Nat) : Dev :=
  let d := d.kcoreAccount c
  d.setKcore c { d.kcore c with node := none }

/-- The result of a completed node is written (spec R304, R308, R320). -/
def Dev.nodeWrite (d : Dev) (n c dur : Nat) : Dev :=
  let x := d.node n
  let r := evalOp x.op (d.opInput n)
  let stale := d.staleIn n
  let finite := F32.isFinite r.o0 && F32.isFinite r.o1 && r.s.all F32.isFinite
  let d := ((d.set (Reg.NODE.LAST_CORE n) c).set (Reg.NODE.LAST_EXEC n) (min (dur / 16) 65535)).count (Reg.NODE.RUNS n) 32 1
  let d := d.trace 1 c n x.rg (dur / 16)
  let d := d.setRgx x.rg { d.rgx x.rg with lastDone := d.tt }
  let d := if finite then
      let d := d.setNode n { x with phase := npCOMPLETE, reinit := false, work0 := F32.flush r.o0, work1 := F32.flush r.o1, stale0 := stale, stale1 := stale }
      let d := (r.s.zipIdx).foldl (fun d e => if e.2 < 4 then d.setF (Reg.NODE.S n e.2) (F32.flush e.1) else d) d
      let d := d.nodeResult n 1
      d.set (Reg.NODE.STATUS n) (putBit (d.get (Reg.NODE.STATUS n)) 3 r.sat)
    else
      let d := d.setNode n { x with phase := npCOMPLETE, stale0 := true, stale1 := true }
      (((d.nodeResult n 0x21).rise Reg.KILN.LEAVES 1 uKILN).count Reg.KILN.NONFINITE 32 1).raiseNode 165 n
  d.nodeEnd n

/-- The two copies differ (spec R327). -/
def Dev.nodeMismatch (d : Dev) (n c dur : Nat) : Dev :=
  let x := d.node n
  let d := d.setRgx x.rg { d.rgx x.rg with lastDone := d.tt }
  let d := d.setNode n { x with phase := npMISMATCHED, stale0 := true, stale1 := true }
  let d := (d.trace 4 x.core1 n x.rg c).set Reg.KILN.MISMATCH_CORES (x.core1 * 256 + c)
  let d := ((d.nodeResult n 0x40).rise Reg.KILN.LEAVES 0 uKILN).count Reg.KILN.DUP_MISMATCHES 32 1
  let d := (d.set (Reg.NODE.LAST_CORE n) c).set (Reg.NODE.LAST_EXEC n) (min (dur / 16) 65535)
  (d.raiseNode 164 n).nodeEnd n

/-- The lowest spare core becomes ACTIVE (spec R331). -/
def Dev.coreSpareIn (d : Dev) : Dev :=
  match (List.range 18).find? (fun c => d.get (Reg.CORES.STATE c) == kcSPARE) with
  | some c => ((d.coreState c kcACTIVE).rise Reg.KILN.LEAVES 5 uKILN).raise 170 0
  | none => d

/-- A core leaves ACTIVE once its granted node has ended (spec R331). -/
def Dev.coreLeave (d : Dev) (c st : Nat) : Dev :=
  let x := d.kcore c
  if x.node.isSome then d.setKcore c { x with leave := some st } else d.coreState c st

/-- NODE_COMPLETE: a core completes its node (spec R320, R327). `same`: a second copy agrees with the first bit for bit. -/
def Dev.nodeComplete (d : Dev) (c : Nat) (same : Bool) : Dev :=
  let k := d.kcore c
  match k.node with
  | none => d
  | some n =>
    let dur := d.now - k.grantAt
    let d := d.kcoreFree c
    let d := d.setKcore c { d.kcore c with leave := none, nodes := (d.kcore c).nodes + 1 }
    let x := d.node n
    let d := if x.phase == npDUP_GRANTED then (if same then d.nodeWrite n c dur else d.nodeMismatch n c dur)
      else if x.dup then
        let d := d.setNode n { x with phase := npDUP_READY, core1 := c, readyAt := d.now }
        d.setRgx 0 { d.rgx 0 with ready := n :: (d.rgx 0).ready }
      else d.nodeWrite n c dur
    match k.leave with
    | some st => d.coreState c st
    | none => d

/-- A kiln core has stalled (spec R332). -/
def Dev.kilnStall (d : Dev) (c : Nat) : Dev :=
  let k := d.kcore c
  let d := if d.get (Reg.CORES.STATE c) == kcACTIVE then d.coreSpareIn else d
  let d := (d.setKcore c { k with leave := none }).coreState c kcRETIRED
  match k.node with
  | some n => ((d.coresDrop n).nodeCancelled n 2 c).nodeEnd n
  | none => d

/-! Software on nodes (spec R321, R324). -/

/-- NODE_CANCEL. -/
def Dev.nodeCancel (d : Dev) (n : Nat) : Dev :=
  let x := d.node n
  if d.kiln.run && (x.phase == npWAITING || x.phase == npREADY) && (d.rgx x.rg).running then
    (((d.nodeCancelled n 0 31).count Reg.KILN.CANCELS 32 1).nodeEnd n).ret stOK
  else d.ret stSTATE

/-- GATE_OPEN. -/
def Dev.gateOpenCmd (d : Dev) (n : Nat) : Dev :=
  if isLoopOp (d.node n).op && d.nodeGate n == gtCLOSED then
    ((d.setNode n { d.node n with gateTo := some gtOPEN }).setNodeGate n gtCHANGING).ret stOK
  else d.ret stSTATE

/-- GATE_CLOSE. -/
def Dev.gateCloseCmd (d : Dev) (n : Nat) : Dev :=
  if !(isLoopOp (d.node n).op && d.nodeGate n == gtOPEN) then d.ret stSTATE
  else if d.nodeCoefPending n then d.ret stBUSY
  else ((d.setNode n { d.node n with gateTo := some gtCLOSED }).setNodeGate n gtCHANGING).ret stOK

/-! The graph check (spec R329). -/

/-- The structure that the shadows describe. -/
structure GraphView where
  nodes : List Nat
  desc : Nat → Nat
  input : Nat → Nat → Nat

def Dev.graphView (d : Dev) : GraphView :=
  let desc (n : Nat) : Nat := d.getShadow (Reg.NODE.DESC n)
  let ks := descKeys (d.shadow.foldl (fun t e => t.put e.1 e.2) d.regs)
  { nodes := nodesIn ks desc, desc := desc, input := fun n i => d.getShadow (Reg.NODE.IN n i) }

/-- The error of a reference, 0 for none (codes of R329). -/
def GraphView.refError (g : GraphView) (r : Nat) : Nat :=
  let w := refWhich r
  match refKind r with
  | 0 => 0
  | 1 =>
    if !g.nodes.contains (w / 2) then 2
    else match opShape (descOp (g.desc (w / 2))) with
      | some sh => if w % 2 == 1 && sh.2.2 == 1 then 4 else 0
      | none => 0
  | 2 => if isTap w then 0 else 3
  | 3 => if w < 256 then 0 else 2
  | _ => 2

/-- The producers a node depends on. -/
def GraphView.deps (g : GraphView) (n : Nat) : List Nat :=
  if descOp (g.desc n) == 0x1E then []
  else (((List.range 4).map (fun i => g.input n i)).filter (fun r => refKind r == 1 &&
    descRg (g.desc (refWhich r / 2)) == descRg (g.desc n))).map (fun r => refWhich r / 2)

/-- Nodes that no order can free: those on a cycle of dependency edges and behind one; `fuel` bounds the rounds. -/
def GraphView.stuck (g : GraphView) : Nat → List Nat → List Nat
  | 0, l => l
  | f + 1, l =>
    let l' := l.filter (fun n => (g.deps n).any (fun m => l.contains m))
    if l'.length == l.length then l else g.stuck f l'

/-- Of the given set, those on a cycle or between two: cut also those that nothing of the set depends on. -/
def GraphView.onCycle (g : GraphView) : Nat → List Nat → List Nat
  | 0, l => l
  | f + 1, l =>
    let l' := l.filter (fun n => l.any (fun m => (g.deps m).contains n))
    if l'.length == l.length then l else g.onCycle f l'

/-- What a set of nodes depends on, itself included; `fuel` bounds the rounds. -/
def GraphView.reach (g : GraphView) : Nat → List Nat → List Nat
  | 0, l => l
  | f + 1, l =>
    let l' := (l ++ l.flatMap g.deps).eraseDups
    if l'.length == l.length then l else g.reach f l'

/-- A node that lies on a cycle of dependency edges itself, not between two. -/
def GraphView.selfReach (g : GraphView) (n : Nat) : Bool := (g.reach g.nodes.length (g.deps n).eraseDups).contains n

/-- The first error of a node, 0 for none. -/
def GraphView.nodeError (g : GraphView) (cyc : List Nat) (n : Nat) : Nat :=
  let v := g.desc n
  match opShape (descOp v) with
  | none => 1
  | some sh =>
    let ins := (List.range 4).map (fun i => g.input n i)
    let has (e : Nat) : Bool := ins.any (fun r => g.refError r == e)
    if has 2 then 2
    else if has 3 then 3
    else if has 4 then 4
    else if sh.1.any (fun i => refKind (g.input n i) == 0) then 5
    else if cyc.contains n then 6
    else
      let op := descOp v
      let aux := field v 0 8
      if (!isLoopOp op && (descGate v || descPreset v)) || (if op == 0x2E then decide (31 < aux) else aux != 0) ||
        field v 8 13 != 0 then 7
      else 0

/-- The result of a check: code and CHECK_NODE. -/
def Dev.graphError (d : Dev) : Nat × Nat :=
  let g := d.graphView
  let s := g.stuck g.nodes.length g.nodes
  let cyc := (g.onCycle s.length s).filter g.selfReach
  match g.nodes.find? (fun n => g.nodeError cyc n != 0) with
  | some n => (g.nodeError cyc n, n)
  | none =>
    match (List.range 112).find? (fun s => g.refError (d.getShadow (Reg.SINKSRC.SINK_SRC s)) != 0) with
    | some s => (8, 0x8000 + s)
    | none =>
      let bad := [0, 1, 2, 3].any (fun k =>
        let mg := d.getShadow (Reg.RG.MARGIN k)
        decide (d.getShadow (Reg.RG.MULT k) ≤ d.getShadow (Reg.RG.PHASE k)) || decide (mg < 200) || decide (20000000 < mg))
      if bad then (9, 0xFFFF) else (0, 0xFFFF)

/-- CHECK (spec R329). -/
def Dev.graphCheck (d : Dev) : Dev :=
  if d.get Reg.KILN.CHECK_STATE == 1 then d.ret stBUSY else (d.set Reg.KILN.CHECK_STATE 1).ret stOK

/-- The check ends. -/
def Dev.graphCheckDone (d : Dev) : Dev :=
  if d.get Reg.KILN.CHECK_STATE != 1 then d
  else
    let e := d.graphError
    (d.sets [(Reg.KILN.CHECK_STATE, if e.1 == 0 then 2 else 3), (Reg.KILN.CHECK_ERROR, e.1), (Reg.KILN.CHECK_NODE, e.2)]).rise
      Reg.KILN.LEAVES 8 uKILN

/-- A coefficient set that a strobe must refuse (spec R312). -/
def coefBad (op : Nat) (k : Nat → F32) : Bool :=
  let lt0 (i : Nat) : Bool := F32.lt (k i) F32.zero
  let gt (i j : Nat) : Bool := F32.lt (k j) (k i)
  ((op == 0x18 || op == 0x19) && (gt 2 3 || gt 2 4 || gt 4 3)) ||
  (op == 0x19 && lt0 6) || (op == 0x1A && gt 1 2) || (op == 0x22 && gt 0 1) ||
  ((op == 0x1B || op == 0x23 || op == 0x2D) && lt0 0) ||
  (op == 0x21 && (lt0 1 || lt0 2)) || (op == 0x20 && (lt0 0 || lt0 1)) ||
  (op == 0x24 && F32.le (k 1) (k 0)) || (op == 0x14 && F32.le (k 1) F32.zero)

/-! Debug halt (spec R333). -/

/-- DEBUG_HALT, the kiln's part. -/
def Dev.kilnHalt (d : Dev) : Dev :=
  if d.kiln.halted then d
  else (((d.setKiln { d.kiln with halted := true }).set Reg.KILN.STATE 2).rise Reg.KILN.LEAVES 7 uKILN).count Reg.KILN.HALTS 32 1

/-- DEBUG_RESUME, the kiln's part: every interrupted period is abandoned. -/
def Dev.kilnResume (d : Dev) : Dev :=
  if !d.kiln.halted then d
  else
    let d := [0, 1, 2, 3].foldl (fun d k => d.rgAbandon k) d
    ((d.setKiln { d.kiln with halted := false }).set Reg.KILN.STATE (b2n d.kiln.run)).fall Reg.KILN.LEAVES 7

/-! Statistics (spec R336, R338). -/

/-- STAT_CLEAR. -/
def Dev.statClear (d : Dev) : Dev := (d.sets ([0, 1, 2, 3].map (fun k => (Reg.RG.MAX_SPAN k, 0)))).ret stOK

/-- STATS_WINDOW_END: every value of the window is published together. -/
def Dev.statsWindow (d : Dev) : Dev :=
  if d.kiln.winFrames < d.get Reg.STATS.WINDOW then d
  else
    let d := (List.range 18).foldl Dev.kcoreAccount d
    let len := max 1 (d.now - d.kiln.winStart)
    let d := [0, 1, 2, 3].foldl (fun d k =>
      let s := d.kiln.stats.get k {}
      let mean (v : Nat) (q : Nat) : Nat := if s.grants == 0 then 0 else (F32.ofRat ((v : Rat) / ((s.grants * q : Nat) : Rat))).toNat
      d.sets [(Reg.STATRG.QDEPTH_MAX k, min s.depthMax 65535), (Reg.STATRG.QDEPTH_MEAN k, mean s.depthSum 1), (Reg.STATRG.WAIT_MAX k, s.waitMax / 10),
        (Reg.STATRG.WAIT_MEAN k, mean s.waitSum 10), (Reg.STATRG.GRANTS k, s.grants)]) d
    let d := (List.range 18).foldl (fun d c =>
      let x := d.kcore c
      let d := d.sets [(Reg.STATK.LOAD c, min (x.busy * 1000 / len) 1000), (Reg.STATK.LOAD_PEAK c, min x.peak 1000), (Reg.STATK.NODES c, x.nodes)]
      if x.busy == 0 && x.nodes == 0 && x.peak == 0 then d else d.setKcore c { x with busy := 0, peak := 0, nodes := 0 }) d
    let d := (d.count Reg.STATS.WINDOWS 32 1).set Reg.STATS.LAST_FRAME ((d.frame.n - 1) % 2 ^ 32)
    d.setKiln { d.kiln with stats := [], winFrames := 0 }

end Sys2Proof.Machine
end

