-- ==== Sys2Proof/Machine/Pwm.lean ====
section
/-!
DEFINITION. The PWM unit (spec R341–R357).
-/
namespace Sys2Proof.Machine

def Dev.pw (d : Dev) (n : Nat) : PwmX := d.pwm.chans.get n {}
def Dev.setPw (d : Dev) (n : Nat) (x : PwmX) : Dev := { d with pwm := { d.pwm with chans := d.pwm.chans.put n x } }

/-- STATUS bits (spec R356). -/
abbrev psFROZEN : Nat := 5
abbrev psLATCHED : Nat := 2

def Dev.pwLatched (d : Dev) (n : Nat) : Bool := d.bit (Reg.PWM.STATUS n) psLATCHED
def Dev.setPwStatus (d : Dev) (n b : Nat) (v : Bool) : Dev := d.set (Reg.PWM.STATUS n) (putBit (d.get (Reg.PWM.STATUS n)) b v)

/-- The device states in which channels run (spec R341). -/
def Dev.pwmWanted (d : Dev) : Bool := d.kilnWanted

/-- The four stages (spec R345), and what STATUS shows of them. -/
def Dev.pwOut (d : Dev) (n : Nat) : Dev :=
  let x := d.pw n
  let off := x.force || d.pwLatched n
  let a := x.aOn && !off
  let b := x.bOn && !off
  let pa := if x.swap then b else a
  let pb := if x.swap then a else b
  let la := x.run && (pa != x.inv.testBit 0)
  let lb := x.run && (pb != x.inv.testBit 1)
  let d := (d.setPwStatus n 4 lb).setPwStatus n 3 la
  (d.setPwStatus n 1 (x.run && x.force)).setPwStatus n 0 x.run

/-- The trip inputs that a channel sees high: by the mask in force. -/
def Dev.pwMask (d : Dev) (n : Nat) : Nat := if (d.pw n).run then (d.pw n).mask else d.get (Reg.PWM.TRIP_MASK n)
def Dev.tripHigh (d : Dev) (n : Nat) : Bool := field (d.pwMask n) 0 6 &&& d.pwm.trips != 0

/-- A source that names a channel (spec R357). -/
def Dev.raisePw (d : Dev) (src n : Nat) : Dev := (d.set Reg.PWMG.LAST_CHANNEL n).raise src n

/-- TRIP_COUNT against TRIP_LIMIT: the channel latches off (spec R349). -/
def Dev.pwLatch (d : Dev) (n : Nat) : Dev :=
  if d.pwLatched n || d.get (Reg.PWM.TRIP_COUNT n) < (d.pw n).limit then d
  else ((d.setPwStatus n psLATCHED true).rise (Reg.PWM.LEAVES n) 1 uPWM).raisePw (192 + n) n

/-- A masked input is high: the force, once per period the tripped period, and the TT of the first rising edge (spec R348, R349). -/
def Dev.pwTripped (d : Dev) (n : Nat) (edge : Option Nat) : Dev :=
  let x := d.pw n
  let d := d.setPw n { x with force := true, tripped := true, edgeSeen := x.edgeSeen || edge.isSome }
  let d := match edge with
    | some t => if x.edgeSeen then d else d.set (Reg.PWM.LAST_TRIP_TT n) t
    | none => d
  let d := if x.tripped then d else
    let d := (d.count (Reg.PWM.TRIPS n) 32 1).event (0x1A4 + n)
    let d := if d.pwLatched n then d else d.set (Reg.PWM.TRIP_COUNT n) (min (d.get (Reg.PWM.TRIP_COUNT n) + 1) 255)
    d.rise (Reg.PWM.LEAVES n) 0 uPWM
  (d.pwLatch n).pwOut n

/-- The first tick at or after a TT at which a period starts (spec R342), as TT. -/
def pwTick (t period phase : Nat) : Nat :=
  let k := (t + 15) / 16
  let past := (k + period - phase % max 1 period) % max 1 period
  16 * (if past == 0 then k else k + period - past)

/-- When the next period of a running channel starts: once the running one has ended, and with a new PERIOD or PHASE no earlier than
its apply (spec R346). -/
def Dev.pwNext (d : Dev) (n : Nat) : Nat :=
  pwTick (max (d.pw n).fin (d.pw n).since) (d.get (Reg.PWM.PERIOD n)) (d.get (Reg.PWM.PHASE n))

/-- r rises or falls at `t`, or takes its level afresh: what turns off does so at once, what turns on waits (spec R345). -/
def PwmX.edge (x : PwmX) (t : Nat) (r : Bool) : PwmX :=
  if r then { x with r := true, bOn := false, bDue := none, aOn := x.aOn || x.dtA == 0
                     aDue := if x.aOn || x.dtA == 0 then none else some (t + x.dtA) }
  else { x with r := false, aOn := false, aDue := none, bOn := x.bOn || x.dtB == 0
                bDue := if x.bOn || x.dtB == 0 then none else some (t + x.dtB) }

/-- A channel stops: its balls go low (spec R341). A tripped period that this cuts off breaks the run without trips (spec R349). -/
def Dev.pwStop (d : Dev) (n : Nat) : Dev :=
  let x := d.pw n
  let d := d.setPw n { x with run := false, force := false, clean := if x.tripped then 0 else x.clean, tripped := false, edgeSeen := false, r := false, aOn := false, bOn := false
                              aDue := none, bDue := none, fall := none, fresh := true }
  (d.setPwStatus n psFROZEN false).pwOut n

/-- The period that ended: the run of periods without a trip (spec R349). -/
def Dev.pwClean (d : Dev) (n : Nat) : Dev :=
  let x := d.pw n
  let c := if x.tripped then 0 else x.clean + 1
  let back := !x.tripped && !d.pwLatched n && x.reset != 0 && decide (x.reset ≤ c)
  let d := d.setPw n { x with clean := if back then 0 else c }
  if back then d.set (Reg.PWM.TRIP_COUNT n) 0 else d

/-- A period starts at TT `t`: the applied fields and the compare are taken (spec R342, R343, R346, R347). -/
def Dev.pwBegin (d : Dev) (n t : Nat) : Dev :=
  let d := if (d.pw n).run then d.pwClean n else d
  let x := d.pw n
  let first := !x.run || x.fresh
  let p := d.get (Reg.PWM.PERIOD n)
  let c := x.shadow
  let high := decide (0 < c)
  let x : PwmX := { x with
    run := true, period := p, phase := d.get (Reg.PWM.PHASE n), src := d.get (Reg.PWM.DUTY_SRC n)
    dtA := d.get (Reg.PWM.DT_A n), dtB := d.get (Reg.PWM.DT_B n), swap := d.on (Reg.PWM.SWAP n), inv := d.get (Reg.PWM.INV n)
    mask := d.get (Reg.PWM.TRIP_MASK n), limit := d.get (Reg.PWM.TRIP_LIMIT n), reset := d.get (Reg.PWM.TRIP_RESET n)
    c := c, start := t, fin := t + 16 * p, force := false, tripped := false, edgeSeen := false, fresh := false
    fall := if high && decide (c < 16 * p) && c != 0xFFFFFFF then some (t + c) else none
    transit := x.transit.map (fun w => (w.1, true)) }
  let x := if first || high != x.r then x.edge t high else x
  let d := d.setPw n x
  let d := ((d.set (Reg.PWM.COMPARE_NOW n) c).count (Reg.PWM.PERIODS n) 64 1).event (0x19E + n)
  let d := d.startSource (0x20 + n) t
  let d := d.pwLatch n
  let d := if d.tripHigh n then d.pwTripped n none else d
  d.pwOut n

/-- PWM_COMPARE_EVENT: r falls (spec R343, R352). -/
def Dev.pwCompare (d : Dev) (n : Nat) : Dev :=
  let x := d.pw n
  match x.fall with
  | some t =>
    if !x.run || x.fresh || d.kiln.halted || d.tt < t then d
    else
      let d := d.setPw n ({ x with fall := none }.edge t false)
      (d.startSource (0x28 + n) t).pwOut n
  | none => d

/-- The TT of a period start that comes now (spec R342). -/
def Dev.pwDueAt (d : Dev) (n : Nat) : Nat := if (d.pw n).run then d.pwNext n else d.tick

/-- PWM_PERIOD_START (spec R341, R342). A fall of r that the ending period still owes comes first. -/
def Dev.pwStart (d : Dev) (n : Nat) : Dev :=
  let x := d.pw n
  let t := d.pwDueAt n
  if d.kiln.halted || !d.pwmWanted || d.tt < t then d
  else if x.run then
    let d := d.pwCompare n
    if d.on (Reg.PWM.ENABLE n) then d.pwBegin n t else (d.pwClean n).pwStop n
  else if d.on (Reg.PWM.ENABLE n) && pwTick t (d.get (Reg.PWM.PERIOD n)) (d.get (Reg.PWM.PHASE n)) == t then d.pwBegin n t
  else d

/-- DEAD_TIME_EXPIRY: the output that waits turns on (spec R345). -/
def Dev.pwDead (d : Dev) (n : Nat) (high : Bool) : Dev :=
  let x := d.pw n
  let due := match if high then x.aDue else x.bDue with
    | some t => decide (t ≤ d.tt)
    | none => false
  if !x.run || x.fresh || d.kiln.halted || !due then d
  else if high then (d.setPw n { x with aOn := true, aDue := none }).pwOut n
  else (d.setPw n { x with bOn := true, bDue := none }).pwOut n

/-- A trip edge undoes a CLEAR of the same tick: what the CLEAR ended stands again, once, and the status of its write becomes STATE
(spec R351). -/
def Dev.pwUnclear (d : Dev) (n : Nat) : Dev :=
  match (d.pw n).cleared with
  | some (t, count, latched) =>
    if t == d.tick then
      let d := d.setPw n { d.pw n with cleared := none }
      (((d.set (Reg.PWM.TRIP_COUNT n) count).setPwStatus n psLATCHED latched).rise (Reg.PWM.LEAVES n) 4 uPWM).ret stSTATE
    else d
  | none => d

/-- PWM_TRIP: a trip input takes a level (spec R348–R350). An edge at the tick of a period start belongs to the new
period. -/
def Dev.pwTrip (d : Dev) (pin : Nat) (level : Bool) : Dev :=
  let d := (List.range 6).foldl (fun d n => if (d.pw n).run then d.pwStart n else d) d
  let d : Dev := { d with pwm := { d.pwm with trips := putBit d.pwm.trips pin level, edges := d.pwm.edges.put pin d.tick } }
  if !level then d
  else (List.range 6).foldl (fun d n =>
    if !(d.pwMask n).testBit pin then d
    else
      let d := d.pwUnclear n
      if (d.pw n).run then d.pwTripped n (some d.tt) else d) d

/-- A compare value on its way to the shadow (spec R347). The register's own checks come first. -/
def Dev.pwCompareWrite (d : Dev) (n v : Nat) : Dev :=
  let x := d.pw n
  if 2 ^ 28 ≤ v then d.ret stRANGE
  else if (if x.run then x.src else d.get (Reg.PWM.DUTY_SRC n)) == 1 then d.ret stSTATE
  else (d.setPw n { x with transit := x.transit ++ [(v, false)] }).ret stOK

/-- PWM_COMPARE_ARRIVAL: the oldest write on its way reaches the shadow (spec R347). -/
def Dev.pwArrive (d : Dev) (n : Nat) : Dev :=
  let x := d.pw n
  match x.transit with
  | (v, late) :: rest =>
    let d := d.setPw n { x with shadow := v, transit := rest }
    if late then (d.rise (Reg.PWM.LEAVES n) 2 uPWM).count (Reg.PWM.LATE_WRITES n) 32 1 else d
  | [] => d

/-- PWM_CLEAR (spec R351). -/
def Dev.pwClear (d : Dev) (n : Nat) : Dev :=
  let edge := (List.range 6).any (fun k => (d.pwMask n).testBit k && Tab.find d.pwm.edges k == some d.tick)
  if d.tripHigh n || edge then (d.rise (Reg.PWM.LEAVES n) 4 uPWM).ret stSTATE
  else
    let x := d.pw n
    let d := d.setPw n { x with cleared := some (d.tick, d.get (Reg.PWM.TRIP_COUNT n), d.pwLatched n), force := x.force || d.pwLatched n }
    (((d.set (Reg.PWM.TRIP_COUNT n) 0).setPwStatus n psLATCHED false).pwOut n).ret stOK

/-- The compare of a kiln duty (spec R344). -/
def dutyCompare (duty : F32) (period : Nat) : Nat :=
  if F32.le duty F32.zero then 0
  else if F32.le F32.one duty then 0xFFFFFFF
  else (roundRat (F32.toRat duty * ((period * 16 : Nat) : Rat))).toNat

/-- Frame boundary: a duty that its sink takes here enters the shadow, before any capture of that tick (spec R344). -/
def Dev.pwmFrame (d : Dev) : Dev :=
  (List.range 6).foldl (fun d n =>
    let x := d.pw n
    if (if x.run then x.src else d.get (Reg.PWM.DUTY_SRC n)) != 1 then d.fall (Reg.PWM.LEAVES n) 3
    else
      let v := d.sink (42 + n)
      let c := dutyCompare v.1 (if x.run then x.period else d.get (Reg.PWM.PERIOD n))
      let d := if d.kiln.taken.contains (42 + n) then d.setPw n { x with shadow := c } else d
      if v.2 && !d.bit (Reg.PWM.LEAVES n) 3 then (d.rise (Reg.PWM.LEAVES n) 3 uPWM).raisePw 198 n
      else d.leaf (Reg.PWM.LEAVES n) 3 uPWM v.2) d

/-- A channel stops at once when the device state takes it away (spec R341). -/
def Dev.pwmSync (d : Dev) : Dev :=
  if d.pwmWanted then d else (List.range 6).foldl (fun d n => if (d.pw n).run then d.pwStop n else d) d

/-- Debug halt and resume (spec R353). -/
def Dev.pwmHalt (d : Dev) : Dev :=
  ((List.range 6).foldl (fun d n => if (d.pw n).run then d.setPwStatus n psFROZEN true else d) d).rise Reg.PWMG.LEAVES 0 uPWM

def Dev.pwmResume (d : Dev) : Dev :=
  let d := (List.range 6).foldl (fun d n =>
    let x := d.pw n
    if x.run then (d.setPw n { x with fin := d.tt, fresh := true, aDue := none, bDue := none, fall := none }).setPwStatus n psFROZEN false
    else d) d
  d.fall Reg.PWMG.LEAVES 0

/-- A recalibration of the delay line ends (spec R354). -/
def Dev.pwmCal (d : Dev) (ok : Bool) : Dev :=
  if ok then d.set Reg.PWMG.CAL_TT d.tt
  else ((d.rise Reg.PWMG.LEAVES 1 uPWM).count Reg.PWMG.CAL_FAILS 32 1).raise 199 0

/-- DEBUG_HALT (spec R333, R353). -/
def Dev.debugHalt (d : Dev) : Dev :=
  let d : Dev := { d with jtag := { d.jtag with ir := 0x20 } }
  if d.kiln.halted then d else d.kilnHalt.pwmHalt

/-- DEBUG_RESUME. -/
def Dev.debugResume (d : Dev) : Dev :=
  let d : Dev := { d with jtag := { d.jtag with ir := 0x20 } }
  if d.kiln.halted then d.kilnResume.pwmResume else d

end Sys2Proof.Machine
end

