-- ==== Sys2Proof/Machine/Maint.lean ====
section
/-!
DEFINITION. The maintenance engine, wear and memory errors (spec R370, R378, R381–R389).
-/
namespace Sys2Proof.Machine

/-- Activity codes (spec R383). -/
abbrev maCORE_TEST : Nat := 1
abbrev maLANE_SPARE : Nat := 2
abbrev maSRAM_REPAIR : Nat := 3
abbrev maMRAM_RETIRE : Nat := 4
abbrev maDELAY_CAL : Nat := 5
abbrev maADC_CAL : Nat := 6
abbrev maWEAR : Nat := 7
abbrev maOC_TEST : Nat := 8
abbrev maLOOP_TEST : Nat := 9
abbrev maDAMPER_TEST : Nat := 10
abbrev maHANDSHAKE_TEST : Nat := 11

/-- Greatest instance of an activity, none for an unlisted code. -/
def maLast (code : Nat) : Option Nat :=
  match code with
  | 1 => some 17
  | 2 => some 5
  | 3 => some 20479
  | 4 => some 1023
  | 5 => some 2
  | 6 => some 17
  | 7 => some 0
  | 8 => some 11
  | 9 => some 5
  | 10 => some 0
  | 11 => some 0
  | _ => none

def maOffline (code : Nat) : Bool := decide (maOC_TEST ≤ code)
def maCoverage (code : Nat) : Bool := code == maSRAM_REPAIR || code == maADC_CAL || maOffline code

/-- The physical lane of an arm (spec R301). -/
def Dev.physLane (d : Dev) (a : Nat) : Nat := field (d.get Reg.SPARE.LANE_MAP) (4 * a) 4

/-- The scope of an activity as resources: kind and number (spec R383). -/
def Dev.maScope (d : Dev) (code inst : Nat) : List (Nat × Nat) :=
  match code with
  | 1 => [(1, inst), (2, 0)]
  | 2 => [(3, d.physLane inst), (3, 6)]
  | 3 => [(4, inst / 1024)]
  | 4 => [(5, 0)]
  | 5 => [(6, inst)]
  | 6 => if isPair inst then [(7, inst), (7, otherOf inst)] else [(7, inst)]
  | 7 => [(8, 0)]
  | 8 => [(9, inst)]
  | 9 => [(10, inst), (3, d.physLane inst)]
  | 10 => [(11, 0)]
  | _ => [(12, 0)]

def Dev.maRunning (d : Dev) (s : Nat) : Bool := d.get (Reg.MSLOT.STATUS s) == 1
def Dev.maRun (d : Dev) : List Nat := [0, 1, 2, 3].filter d.maRunning
def Dev.maCode (d : Dev) (s : Nat) : Nat := d.get (Reg.MSLOT.CODE s)
def Dev.maInst (d : Dev) (s : Nat) : Nat := d.get (Reg.MSLOT.INSTANCE s)

/-- An offline activity runs: a READY condition counts as lost (spec R385). -/
def Dev.maOfflineRuns (d : Dev) : Bool := d.maRun.any (fun s => maOffline (d.maCode s))

/-- Live leaf SPARE_LOW; a spare count that falls to 0 raises F247 (spec R382). -/
def Dev.maintSpares (d : Dev) : Dev :=
  let z := b2n (d.get Reg.CORES.SPARE_COUNT == 0) + 2 * b2n (d.sparesLeft == 0) +
    4 * b2n (d.get Reg.MAINT.SRAM_SPARE_ROWS == 0) + 8 * b2n (d.get Reg.MAINT.MRAM_SPARE_BLOCKS == 0)
  let fell := clearBits z d.maint.zero
  let d : Dev := { d with maint := { d.maint with zero := z } }
  let d := d.leaf Reg.MAINT.LEAVES 1 uMAINT (z != 0)
  if fell != 0 then d.raise 247 0 else d

/-- PROOF_AGE in hours (spec R388). -/
def Dev.proofAge (d : Dev) : Nat := (d.maint.proofBase + (d.now - d.maint.proofAt) / 36000000000000) % 2 ^ 32

/-- A completed planned swap restarts PROOF_AGE (spec R415). -/
def Dev.proofReset (d : Dev) : Dev :=
  Dev.fall { d with maint := { d.maint with proofBase := 0, proofAt := d.now } } Reg.MAINT.LEAVES 4

/-- PROOF_DUE. -/
def Dev.proofDue (d : Dev) : Dev :=
  let v := d.live && decide (d.get Reg.MAINT.PROOF_INTERVAL < d.proofAge)
  if v then d.leafRaise Reg.MAINT.LEAVES 4 uMAINT true 252 0xFF 0 else d

/-- WEAR_NOW against its thresholds (spec R381). -/
def Dev.wearCheck (d : Dev) : Dev :=
  let w := d.getF Reg.MAINT.WEAR_NOW
  let d := d.leafRaise Reg.MAINT.LEAVES 2 uMAINT (F32.le (d.getF Reg.MAINT.WEAR_WARN) w) 22 0xFF 0
  d.leafRaise Reg.MAINT.LEAVES 3 uMAINT (F32.le (d.getF Reg.MAINT.WEAR_LIMIT) w) 23 0xFF 0

/-! Starts (spec R384, R385). -/

/-- An activity's own conditions: 0 met, else the code of LAST_REFUSAL. -/
def Dev.maOwn (d : Dev) (code inst : Nat) : Nat :=
  match code with
  | 1 =>
    let st := d.get (Reg.CORES.STATE inst)
    let spares := (List.range 18).filter (fun c => d.get (Reg.CORES.STATE c) == kcSPARE)
    if spares.isEmpty then 4 else if st == kcACTIVE || st == kcSPARE then 0 else 3
  | 2 =>
    let st := d.armState inst
    if d.hasLease && d.get Reg.SPARE.SPARE_STATE == 0 && !d.bit Reg.SPARE.FAILED_LANES 6 && (st == asBLOCKED || st == asHOLD) then 0 else 3
  | 3 => if d.get Reg.MAINT.SRAM_SPARE_ROWS == 0 then 3 else 0
  | 4 => if d.get Reg.MAINT.MRAM_SPARE_BLOCKS == 0 then 3 else 0
  | 6 => if d.calAllowed inst then 0 else 3
  | _ => 0

/-- The judgement of a start: status and LAST_REFUSAL (0: accepted). -/
def Dev.maJudge (d : Dev) (code inst : Nat) : Nat × Nat :=
  let states := if maOffline code then [dsREADY] else [dsCONFIGURED, dsLINKS_UP, dsADMITTED, dsREADY, dsRUNNING]
  let known := match maLast code with
    | some l => decide (inst ≤ l)
    | none => false
  if !known || !d.dsIn states then (stSTATE, 3)
  else if d.maRun.any (fun s => (d.maScope (d.maCode s) (d.maInst s)).any (fun r => (d.maScope code inst).contains r)) then (stBUSY, 1)
  else if maCoverage code && d.maRun.any (fun s => maCoverage (d.maCode s)) then (stBUSY, 2)
  else
    let own := d.maOwn code inst
    if own != 0 then (stSTATE, own) else (stOK, 0)

/-- The spare core that comes next (spec R331, R383). -/
def Dev.spareCore (d : Dev) : Option Nat := (List.range 18).find? (fun c => d.get (Reg.CORES.STATE c) == kcSPARE)

/-- CORE_TEST of a core: an ACTIVE one gives way to a spare, which the slot remembers. -/
def Dev.coreTestBegin (d : Dev) (s c : Nat) : Dev :=
  let x := d.maint
  if d.get (Reg.CORES.STATE c) == kcACTIVE then
    let brought := match d.spareCore with
      | some b => x.brought.put s b
      | none => x.brought.drop s
    ((Dev.coreSpareIn { d with maint := { x with brought := brought } }).coreLeave c kcTESTING).maintSpares
  else (Dev.coreState { d with maint := { x with brought := x.brought.drop s } } c kcTESTING).maintSpares

/-- An accepted start (spec R383). -/
def Dev.maBegin (d : Dev) (s code inst : Nat) (auto : Bool) : Dev :=
  let d := d.sets [(Reg.MSLOT.STATUS s, 1), (Reg.MSLOT.FLAGS s, 2 * b2n auto + 4 * b2n (maCoverage code)), (Reg.MSLOT.START_TT s, d.tt)]
  match code with
  | 1 => d.coreTestBegin s inst
  | 2 => d.spareIn (inst + 1)
  | 6 => d.calAccept inst (if isPair inst then none else d.redundant inst)
  | _ => d

/-- A start in a slot: `auto` for one of the engine's own. -/
def Dev.maStart (d : Dev) (s : Nat) (auto : Bool) : Dev :=
  if d.maRunning s then d.ret stBUSY
  else
    let j := d.maJudge (d.maCode s) (d.maInst s)
    if j.1 == stOK then (d.maBegin s (d.maCode s) (d.maInst s) auto).ret stOK
    else (d.set Reg.MAINT.LAST_REFUSAL j.2).ret j.1

/-- The lowest slot in which nothing runs. -/
def Dev.maFree (d : Dev) : Option Nat := [0, 1, 2, 3].find? (fun s => !d.maRunning s)

/-- A write of 1 to CAL of a converter (spec R223, R224, R383): ADC_CAL in the lowest free slot. -/
def Dev.maCal (d : Dev) (k : Nat) : Dev :=
  match d.maFree with
  | none => d.ret stBUSY
  | some s =>
    let j := d.maJudge maADC_CAL k
    if j.1 == stOK then
      ((d.sets [(Reg.MSLOT.CODE s, maADC_CAL), (Reg.MSLOT.INSTANCE s, k)]).maBegin s maADC_CAL k false).ret stOK
    else (d.set Reg.MAINT.LAST_REFUSAL j.2).ret stBUSY

/-! Ends (spec R383, R386). -/

/-- A slot ends with a status. -/
def Dev.maEnd (d : Dev) (s status : Nat) : Dev :=
  d.sets [(Reg.MSLOT.STATUS s, status), (Reg.MSLOT.END_TT s, d.tt)]

/-- The self-test source of a test that finds a fault. -/
def maTestSource (code : Nat) : Option Nat :=
  match code with
  | 1 => some 191
  | 8 => some 111
  | 9 => some 143
  | 10 => some 31
  | 11 => some 31
  | _ => none

/-- A failed activity: F249, and for a test that found a fault F250 and the unit's self-test source. -/
def Dev.maFailed (d : Dev) (code : Nat) : Dev :=
  let d := (d.rise Reg.MAINT.LEAVES 0 uMAINT).raise 249 0
  match maTestSource code with
  | some f => (d.raise 250 0).raise f 0
  | none => d

/-- Bookkeeping of an activity's end; the unit's part is done. -/
def Dev.maClose (d : Dev) (s : Nat) (ok : Bool) (result : Nat) : Dev :=
  let d := (d.set (Reg.MSLOT.RESULT s) result).maEnd s (if ok then 2 else 3)
  (if ok then d else d.maFailed (d.maCode s)).maintSpares

/-- The running slot of an activity, if one runs. -/
def Dev.maSlotOf (d : Dev) (code inst : Nat) : Option Nat := d.maRun.find? (fun s => d.maCode s == code && d.maInst s == inst)

/-- The unit's part of an end: what the activity found changes state. The second part is RESULT. -/
def Dev.maUnit (d : Dev) (code inst : Nat) (ok : Bool) (value : Nat) : Dev × Nat :=
  match code with
  | 1 =>
    let st := if ok then kcSPARE else kcRETIRED
    (d.coreState inst st, st)
  | 2 =>
    let d := d.spareLoaded ok
    (d, d.get Reg.SPARE.SPARE_STATE)
  | 3 => (if ok then (d.set Reg.MAINT.SRAM_SPARE_ROWS (d.get Reg.MAINT.SRAM_SPARE_ROWS - 1)).raise 245 0 else d, inst)
  | 4 => (if ok then (d.set Reg.MAINT.MRAM_SPARE_BLOCKS (d.get Reg.MAINT.MRAM_SPARE_BLOCKS - 1)).raise 246 0 else d, inst)
  | 5 => (if inst == 1 then d.pwmCal ok else d, 0)
  | 6 => (d.calDone inst ok, 0)
  | 7 =>
    let w : F32 := BitVec.ofNat 32 value
    if ok && F32.isFinite w then
      ((d.setF Reg.MAINT.WEAR_NOW w).wearCheck, (F32.toIntRne (F32.mul w (F32.ofNat 1000))).toNat % 2 ^ 32)
    else (d, 0)
  | _ => (d, 0)

/-- After an automatic LANE_SPARE: ARM_CMD OPEN, then CLOSE at the next frame boundary (spec R387). -/
def Dev.maArmAfter (d : Dev) (code inst : Nat) (ok auto : Bool) : Dev :=
  if code == maLANE_SPARE && ok && auto then
    Dev.cmdAsk { d with maint := { d.maint with closeArm := some inst } } inst .openArm false
  else d

/-- MAINT_ACTIVITY_DONE. -/
def Dev.maDone (d : Dev) (s : Nat) (ok : Bool) (value : Nat) : Dev :=
  if !d.maRunning s then d
  else
    let code := d.maCode s
    let inst := d.maInst s
    let auto := d.bit (Reg.MSLOT.FLAGS s) 1
    let u := d.maUnit code inst ok value
    (u.1.maClose s ok u.2).maArmAfter code inst ok auto

/-- The end that the unit itself reports (CAL_DONE, SPARE_LOAD_DONE) closes the slot that started it. -/
def Dev.maReported (d : Dev) (code inst : Nat) (ok : Bool) (result : Nat) : Dev :=
  match d.maSlotOf code inst with
  | some s =>
    let auto := d.bit (Reg.MSLOT.FLAGS s) 1
    (d.maClose s ok result).maArmAfter code inst ok auto
  | none => d

/-- A CORE_TEST that stops leaves the core as it was (spec R386): ACTIVE where a spare took its place, and that one is a spare
again once its node has ended. -/
def Dev.coreTestUndo (d : Dev) (s c : Nat) : Dev :=
  let d := if (d.kcore c).node.isSome then d.setKcore c { d.kcore c with leave := none } else d
  match Tab.find d.maint.brought s with
  | some b =>
    let d := if d.get (Reg.CORES.STATE c) == kcTESTING then d.coreState c kcACTIVE else d
    let d := if d.get (Reg.CORES.STATE b) == kcACTIVE && d.get (Reg.CORES.STATE c) == kcACTIVE then d.coreLeave b kcSPARE else d
    { d with maint := { d.maint with brought := d.maint.brought.drop s } }
  | none => if d.get (Reg.CORES.STATE c) == kcTESTING then d.coreState c kcSPARE else d

/-- The unit goes back to where it was before the start (spec R386). -/
def Dev.maUndo (d : Dev) (s code inst : Nat) : Dev :=
  match code with
  | 1 => d.coreTestUndo s inst
  | 2 => if d.get Reg.SPARE.SPARE_STATE == 1 then
      { (d.sets [(Reg.SPARE.SPARE_STATE, 0), (Reg.SPARE.LAST_RESULT, 3)]) with spare := { d.spare with arm := 0 } } else d
  | 6 =>
    let x := d.cv inst
    if d.calibrating inst then (d.calOver inst).set (Reg.CV.CAL_STATE inst) x.calPrev
    else d.setCv inst { x with calWait := false, standIn := none }
  | _ => d

/-- A running activity ends ABORTED. -/
def Dev.maAborted (d : Dev) (s : Nat) : Dev := ((d.maUndo s (d.maCode s) (d.maInst s)).maEnd s 4).maintSpares

/-- MAINT_ABORT: `done` tells whether the completion handshake came before the engine acted, and how it ended. What a
WEAR_MEASURE that has completed measured is a free value (log 2). -/
def Dev.maAbort (d : Dev) (s : Nat) (done : Option Bool) : Dev :=
  if !d.maRunning s then d.ret stSTATE
  else
    match done with
    | some ok =>
      let v := if d.maCode s == maWEAR then d.fresh else (0, d)
      ((v.2.maDone s ok (v.1.toNat % 2 ^ 32)).set (Reg.MSLOT.FLAGS s) (setBit (d.get (Reg.MSLOT.FLAGS s)) 0)).ret stOK
    | none => (d.maAborted s).ret stOK

/-- The device enters TAKEOVER, BANKED, SAFE or RESET (spec R385). -/
def Dev.maintStop (d : Dev) : Dev := d.maRun.foldl Dev.maAborted d

/-! Automatic starts (spec R387). -/

/-- Add to the wanted activities, once: `due` is when the start is due. -/
def Dev.maWant (d : Dev) (bit code inst due : Nat) : Dev :=
  if !d.bit Reg.MAINT.AUTO bit || d.maint.want.any (fun w => w.code == code && w.inst == inst) then d
  else { d with maint := { d.maint with want := d.maint.want ++ [{ code := code, inst := inst, at_ := due }] } }

/-- Periodic activities that are due: each counts its interval from the last time it was. -/
def Dev.maPeriodic (d : Dev) : Dev :=
  let sec : Nat := 10000000000
  let cal := d.maint.calAt + d.get Reg.MAINT.CAL_INTERVAL * sec
  let d := if cal ≤ d.now then
      let d := [0, 1, 2].foldl (fun d i => d.maWant 4 maDELAY_CAL i cal) d
      { d with maint := { d.maint with calAt := d.now } }
    else d
  let adc := d.maint.adcAt + d.get Reg.MAINT.ADC_CAL_INTERVAL * sec
  let d := if adc ≤ d.now then
      let d := (List.range 18).foldl (fun d i => d.maWant 5 maADC_CAL i adc) d
      { d with maint := { d.maint with adcAt := d.now } }
    else d
  let wear := d.maint.wearAt + sec
  if wear ≤ d.now then
    let d := d.maWant 6 maWEAR 0 wear
    { d with maint := { d.maint with wearAt := d.now } }
  else d

/-- A repair or retirement for which no spare is left. -/
def Dev.maSpent (d : Dev) (code : Nat) : Bool :=
  (code == maSRAM_REPAIR && d.get Reg.MAINT.SRAM_SPARE_ROWS == 0) || (code == maMRAM_RETIRE && d.get Reg.MAINT.MRAM_SPARE_BLOCKS == 0)

/-- The wanted activities whose AUTO bit is still set, and for a repair or retirement with no spare left F248 in its place
(spec R387). -/
def Dev.maDrop (d : Dev) : Dev :=
  let l := d.maint.want.filter (fun w => d.bit Reg.MAINT.AUTO (w.code - 1))
  let spent := l.filter (fun w => d.maSpent w.code)
  let d : Dev := { d with maint := { d.maint with want := l.filter (fun w => !d.maSpent w.code) } }
  spent.foldl (fun d _ => d.raise 248 0) d

/-- MAINT_AUTO_START: the first wanted activity whose time has passed is started in the lowest free slot; a refused one is
tried again 1,000 ms later. At the instant itself a software START comes first (spec R384, log 98). -/
def Dev.maAuto (d : Dev) : Dev :=
  let d := if d.live then d.maPeriodic.maDrop else d
  match d.maint.want.find? (fun w => decide (w.at_ < d.now)) with
  | none => d
  | some w =>
    let rest := d.maint.want.filter (fun v => v != w)
    let st := d.status
    let again (d : Dev) : Dev := { d with maint := { d.maint with want := rest ++ [{ w with at_ := d.now + 10000000000 }] } }
    match d.maFree with
    | none => again d
    | some s =>
      let j := d.maJudge w.code w.inst
      if j.1 == stOK then
        let d := (d.sets [(Reg.MSLOT.CODE s, w.code), (Reg.MSLOT.INSTANCE s, w.inst)]).maBegin s w.code w.inst true
        Dev.ret { d with maint := { d.maint with want := rest } } st
      else again (d.set Reg.MAINT.LAST_REFUSAL j.2)

/-- What a damper event makes the engine want (spec R387): CORE_TEST after F164, LANE_SPARE after a lane fault whose arm is in
HOLD or goes there at its next sample. -/
def Dev.maintEvent (d : Dev) (src arm : Nat) : Dev :=
  if src == 164 then
    let v := d.get Reg.KILN.MISMATCH_CORES
    (d.maWant 0 maCORE_TEST (v / 256) d.now).maWant 0 maCORE_TEST (v % 256) d.now
  else if ((6 ≤ src && src ≤ 11) || src == 153) && arm < 6 &&
      (d.armState arm == asHOLD || (d.arm arm).asks.any (fun k => k.act == .hold)) && d.hasLease then d.maWant 1 maLANE_SPARE arm d.now
  else d

/-- ARM_CMD CLOSE of an automatic LANE_SPARE, at the frame boundary (spec R387). -/
def Dev.maintFrame (d : Dev) : Dev :=
  match d.maint.closeArm with
  | some a =>
    Dev.cmdAsk { d with maint := { d.maint with closeArm := none } } a .close false
  | none => d

/-! Memory errors (spec R26, R370, R378). -/

/-- A correctable SRAM error on a row: a repair is wanted after CE_LIMIT within CE_WINDOW. -/
def Dev.ceSram (d : Dev) (row : Nat) : Dev :=
  let keep := (d.maint.ce.get row []).filter (fun t => decide (d.now < t + d.get Reg.MAINT.CE_WINDOW * 10000000000))
  let l := d.now :: keep
  let hit := decide (d.get Reg.MAINT.CE_LIMIT ≤ l.length)
  let d : Dev := { d with maint := { d.maint with ce := d.maint.ce.put row (if hit then [] else l) } }
  if hit && d.bit Reg.MAINT.AUTO 2 then
    (if d.get Reg.MAINT.SRAM_SPARE_ROWS == 0 then d.raise 248 0 else d.maWant 2 maSRAM_REPAIR row d.now)
  else d

/-- A corrected MRAM error: one that recurs after the rewrite retires the block. -/
def Dev.ceMram (d : Dev) (block : Nat) : Dev :=
  if !d.maint.mramCe.contains block then { d with maint := { d.maint with mramCe := block :: d.maint.mramCe } }
  else if d.bit Reg.MAINT.AUTO 3 then
    (if d.get Reg.MAINT.MRAM_SPARE_BLOCKS == 0 then d.raise 248 0 else d.maWant 3 maMRAM_RETIRE block d.now)
  else d

/-- An uncorrectable error in the record in progress (spec R426, R430): it hits a closed block or the open one. -/
def Dev.recordError (d : Dev) (stream block : Nat) : Dev :=
  if d.acqState == acFILLING || d.acqState == acARMED then d.acqAbandon
  else { d with acq := { d.acq with
    blocks := d.acq.blocks.map (fun b => if b.stream == stream && b.block == block then { b with invalid := true } else b)
    streams := d.acq.streams.map (fun e => if e.1 == stream && e.2.block == block then (e.1, { e.2 with invalid := true }) else e) } }

/-- MEMORY_READ_ERROR. -/
def Dev.memError (d : Dev) (at_ : MemAt) (correctable : Bool) : Dev :=
  match at_, correctable with
  | .sram row _, true => ((d.count Reg.MAINT.CE_COUNT 32 1).raise 240 0).ceSram row
  | .mram b, true => ((d.count Reg.MAINT.CE_COUNT 32 1).raise 243 0).ceMram b
  | .mram _, false => d.raise 244 0
  | .sram _ .control, false => d.raise 241 0
  | .sram _ (.retention _), false => Dev.raise { d with twin := { d.twin with retError := true } } 241 0
  | .sram _ .capture, false => d.raise 242 0
  | .sram _ (.record s b), false => (d.raise 242 0).recordError s b

end Sys2Proof.Machine
end

