-- ==== Sys2Proof/Machine/Symbols.lean ====
section
/-!
DEFINITION. The line code of the cell link's downlink: 8b/10b symbols under a running disparity (spec R137, R166, R167). The
spec takes the code from IEEE 802.3 clause 36; its tables are that standard's.
-/
namespace Sys2Proof.Machine

/-- The six-bit code of x = EDCBA, bits abcdei, under negative running disparity. -/
def sixCodes : List Nat :=
  [0x27, 0x1D, 0x2D, 0x31, 0x35, 0x29, 0x19, 0x38, 0x39, 0x25, 0x15, 0x34, 0x0D, 0x2C, 0x1C, 0x17,
   0x1B, 0x23, 0x13, 0x32, 0x0B, 0x2A, 0x1A, 0x3A, 0x33, 0x26, 0x16, 0x36, 0x0E, 0x2E, 0x1E, 0x2B]

/-- The four-bit codes of y = HGF, bits fghj, under negative running disparity: data, and those of K28.y. -/
def fourCodes : List Nat := [0xB, 0x9, 0x5, 0xC, 0xD, 0xA, 0x6, 0xE]
def fourCodesK28 : List Nat := [0x4, 0x9, 0x5, 0x3, 0x2, 0xA, 0x6, 0x8]

/-- Ones among the low `w` bits. -/
def onesOf (w v : Nat) : Nat := ((List.range w).filter (fun i => v.testBit i)).length

/-- The running disparity after a sub-block of `w` bits. -/
def disparityAfter (rd : Bool) (w v : Nat) : Bool :=
  if onesOf w v * 2 == w then rd else decide (w < onesOf w v * 2)

/-- A code of the negative column, turned round under positive disparity where it does not stay as it is. -/
def column (rd : Bool) (w v : Nat) (alternates : Bool) : Nat := if rd && alternates then 2 ^ w - 1 - v else v

/-- A data byte as ten bits abcdeifghj, the first to leave on top, and the disparity after it. -/
def dataSymbol (rd : Bool) (b : Byte) : BitVec 10 × Bool :=
  let x := b.toNat % 32
  let y := b.toNat / 32
  let six0 := sixCodes.getD x 0
  let six := column rd 6 six0 (onesOf 6 six0 != 3 || x == 7)
  let mid := disparityAfter rd 6 six
  let alt := y == 7 && (if mid then [11, 13, 14] else [17, 18, 20]).contains x
  let four0 := if alt then 0x7 else fourCodes.getD y 0
  let four := column mid 4 four0 (onesOf 4 four0 != 2 || y == 3)
  (BitVec.ofNat 10 (16 * six + four), disparityAfter mid 4 four)

/-- K28.y. -/
def k28Symbol (rd : Bool) (y : Nat) : BitVec 10 × Bool :=
  let v := column rd 10 (16 * 0x0F + fourCodesK28.getD y 0) true
  (BitVec.ofNat 10 v, disparityAfter rd 10 v)

/-- A start symbol or a data byte. -/
inductive LinkSymbol where
  | k28 (y : Nat)
  | data (b : Byte)
deriving DecidableEq, Repr

def LinkSymbol.code (s : LinkSymbol) (rd : Bool) : BitVec 10 × Bool :=
  match s with
  | .k28 y => k28Symbol rd y
  | .data b => dataSymbol rd b

/-- Symbols in their order as they leave, and the disparity after them. -/
def lineCode (rd : Bool) : List LinkSymbol → List (BitVec 10) × Bool
  | [] => ([], rd)
  | s :: ss =>
    let c := s.code rd
    let r := lineCode c.2 ss
    (c.1 :: r.1, r.2)

/-- D5.6 (spec R166). -/
def fillByte : Byte := 0xC5

/-- `n` idle symbols: K28.5 and then D5.6 (spec R138, R166, log 84). -/
def idleSymbols : Nat → List LinkSymbol
  | 0 => []
  | n + 1 => .k28 5 :: List.replicate n (.data fillByte)

/-- The symbols of a slot: idle symbols before its content in the last slot of a frame, the content, and D5.6 up to the
slot's end (spec R138, R166). -/
def slotSymbols (pre k28 : Nat) (bytes : List Byte) (post : Nat) : List LinkSymbol :=
  idleSymbols pre ++ .k28 k28 :: bytes.map .data ++ List.replicate post (.data fillByte)

end Sys2Proof.Machine
end

