-- ==== Sys2Proof/Machine/Link.lean ====
section
/-!
DEFINITION. The downlink of the cell link: slots and their content, beacon, commands, management messages and
transactions, and what a port does at a frame boundary (spec R135–R145, R163–R178, R192–R197).
-/
namespace Sys2Proof.Machine

/-! Symbols and bytes (spec R166–R172). -/

abbrev kCOMMAND : Nat := 1
abbrev kBEACON : Nat := 2
abbrev kMGMT : Nat := 3
abbrev kIDLE : Nat := 5

def withCrc16 (bs : List Byte) : List Byte := bs ++ beBytes 2 (crc16 bs)

/-- The bytes of a command (spec R172). -/
def cmdBytes (c : DlCmd) (seq : Nat) : List Byte :=
  withCrc16 (beBytes 1 (128 * b2n c.group + c.dest) ++ beBytes 1 (16 * c.op + seq) ++ beBytes 3 c.exec ++ beBytes 1 c.flags)

/-- The prebuilt BLOCK to group 0 (spec R24, R178). -/
def blockCmd : DlCmd := { group := true, op := opBLOCK }

/-- FLAGS.REPEAT (spec R175). -/
def repeatFlag : Nat := 0x40

/-- What follows K28.5 in an idle slot: eight D5.6 (spec R166). -/
def idleBytes : List Byte := List.replicate 8 fillByte

/-- The beacon of a port (spec R170) whose fragment 0 leaves in slot `j`. -/
def Dev.beaconBytes (d : Dev) (p j : Nat) : List Byte :=
  let x := d.port p
  let a := (d.armOfPort p).getD 0
  let serial := match x.ranging with
    | some s => d.get (Reg.TURF.SERIAL s)
    | none => 0
  let b := beBytes 1 (8 * (j % 8) + 1) ++ beBytes 3 d.frame.n ++ beBytes 4 (d.frame.bn + 400 + 180 * j) ++
    beBytes 1 (64 + 32 * b2n x.tinderOpen + 16 * b2n x.ranging.isSome + d.get Reg.LINK.BO_MAX_EXP % 16) ++
    beBytes 1 (d.get Reg.LINK.TF) ++ beBytes 1 x.plan.nSod ++
    beBytes 1 (16 * x.plan.mgmt + d.get (Reg.MODE.PROFILE_ARM a) % 16) ++
    beBytes 2 (5 * (x.plan.eq - 1000 - x.plan.lo)) ++ beBytes 2 (5 * (x.plan.hi - x.plan.lo)) ++
    beBytes 1 (128 + 32 * b2n (d.bit Reg.KINDLE.STRAPS 2)) ++ beBytes 2 (5 * (x.plan.eq - 1000)) ++
    (beBytes 8 serial).take 5 ++ beBytes 1 192 ++ (beBytes 8 serial).drop 5
  b ++ beBytes 4 (crc32 b)

/-! Management messages (spec R193–R195). -/

/-- The fragments of a message with its CRC, seven bytes each, from index `i`. -/
def fragments : Nat → Nat → List Byte → List (List Byte)
  | 0, _, _ => []
  | fuel + 1, i, bs =>
    let last := decide (bs.length ≤ 7)
    let head := beBytes 1 (128 * b2n (i == 0) + 64 * b2n last + i % 16)
    (head ++ (bs.take 7 ++ List.replicate 7 0).take 7) :: (if last then [] else fragments fuel (i + 1) (bs.drop 7))

def messageFragments (bs : List Byte) : List (List Byte) := fragments 16 0 (withCrc16 bs)

/-- A new TID on a port (spec R196). -/
def Dev.newTid (d : Dev) (p : Nat) : Nat × Dev :=
  let x := d.port p
  (x.tidNext, d.setPort p { x with tidNext := (x.tidNext + 1) % 256 })

/-- A slot leaves a port: its symbols move the running disparity, which goes on across slots and frames (spec R166, R167). -/
def Dev.sendSlot (d : Dev) (p pre k28 : Nat) (bytes : List Byte) (post : Nat) : Dev :=
  let x := d.port p
  (d.setPort p { x with rd := (lineCode x.rd (slotSymbols pre k28 bytes post)).2 }).send (.slot p x.rd pre k28 bytes post)

/-- A message by serial waits on a port (spec R195). -/
def Dev.messageTo (d : Dev) (p type serial : Nat) (body : List Byte) (admitSlot : Option Nat) : Dev :=
  let t := d.newTid p
  let d := t.2
  let x := d.port p
  d.setPort p { x with mgmtQ := x.mgmtQ ++
    [{ bytes := beBytes 1 type ++ beBytes 1 t.1 ++ beBytes 8 serial ++ body, admitSlot := admitSlot }] }

/-- ANNOUNCE_ACK QUEUED, and QUIET for QUIET_FRAMES. -/
def Dev.ackQueued (d : Dev) (p serial : Nat) : Dev := d.messageTo p 1 serial (leBytes 3 0) none
def Dev.ackQuiet (d : Dev) (p serial : Nat) : Dev :=
  d.messageTo p 1 serial (beBytes 1 1 ++ beBytes 2 (d.get Reg.LINK.QUIET_FRAMES)) none
def Dev.deadmit (d : Dev) (s : Nat) : Dev := d.messageTo (portOf s) 3 (d.get (Reg.TURF.SERIAL s)) [] none

/-! Transactions (spec R196, R197, R291). -/

/-- The seed of SW_COUNT fails (spec R291). A cell whose port serves no arm has no SW_FLOOR: that value is open (log 91). -/
def Dev.seedFail (d : Dev) (s : Nat) : Dev :=
  let c := d.cell s
  let arm := d.armOfPort (portOf s)
  let f := d.fresh
  let floor := match arm with
    | some a => d.get (Reg.LANE.SW_FLOOR a)
    | none => f.1.toNat
  let d := if arm.isSome then d else f.2
  let d := (d.set (Reg.CELL.SW_COUNT s) ((floor + c.collected) % 2 ^ 64)).setFlag s flSEED_PENDING false
  let d := d.setCell s { c with collected := 0, counted := true }
  match arm with
  | some a => (d.rise (Reg.LANE.LEAVES a) 6 uSTACK).raiseStack 156 a (some s)
  | none => d.raiseStack 156 0xFF (some s)

/-- A transaction that was tried and ends NO_RESPONSE: MGMT_FAILED and F053 (spec R196). -/
def Dev.mgmtFailed (d : Dev) (s : Nat) : Dev := (d.rise Reg.LSTAT.LEAVES 7 uLINK).raiseCell 53 s

/-- A transaction ends NO_RESPONSE. -/
def Dev.txnNoResponse (d : Dev) (t : Txn) : Dev :=
  let d := if 0 < t.tries then d.mgmtFailed t.slot else d
  if t.seed then d.seedFail t.slot else d.set Reg.MBX.STATUS 3

/-- A try of a transaction waits for the downlink, whole or in part. -/
def PortX.unsent (x : PortX) (tid : Nat) : Bool :=
  x.mgmtQ.any (fun m => m.tid == some tid) || (!x.frags.isEmpty && x.fragTid == some tid)

/-- A transaction is cut off: what waits of its request is dropped, and a try that has not left whole is none (spec R197). -/
def Dev.txnCut (d : Dev) (p : Nat) (t : Txn) : Dev :=
  let x := d.port p
  let t : Txn := if x.unsent t.tid then { t with tries := t.tries - 1 } else t
  let d := d.setPort p { x with
    mgmtQ := x.mgmtQ.filter (fun m => m.tid != some t.tid)
    frags := if x.fragTid == some t.tid then [] else x.frags }
  d.txnNoResponse t

/-- The request of a transaction as message bytes (spec R195). -/
def Txn.message (t : Txn) : List Byte :=
  beBytes 1 (if t.body.isEmpty then 0x10 else 0x11) ++ beBytes 1 t.tid ++ beBytes 1 (addrOf t.slot) ++ beBytes 1 t.rsp ++
    beBytes 2 t.param ++ t.body

/-- One try of a transaction waits for the downlink. -/
def Dev.txnTry (d : Dev) (p : Nat) (t : Txn) : Dev :=
  let t : Txn := { t with tries := t.tries + 1, due := none, expect := none }
  let x := d.port p
  d.setPort p { x with txns := x.txns.filter (fun u => u.rsp != t.rsp) ++ [t]
                       mgmtQ := x.mgmtQ ++ [{ bytes := t.message, tid := some t.tid }] }

/-- The lowest response slot that no transaction of the port holds. -/
def PortX.freeRsp (x : PortX) : Option Nat :=
  (List.range x.plan.mgmt).find? (fun r => !x.txns.any (fun t => t.rsp == r))

/-- Start waiting transactions as response slots come free; each gets its TID now. -/
def Dev.txnServe (d : Dev) (p : Nat) : Nat → Dev
  | 0 => d
  | fuel + 1 =>
    let x := d.port p
    match x.txnWait, x.freeRsp with
    | t :: rest, some r =>
      let n := Dev.newTid (d.setPort p { x with txnWait := rest }) p
      (n.2.txnTry p { t with tid := n.1, rsp := r }).txnServe p fuel
    | _, _ => d

/-- A new transaction of a cell. On a port without response slots it ends at once (spec R197). -/
def Dev.txnStart (d : Dev) (s param : Nat) (body : List Byte) (seed : Bool) : Dev :=
  let p := portOf s
  let x := d.port p
  let t : Txn := { tid := 0, slot := s, rsp := 0, param := param, body := body, seed := seed }
  if x.plan.mgmt == 0 then d.txnNoResponse t
  else (d.setPort p { x with txnWait := x.txnWait ++ [t] }).txnServe p 1

/-- A transaction leaves its port. -/
def Dev.txnDrop (d : Dev) (p rsp : Nat) : Dev :=
  let x := d.port p
  d.setPort p { x with txns := x.txns.filter (fun t => t.rsp != rsp) }

/-- MGMT_SLOTS of the plan in force has changed (spec R197). -/
def Dev.mgmtLowered (d : Dev) (p : Nat) : Dev :=
  let x := d.port p
  let cut := x.txns.filter (fun t => decide (x.plan.mgmt ≤ t.rsp))
  let d := d.setPort p { x with txns := x.txns.filter (fun t => decide (t.rsp < x.plan.mgmt)) }
  let d := cut.foldl (fun d t => d.txnCut p t) d
  let x := d.port p
  if x.plan.mgmt == 0 then x.txnWait.foldl Dev.txnNoResponse (d.setPort p { x with txnWait := [] })
  else d.txnServe p 8

/-! Commands that leave (spec R139, R172, R189–R192). -/

/-- A unicast command leaves the balls at `left`: it takes its SEQ now where it has none, and is kept for the echo check. -/
def Dev.sentUnicast (d : Dev) (s : Nat) (c : DlCmd) (left : Nat) : Nat × Dev :=
  let seq := c.seq.getD ((d.get (Reg.CELL.SEQ s) + 1) % 16)
  let x := d.cell s
  let blocked := match (d.port (portOf s)).blocks with
    | t :: _ => decide (x.admitTt < t) && x.sent.all (fun e => decide (e.tt < t))
    | [] => false
  let prior := if blocked then swBLK else (x.sent.head?.map SentCmd.state).getD x.baseState
  let st := if c.op ≤ opBLOCK then opState c.op else prior
  let x := { x with
    sent := ({ seq := seq, op := c.op, state := st, tt := left, isRepeat := c.isRepeat } :: x.sent).take 32
    recent := if c.seq.isNone then d.tt :: x.recent else x.recent
    repeatTt := if c.isRepeat then some left else x.repeatTt
    echoHold := false }
  let d := d.setCell s x
  (seq, if c.seq.isNone then d.set (Reg.CELL.SEQ s) seq else d)

/-- A command slot leaves a port at `t0`; in the last slot of a frame idle symbols stand before and fill symbols after it (spec
R138, R166, R440). -/
def Dev.sendCommand (d : Dev) (p t0 : Nat) (c : DlCmd) (pre post : Nat) : Dev :=
  let left := t0 + 400
  let r := if c.group then (0, d) else d.sentUnicast (128 * p + c.dest) c left
  let d := r.2
  let x := d.port p
  let d := if c.group && c.op == opBLOCK then d.setPort p { x with blocks := left :: x.blocks } else d
  let d := if c.isRepeat then d.count Reg.LSTAT.REPEATS 32 1 else d
  let d := d.ashNote (0x400 + p) (siOf d.tt) 1
  (d.sendSlot p pre kCOMMAND (cmdBytes c r.1) post).event (0x130 + p)

/-- The dedicated BLOCK leaves and starts a confirmation run; an earlier run ends with its repeats (spec R192). A port
that goes to SAFE is disabled after it (spec R97). -/
def Dev.sendBlock (d : Dev) (p t0 pre post : Nat) : Dev :=
  let d := d.sendCommand p t0 blockCmd pre post
  let x := d.port p
  let x := { x with blockWord := false, run := some { tt := t0 + 400, frame := d.frame.n }
                    otherQ := x.otherQ.filter (fun c => !(c.group && c.op == opBLOCK)) }
  d.setPort p (if x.closing then { x with live := false, closing := false } else x)

/-- The first other command that need not wait for the limit of R189, with the rest. -/
def Dev.otherReady (d : Dev) (p : Nat) : Option (DlCmd × List DlCmd) :=
  let x := d.port p
  match x.otherQ.findIdx? (fun c => !(c.limited && d.cmdLimit (128 * p + c.dest))) with
  | some i => (x.otherQ[i]?).map (fun c => (c, x.otherQ.eraseIdx i))
  | none => none

/-- The next beacon fragment leaves in slot `j`. -/
def Dev.sendBeacon (d : Dev) (p j post : Nat) : Dev :=
  let x := d.port p
  let x := if x.fragsSent == 0 then { x with beacon := d.beaconBytes p j } else x
  let d := d.setPort p { x with fragsSent := x.fragsSent + 1, fresh := false }
  let d := if x.fragsSent == 0 && 0 < j then d.count (Reg.PORT.BEACON_DISPLACED p) 32 1 else d
  d.sendSlot p 0 kBEACON ((x.beacon.drop (8 * x.fragsSent)).take 8) post

/-- The last fragment of a message has left in this frame: when its response may come, and when an admission began. -/
def Dev.messageLeft (d : Dev) (p : Nat) : Dev :=
  let x := d.port p
  let n := d.frame.n
  let d := match x.fragTid with
    | some tid => d.setPort p { x with txns := x.txns.map (fun t => if t.tid == tid then { t with due := some (n + 2) } else t) }
    | none => d
  match x.fragAdmit with
  | some s => d.setCell s { d.cell s with admitFrame := n, admitTt := d.tt }
  | none => d

/-- The message that is leaving is a nonvolatile PARAM_WRITE that the device may not send now: the schedule of its tries runs
on, and an idle slot leaves in its place (spec R196, R200). -/
def Dev.withheld (d : Dev) (p : Nat) : Bool :=
  let x := d.port p
  !d.hasLease && x.txns.any (fun t => x.fragTid == some t.tid && t.param.testBit 12 && !t.body.isEmpty)

/-- The next management fragment; the fragments of one message follow one another (spec R194). A disabled transmitter
sends it to nobody (spec R196). -/
def Dev.sendMgmt (d : Dev) (p post : Nat) : Dev :=
  let x := d.port p
  let x := match x.frags, x.mgmtQ with
    | [], m :: rest => { x with frags := messageFragments m.bytes, fragTid := m.tid, fragAdmit := m.admitSlot, mgmtQ := rest }
    | _, _ => x
  match x.frags with
  | [] => d
  | f :: rest =>
    let d := d.setPort p { x with frags := rest }
    let d := if !x.live then d else if d.withheld p then d.sendSlot p 0 kIDLE idleBytes post else d.sendSlot p 0 kMGMT f post
    if rest.isEmpty then d.messageLeft p else d

/-- Another command may start: 200 ns since the last (spec R139). -/
def PortX.otherDue (x : PortX) (t0 : Nat) : Bool :=
  match x.lastOther with
  | some t => decide (t + 2000 ≤ t0)
  | none => true

/-- The slot to which now is a start point: its number, the symbol of the slot that starts now, and how many start points the
slot has beside its first: k in the last slot of the frame, none in the others (spec R138). -/
def Dev.slotNow (d : Dev) : Option (Nat × Nat × Nat) :=
  let tf := d.frame.next - d.frame.bn
  let off := d.tt - d.frame.bn
  let nDl := tf / 180
  let j := min (off / 180) (nDl - 1)
  let k := if j + 1 == nDl then tf / 20 - 9 * nDl else 0
  let r := off - 180 * j
  if !d.frame.started || d.tt < d.frame.bn || d.frame.next ≤ d.tt then none
  else if r % 20 == 0 && r / 20 ≤ k then some (j, r / 20, k)
  else none

/-- Content of a slot in the order of R139, at its start symbol `i` of `k`. In the last slot a command may start late, what else
leaves starts with the slot, and an idle slot is settled at the last start point. With the frame of its release a port sends
its beacon first (spec R136). -/
def Dev.slotContent (d : Dev) (p j i k : Nat) : Dev :=
  let x := d.port p
  let used := d.setPort p { x with slotUsed := some (d.frame.n, j) }
  if !x.live then (if i == 0 then used.sendMgmt p k else d)
  else if x.fresh then (if i == 0 then used.sendBeacon p j k else d)
  else if x.blockWord then used.sendBlock p d.tt i (k - i)
  else match x.stackQ with
  | c :: rest => Dev.sendCommand (d.setPort p { x with stackQ := rest, slotUsed := some (d.frame.n, j) }) p d.tt c i (k - i)
  | [] =>
    match if x.otherDue d.tt then d.otherReady p else none with
    | some (c, rest) =>
      Dev.sendCommand (d.setPort p { x with otherQ := rest, slotUsed := some (d.frame.n, j), lastOther := some d.tt }) p d.tt c i (k - i)
    | none =>
      if i == 0 && x.fragsSent < 4 then used.sendBeacon p j k
      else if i == 0 && (!x.frags.isEmpty || !x.mgmtQ.isEmpty) then used.sendMgmt p k
      else if i == k then used.sendSlot p 0 kIDLE idleBytes k else d

/-- A port at a slot boundary (spec R139): a beacon not complete by slot 23 raises F035. On an unmapped port, whose transmitter
is disabled, only the schedule of management messages runs on (spec R196). -/
def Dev.downlinkSlot (d : Dev) (p : Nat) : Dev :=
  match d.slotNow with
  | none => d
  | some (j, i, k) =>
    let x := d.port p
    if x.slotUsed == some (d.frame.n, j) then d
    else
      let d := if x.live && x.fragsSent < 4 && 24 ≤ j && !x.beaconLate then
          (d.setPort p { x with beaconLate := true }).raisePort 35 p else d
      d.slotContent p j i k

/-! A port at a frame boundary (spec R136, R143, R145, R153, R163, R164, R192, R197). -/

/-- The plan as the strobes have left it. -/
def Dev.planOf (d : Dev) (p : Nat) : Plan :=
  { eq := d.get (Reg.PORT.EQ_TARGET p), nSod := d.get (Reg.PORT.N_SOD p), mgmt := d.get (Reg.PORT.MGMT_SLOTS p)
    lo := d.get (Reg.PORT.TINDER_LO p), hi := d.get (Reg.PORT.TINDER_HI p) }

/-- L of R143 in bit-times. -/
def Plan.span (q : Plan) : Int := 220 * q.nSod + 3520 + 5 * ((q.hi : Int) - q.lo) + 16000

/-- PLAN_SLACK under a TF in units of 100 ns. -/
def Plan.slack (q : Plan) (tf : Nat) : Int := 500 * tf - q.span

/-- The plan fits (spec R143, R150, R161). -/
def Plan.fits (q : Plan) (tf : Nat) : Bool :=
  decide (0 ≤ q.slack tf) && decide (q.hi + 1000 ≤ q.eq) && decide (q.lo ≤ q.hi)

/-- Cell slots of a port that the device keeps a record of. -/
def Dev.portSlots (d : Dev) (p : Nat) : List Nat := d.knownSlots.filter (fun s => portOf s == p)

def Dev.hasActive (d : Dev) (p : Nat) : Bool := (d.portSlots p).any (fun s => d.cellState s == csACTIVE)

/-- `k` errors of R163 on a port. -/
def Dev.portErrors (d : Dev) (p k : Nat) : Dev :=
  let x := d.port p
  let n := x.errCount + k
  let exceeds := decide (d.get (Reg.PORT.ERR_LIMIT p) < n) && !x.errRaised
  let d := (d.setPort p { x with errCount := n, errRaised := x.errRaised || exceeds }).events (0x118 + p) k
  if exceeds then (d.rise (Reg.PORT.LEAVES p) 0 uLINK).raisePort 32 p else d

/-- LOS, silence and rogue bursts of the frame that ends (spec R163, R164). -/
def Dev.portChecks (d : Dev) (p : Nat) : Dev :=
  let x := d.port p
  let lv := Reg.PORT.LEAVES p
  let losRun := if x.losSeen then x.losRun + 1 else 0
  let silentRun := if x.hadActive && x.live && !x.goodSeen then x.silentRun + 1 else 0
  let unexpRun := if x.unexpSeen then x.unexpRun + 1 else 0
  let cleanRun := if x.unexpSeen then 0 else x.cleanRun + 1
  let d := if x.losSeen then d.count (Reg.PORT.LOS_FRAMES p) 32 1 else d
  let los := decide (3 ≤ losRun) || (d.bit lv 1 && x.losSeen)
  let silent := decide (3 ≤ silentRun) || (d.bit lv 2 && x.live && !x.goodSeen)
  let rogue := decide (16 ≤ unexpRun) || (d.bit lv 7 && decide (cleanRun < 16))
  let note (d : Dev) (b : Bool) (k : Nat) : Dev := if b && !d.bit lv k then d.set Reg.LINK.LAST_FAULT_PORT p else d
  let d := (note d los 1).leafRaise lv 1 uLINK los 33 0xFF p
  let d := (note d silent 2).leafRaise lv 2 uLINK silent 34 0xFF p
  let d := (note d rogue 7).leafRaise lv 7 uLINK rogue 40 0xFF p
  d.setPort p { x with
    losRun := losRun, losSeen := false, silentRun := silentRun, goodSeen := false, hadActive := x.live && d.hasActive p
    unexpRun := min unexpRun 16, cleanRun := min cleanRun 16, unexpSeen := false }

/-- An error window ends at a frame whose count is a multiple of 1,024 (spec R163). -/
def Dev.portWindow (d : Dev) (p : Nat) : Dev :=
  if d.frame.n % 1024 == 0 then
    let x := d.port p
    (d.setPort p { x with errCount := 0, errRaised := false }).set (Reg.PORT.ERR_WINDOW p) (min x.errCount 65535)
  else d

/-- The plan, the ranging window and the tinder window of the frame that begins, and TX_DIS (spec R136, R145, R153): the
cell that is ranged waits no longer. -/
def Dev.portBegin (d : Dev) (p : Nat) : Dev :=
  let x := d.port p
  let n := d.frame.n
  let ranges := (d.armOfPort p).isSome && !x.rangeQ.isEmpty && (match x.lastRange with
    | some f => decide (d.get Reg.LINK.RANGE_INTERVAL ≤ n - f)
    | none => true)
  let q := if ranges then x.rangeQ.tail else x.rangeQ
  let release := !x.live && (match x.freeSince with
    | some t => decide (t + 40 < d.frame.bn)
    | none => false)
  let recent (t : Nat) : Bool := decide (d.frame.bn < t + 2000000)
  let x := { x with
    live := x.live || release, fresh := release
    blocks := x.blocks.takeWhile recent ++ (x.blocks.dropWhile recent).take 1
    brst := x.brst.filter (fun t => decide (d.frame.bnOld ≤ t))
    planOld := x.plan, plan := d.planOf p, rangingOld := x.ranging
    ranging := if ranges then x.rangeQ.head? else none
    rangeQ := q
    lastRange := if ranges then some n else x.lastRange
    tinderOpen := d.on (Reg.PORT.TINDER_EN p) && decide (q.length < d.get Reg.LINK.RQ_MAX)
    fragsSent := 0, beaconLate := false, slotUsed := none }
  let lowered := decide (x.plan.mgmt < x.planOld.mgmt)
  let d := d.setPort p x
  if lowered then d.mgmtLowered p else d.txnServe p 8

/-- The frame in which a response is expected is the first at or after the due frame without a ranging window (spec R196). -/
def Dev.portExpect (d : Dev) (p : Nat) : Dev :=
  let x := d.port p
  if x.ranging.isSome then d
  else d.setPort p { x with txns := x.txns.map (fun t => match t.due, t.expect with
    | some f, none => if f ≤ d.frame.n then { t with expect := some d.frame.n } else t
    | _, _ => t) }

/-- A confirmation run repeats its BLOCK in each of the 3 frames after its own, and in no later one (spec R192). -/
def Dev.portRepeat (d : Dev) (p : Nat) : Dev :=
  let x := d.port p
  match x.run with
  | some r =>
    let q := x.otherQ.filter (fun c => !(c.group && c.op == opBLOCK))
    if x.live && r.frame < d.frame.n && d.frame.n ≤ r.frame + 3 then d.setPort p { x with otherQ := q ++ [blockCmd] }
    else d.setPort p { x with otherQ := q }
  | none => d

/-- A port at a frame boundary. -/
def Dev.portFrame (d : Dev) (p : Nat) : Dev :=
  ((((d.portChecks p).portWindow p).portBegin p).portExpect p).portRepeat p

/-- Ports with something to do at a frame boundary: the mapped ones, and of the others those whose plan or record is not as
at reset. -/
def Dev.framePorts (d : Dev) : List Nat :=
  (List.range 24).filter (fun p =>
    (d.armOfPort p).isSome || (d.link.ports.find p).isSome || d.regs.any (fun e => e.1 / 256 == 0x2300 + p))

/-- The ports at a frame boundary. -/
def Dev.portsFrame (d : Dev) : Dev := d.framePorts.foldl Dev.portFrame d

/-- The repeats of IDENTIFY (spec R156). -/
def Dev.identifyRepeats (d : Dev) : Dev :=
  let l := d.link.identify
  let d := l.foldl (fun d e => d.messageTo e.1 4 e.2.1 (beBytes 1 e.2.2.1) none) d
  let left := (l.filter (fun e => decide (1 < e.2.2.2))).map (fun e => (e.1, e.2.1, e.2.2.1, e.2.2.2 - 1))
  { d with link := { d.link with identify := left } }

/-! RX_BRST (spec R142). -/

/-- An offset `y` (100 ps) from U(n) lies in a pulse of 8 bit-times that R142 puts into the uplink frame of a plan: 12 bit-times
before the end of each sod and management slot, and at the start of the tinder region and of the ranging window (log 86). -/
def Plan.brst (q : Plan) (window : Bool) (y : Nat) : Bool :=
  let tinder := 440 * q.nSod
  let mgmt := 2 * (220 * q.nSod + 3520 + 5 * (q.hi - q.lo))
  if y < tinder then decide (416 ≤ y % 440) && decide (y % 440 < 432)
  else if y < mgmt then decide (y < tinder + 16)
  else if window then decide (y < mgmt + 16)
  else decide (y < mgmt + 880 * q.mgmt) && decide (856 ≤ (y - mgmt) % 880) && decide ((y - mgmt) % 880 < 872)

/-- The level of RX_BRSTp at a TT of the present frame or of the late part of the one before (spec R135, R142): high pulses
before the end of slots, at the start of regions, and after the bursts that have been decoded. -/
def Dev.rxBrst (d : Dev) (p t : Nat) : Bool :=
  let x := d.port p
  let u := d.frame.bn + 400 + 10 * x.plan.eq
  let old := d.frame.bnOld + 400 + 10 * x.planOld.eq
  (d.armOfPort p).isSome && d.frame.started &&
    ((if u ≤ t then x.plan.brst (x.lastRange == some d.frame.n) (t - u)
      else if old ≤ t && 0 < d.frame.n then x.planOld.brst (x.lastRange == some (d.frame.n - 1)) (t - old)
      else false) ||
      x.brst.any (fun b => decide (b ≤ t) && decide (t < b + 16)))

/-! What a read of a port shows (spec R161). -/

def Dev.portState (d : Dev) (p : Nat) : Nat :=
  if (d.armOfPort p).isNone then 0 else if (d.port p).live then 2 else 1

def Dev.activeCells (d : Dev) (p : Nat) : Nat :=
  ((d.portSlots p).filter (fun s => let st := d.cellState s; decide (csACTIVE ≤ st) && decide (st ≤ csDISPUTED))).length

end Sys2Proof.Machine
end

