-- ==== Sys2Proof/Machine/Uplink.lean ====
section
/-!
DEFINITION. The uplink of the cell link: bursts, sods and what they show, echo checks and disputes, drift, announces,
ranging, admission, management responses, strangers and the turf (spec R140–R157, R163–R164, R179–R201, R281–R291).
-/
namespace Sys2Proof

open Machine in
/-- A good code and CRC (spec R168, R179). -/
def Burst.crcOk (b : Burst) : Bool :=
  decide (4 ≤ b.bytes.length) && crc16 (b.bytes.take (b.bytes.length - 2)) == ofBe (b.bytes.drop (b.bytes.length - 2))

open Machine in
def Burst.typ (b : Burst) : Nat := (ofBe (b.bytes.take 2)) / 4096
open Machine in
def Burst.frame (b : Burst) : Nat := (ofBe (b.bytes.take 2)) / 256 % 16
open Machine in
def Burst.addr (b : Burst) : Nat := (ofBe (b.bytes.take 2)) % 128
def Burst.payload (b : Burst) : List Byte := (b.bytes.drop 2).take (b.bytes.length - 4)

end Sys2Proof

namespace Sys2Proof.Machine

/-! Bursts (spec R140–R142, R179, R180). -/

/-- The frame to which something at offset `x` (bit-times) of the uplink frame belongs when it is seen now: the present
one once its place has come, else the one before, with that frame's boundary and plan. -/
def Dev.uplinkOf (d : Dev) (p : Nat) (offset : Plan → Nat) : Nat × Nat × Plan × Bool :=
  let x := d.port p
  if d.frame.bn + 400 + 10 * x.plan.eq + 2 * offset x.plan ≤ d.tt then (d.frame.n, d.frame.bn, x.plan, true)
  else (d.frame.n - 1, d.frame.bnOld, x.planOld, false)

/-- Offsets of the regions (spec R141). -/
def Plan.tinder (q : Plan) : Nat := 220 * q.nSod
def Plan.mgmtAt (q : Plan) : Nat := 220 * q.nSod + 3520 + 5 * (q.hi - q.lo)

/-- A burst with a good CRC in the wrong place (spec R185). -/
def Dev.misplaced (d : Dev) (slot : Option Nat) : Dev :=
  let d := (d.count Reg.LSTAT.MISPLACED 32 1).rise Reg.LSTAT.LEAVES 3 uLINK
  match slot with
  | some s => d.raiseCell 51 s
  | none => d.raise 51 0

/-- `n` bursts with a code or disparity violation (spec R163). -/
def Dev.codeViolations (d : Dev) (p n : Nat) : Dev :=
  if n == 0 then d else (d.count (Reg.PORT.CODE_VIOL p) 32 n).portErrors p n
def Dev.codeViolation (d : Dev) (p : Nat) : Dev := d.codeViolations p 1

/-- A burst where none was expected (spec R164). -/
def Dev.unexpected (d : Dev) (p : Nat) : Dev :=
  let d := d.count (Reg.PORT.UNEXPECTED p) 32 1
  d.setPort p { d.port p with unexpSeen := true }

/-- A burst, or its energy, in the idle part of the frame (spec R163, R164, log 108). -/
def Dev.idleBurst (d : Dev) (p : Nat) (codeOk : Bool) : Dev :=
  let d := d.unexpected p
  if codeOk then d else d.codeViolation p

/-- A burst where none was expected, which may break the rules of its place as well (spec R163, R164, R185): `good` says that
TYPE, ADDR and FRAME are those of the place. -/
def Dev.unexpectedBurst (d : Dev) (p : Nat) (b : Burst) (good : Bool) (slot : Option Nat) : Dev :=
  let d := d.unexpected p
  if !b.codeOk then d.codeViolation p else if b.crcOk && !good then d.misplaced slot else d

/-! Leaving and joining the stack (spec R154, R287, R288). -/

/-- A cell leaves the stack for ANNOUNCED or ABSENT: it has dropped its admission and is in BLK. -/
def Dev.leaveStack (d : Dev) (s : Nat) : Dev :=
  let d := if !d.inserted s then d.setCmd s swBLK false else if d.leaving s then d.removeAs s swBLK else d.uncount s swBLK false
  let d := d.setFlag s flUNCONFIRMED false
  let x := d.port (portOf s)
  let own (c : DlCmd) : Bool := !c.group && c.dest == addrOf s
  d.setPort (portOf s) { x with stackQ := x.stackQ.filter (fun c => !own c), otherQ := x.otherQ.filter (fun c => !own c) }

/-- Repeats that wait for a cell are discarded. -/
def Dev.dropRepeats (d : Dev) (s : Nat) : Dev :=
  let x := d.port (portOf s)
  d.setPort (portOf s) { x with otherQ := x.otherQ.filter (fun c => !(c.isRepeat && c.dest == addrOf s)) }

/-- GROUP_SET of one membership place, join or leave (spec R174, R295). -/
def Dev.groupSet (d : Dev) (s place group : Nat) (join : Bool) : Dev :=
  d.other (portOf s) { dest := addrOf s, op := opGROUP_SET, exec := place * 256 + 128 * b2n join + group, limited := true }

def groupAt (v k : Nat) : Nat := v / 256 ^ k % 256

/-- GROUP_SET for each non-empty place (spec R295). -/
def Dev.groupsAll (d : Dev) (s : Nat) : Dev :=
  (List.range 8).foldl (fun d k =>
    let g := groupAt (d.get (Reg.CELL.GROUPS s)) k
    if g == 0 then d else d.groupSet s k g true) d

/-- The switching count at entry into ACTIVE from ADMITTED (spec R291). -/
def Dev.seedStart (d : Dev) (s : Nat) : Dev :=
  match d.armOfSlot s with
  | some a =>
    let c := d.cell s
    if d.on (Reg.LANE.SEED_SW a) then
      ((d.setFlag s flSEED_PENDING true).setCell s { c with collected := 0, counted := true }).txnStart s 0x0014 [] true
    else if c.counted then d
    else (d.setCell s { c with counted := true }).set (Reg.CELL.SW_COUNT s) (d.get (Reg.LANE.SW_FLOOR a))
  | none => d

/-! Leaves that follow the cells (spec R202, R209). -/

/-- Live leaf CELL_FAULT: an ACTIVE cell's latest good sod shows FAULT. -/
def Dev.faultLeaf (d : Dev) : Dev :=
  d.leaf Reg.LSTAT.LEAVES 4 uLINK (d.knownSlots.any (fun s => d.cellState s == csACTIVE && d.flag s flFAULT))

/-- A change runs (spec R203). -/
def Dev.modeBusy (d : Dev) : Bool := let st := d.get Reg.MODE.STATE; decide (1 ≤ st) && decide (st ≤ 3)

/-- A cell from ACTIVE on whose latest good sod shows PROFILE_OK 0. -/
def Dev.profileBad (d : Dev) (s : Nat) : Bool := decide (csACTIVE ≤ d.cellState s) && d.flag s flPROFILE_BAD

/-- Live leaf PROFILE_MISMATCH with F058: a cell shows PROFILE_OK 0 outside a change. -/
def Dev.profileLeaf (d : Dev) : Dev :=
  let bad := if d.modeBusy then none
    else d.knownSlots.find? d.profileBad
  match bad with
  | some s =>
    if d.bit Reg.LSTAT.LEAVES 10 then d else (d.rise Reg.LSTAT.LEAVES 10 uLINK).raiseCell 58 s
  | none => d.fall Reg.LSTAT.LEAVES 10

/-- F058 for a cell whose sod newly shows PROFILE_OK 0 outside a change (spec R202). -/
def Dev.profileNew (d : Dev) (s : Nat) (before : Bool) : Dev :=
  if d.profileBad s && !before && !d.modeBusy then (d.rise Reg.LSTAT.LEAVES 10 uLINK).raiseCell 58 s else d

/-! Echo check and disputes (spec R189–R192, R289). -/

inductive Echo where
  | noCheck | blocked | ok | stateMismatch | echoMismatch
deriving DecidableEq, Repr

/-- A command due in a sod with latch instant `l` (spec R190). -/
def dueAt (l : Int) (dl tt : Nat) : Bool := decide ((tt : Int) ≤ l - dl - 1180)

/-- The outcome of the echo check on a good sod. -/
def Dev.echo (d : Dev) (s : Nat) (l : Int) (seq st : Nat) (profileOk : Bool) : Echo :=
  let c := d.cell s
  let dl := d.get (Reg.CELL.DL_DELAY s)
  let due := c.sent.filter (fun e => dueAt l dl e.tt)
  let flying := c.sent.filter (fun e => !dueAt l dl e.tt)
  let block := match (d.port (portOf s)).blocks.find? (fun t => dueAt l dl t) with
    | some t => decide (c.admitTt < t) && !due.any (fun e => decide (t < e.tt) && decide (e.op ≤ opNEG))
    | none => false
  if block then .blocked
  else if !profileOk || d.flag s flUNCONFIRMED then .noCheck
  else match due with
  | e :: _ =>
    if seq == e.seq && st == e.state then .ok
    else if flying.any (fun f => f.seq == seq && f.state == st) then .ok
    else if seq == e.seq then .stateMismatch else .echoMismatch
  | [] =>
    if c.echoHold then .noCheck
    else if seq == 0 && st == swBLK then .ok
    else if flying.any (fun f => f.seq == seq && f.state == st) then .ok
    else if seq == 0 then .stateMismatch else .echoMismatch

/-- A repeat of the latest due unicast command, or of BLOCK where none has been due (spec R191). DIR is 0 (log 115). -/
def Dev.queueRepeat (d : Dev) (s : Nat) (l : Int) : Dev :=
  let c := d.cell s
  let dl := d.get (Reg.CELL.DL_DELAY s)
  let r : DlCmd := match c.sent.find? (fun e => dueAt l dl e.tt) with
    | some e => { dest := addrOf s, op := e.op, seq := some e.seq, flags := repeatFlag, isRepeat := true }
    | none => { dest := addrOf s, op := opBLOCK, seq := some 0, flags := repeatFlag, isRepeat := true }
  (d.setCell s { c with repeatTt := none }).other (portOf s) r

def Dev.setStage (d : Dev) (s n : Nat) : Dev := d.setCell s { d.cell s with stage := n }

/-- A repair starts (spec R191). -/
def Dev.repairStart (d : Dev) (s : Nat) (l : Int) : Dev := (d.setStage s 1).queueRepeat s l

/-- A cell becomes DISPUTED (spec R289). -/
def Dev.dispute (d : Dev) (s : Nat) (l : Int) : Dev :=
  ((d.set (Reg.CELL.STATE s) csDISPUTED).count (Reg.CELL.DISPUTES s) 32 1).repairStart s l

/-- Counters, leaf and source of a mismatch (spec R190). -/
def Dev.mismatch (d : Dev) (s : Nat) (e : Echo) : Dev :=
  match e with
  | .stateMismatch => ((d.count Reg.LSTAT.STATE_MISMATCH 32 1).rise Reg.LSTAT.LEAVES 2 uLINK).raiseCell 50 s
  | .echoMismatch => d.count Reg.LSTAT.ECHO_MISMATCH 32 1
  | _ => d

/-- A repair ends well. -/
def Dev.repairDone (d : Dev) (s : Nat) : Dev :=
  let d := (d.setStage s 0).dropRepeats s
  if d.cellState s == csDISPUTED then ((d.set (Reg.CELL.STATE s) csACTIVE).setFlag s flDISPUTE_FAILED false).join s else d

/-- A check of a repeat: the second without a match fails the dispute (spec R191). -/
def Dev.repairCheck (d : Dev) (s : Nat) (l : Int) (e : Echo) : Dev :=
  let c := d.cell s
  let due := match c.repeatTt with
    | some t => dueAt l (d.get (Reg.CELL.DL_DELAY s)) t
    | none => false
  if e == .noCheck || !due || c.stage == 3 then d
  else if e == .ok then d.repairDone s
  else if c.stage == 1 then (d.setStage s 2).queueRepeat s l
  else
    let d := ((d.count Reg.LSTAT.DISPUTE_FAILED 32 1).rise Reg.LSTAT.LEAVES 0 uLINK).raiseCell 48 s
    ((d.setStage s 3).setFlag s flDISPUTE_FAILED true).removeBy s swBLK opBLOCK

/-- What the echo of a good sod does to its cell (spec R190, R191, R289, R290). -/
def Dev.echoStep (d : Dev) (s : Nat) (l : Int) (e : Echo) : Dev :=
  let bad := e == .stateMismatch || e == .echoMismatch
  match d.cellState s with
  | 3 => if bad then (d.mismatch s e).dispute s l else d
  | 4 =>
    if bad then (d.mismatch s e).dispute s l
    else if e == .ok then (d.set (Reg.CELL.STATE s) csACTIVE).join s else d
  | 5 => if e == .blocked then (d.setCmd s swBLK false).repairDone s else d.repairCheck s l e
  | 6 =>
    if (d.cell s).stage == 0 then (if bad then (d.mismatch s e).repairStart s l else d)
    else if e == .blocked then d.repairDone s else d.repairCheck s l e
  | _ => d

/-- The confirmation of a BLOCK broadcast (spec R192): the second good sod of an ACTIVE cell in which it is due. -/
def Dev.confirmBlock (d : Dev) (s : Nat) (l : Int) (st : Nat) : Dev :=
  let p := portOf s
  let x := d.port p
  match x.run with
  | some r =>
    if d.cellState s == csACTIVE && decide ((d.cell s).admitTt < r.tt) && dueAt l (d.get (Reg.CELL.DL_DELAY s)) r.tt then
      let k := r.good.get (addrOf s) 0 + 1
      let d := d.setPort p { x with run := some { r with good := r.good.put (addrOf s) k } }
      if k == 2 && st != swBLK then
        ((d.count Reg.LSTAT.BLOCK_FAILED 32 1).rise Reg.LSTAT.LEAVES 1 uLINK).raiseCell 49 s
      else d
    else d
  | none => d

/-! Drift (spec R149). -/

/-- One arrival offset, in units of 50 ps; a mean over 16 beyond ±2 bit-times adjusts E by one towards nominal. -/
def Dev.drift (d : Dev) (s : Nat) (arrival : Int) : Dev :=
  let c := d.cell s
  let buf := (arrival :: c.eqBuf).take 16
  let sum := buf.foldl (fun a b => a + b) (0 : Int)
  if buf.length == 16 && 128 < sum.natAbs then
    let dir : Int := if 0 < sum then -1 else 1
    let adj := d.getI (Reg.CELL.EQ_ADJ s) 16 + dir
    let out := decide (40 < adj.natAbs)
    let d := (d.setI (Reg.CELL.EQ_ADJ s) 16 adj).setI (Reg.CELL.EQD s) 16 (d.get (Reg.CELL.EQD s) + dir)
    let d := d.count (Reg.PORT.EQ_ADJUSTS (portOf s)) 32 1
    let d := d.setCell s { c with eqBuf := [], drifted := out }
    let d := d.other (portOf s) { dest := addrOf s, op := opEQ_ADJ, flags := if 0 < sum then 0x20 else 0, limited := true }
    if out && !c.drifted then (d.rise (Reg.PORT.LEAVES (portOf s)) 10 uLINK).raisePort 41 (portOf s) else d
  else d.setCell s { c with eqBuf := buf }

/-! The sod (spec R181–R184, R282). -/

/-- The fields of a sod payload. -/
structure Sod where
  vcap : F32
  vbat : F32
  ibat : F32
  soc : F32
  temp : F32
  st : Nat
  flags : Nat
  seq : Nat
deriving DecidableEq, Repr

def sodOf (b : Burst) : Sod :=
  let v := ofBe b.payload
  { vcap := F32.ofScaled (field v 80 16 : Nat) (-4), vbat := F32.ofScaled (field v 64 16 : Nat) (-4)
    ibat := F32.ofScaled (toSigned 16 (field v 48 16)) (-2), soc := F32.ofScaled (field v 32 16 : Nat) (-16)
    temp := F32.ofScaled (toSigned 12 (field v 20 12)) (-4), st := field v 16 4, flags := field v 8 8, seq := field v 4 4 }

/-- The base of the estimator after a sod whose latch lies at sample `sl` (spec R282, steps 3 to 5). -/
def Dev.rebase (d : Dev) (s a sl : Nat) (vcap : F32) : Dev :=
  let l := d.lane a
  let c := d.cell s
  let c : CellX :=
    if sl + 1024 < l.qSi then { c with vcapB := vcap, qB := l.q }
    else if c.chgSi ≤ sl then { c with vcapB := vcap, qB := l.qAt sl }
    else { c with vcapB := F32.add vcap (estDelta c.chgSign (l.qAt c.chgSi) (l.qAt sl) l.vals.cEst), qB := l.qAt c.chgSi }
  d.setCell s { c with hasBase := true }

/-- VCAP_EST at the latch sample under the bases in force: with a change of state after it, under the state before. -/
def Dev.estAt (d : Dev) (s a sl : Nat) : F32 :=
  let l := d.lane a
  let c := d.cell s
  let q := if sl + 1024 < l.qSi then l.q else l.qAt sl
  F32.add c.vcapB (estDelta (if sl < c.chgSi then c.chgSign else estSign (d.cmdState s)) q c.qB l.vals.cEst)

/-- The lane takes in a good sod (spec R282). -/
def Dev.sodUpdate (d : Dev) (s : Nat) (l : Int) (v : Sod) : Dev :=
  let d := ((((d.setF (Reg.CELL.VCAP s) v.vcap).setF (Reg.CELL.VBAT s) v.vbat).setF (Reg.CELL.IBAT s) v.ibat).setF
    (Reg.CELL.SOC s) v.soc).setF (Reg.CELL.TEMP s) v.temp
  let d := d.set (Reg.CELL.SOD_TT s) (ofSigned 64 l)
  match d.armOfSlot s with
  | some a =>
    let sl := (l / 1000).toNat
    let err := F32.sub v.vcap (d.estAt s a sl)
    let had := (d.cell s).hasBase
    let d := if had then d.setF (Reg.LANE.EST_LAST_ERR a) err else d
    let d := if had && !F32.le (F32.abs err) (d.getF (Reg.LANE.EST_LIMIT a)) then
        (d.rise (Reg.LANE.LEAVES a) 3 uSTACK).raiseStack 151 a (some s) else d
    (d.rebase s a sl v.vcap).rekey s
  | none => d

/-- An excluded cell becomes eligible again once a sod of the frame m of its change, or of a later one, shows PROFILE_OK 1 (spec
R203). A mark of an earlier change ends so while the next one prepares, too. -/
def Dev.reinclude (d : Dev) (s frame : Nat) : Dev :=
  let st := d.get Reg.MODE.STATE
  if d.flag s flEXCLUDED && st != 2 && st != 3 && (st == 1 || decide (d.link.mode.m ≤ frame)) then d.setFlag s flEXCLUDED false else d

/-- FLAGS of a good sod that every slot keeps (spec R183, R209, R294). -/
def Dev.sodFlags (d : Dev) (s frame : Nat) (v : Sod) : Dev :=
  let rising := v.flags.testBit 1 && !d.flag s flFAULT
  let d := if v.flags.testBit 4 then ((d.count Reg.LSTAT.LATE_REPORTED 32 1).rise Reg.LSTAT.LEAVES 5 uLINK).raiseCell 56 s else d
  let d := if v.flags.testBit 3 then ((d.count Reg.LSTAT.REJECT_REPORTED 32 1).rise Reg.LSTAT.LEAVES 6 uLINK).raiseCell 57 s else d
  let d := if rising then d.count Reg.LSTAT.FAULT_REPORTED 32 1 else d
  let d := if rising && d.cellState s == csACTIVE then d.raiseCell 52 s else d
  let d := ((d.setFlag s flFAULT (v.flags.testBit 1)).setFlag s flFULL_BRIDGE (v.flags.testBit 0)).setFlag s flPROFILE_BAD
    (!v.flags.testBit 5)
  let d := if v.flags.testBit 5 then d.reinclude s frame else d
  d.setCell s { d.cell s with prepAck := v.flags.testBit 6 }

/-- The first good sod of an UNCONFIRMED cell (spec R412). A STATE that is none of R182 cannot become the commanded state: the
cell keeps that of the ember, counted from now on, and the sod is a state mismatch (log 85). -/
def Dev.confirm (d : Dev) (s : Nat) (l : Int) (v : Sod) : Dev :=
  if d.flag s flUNCONFIRMED then
    let old := d.cmdState s
    let st := if v.st < 4 then v.st else old
    let d := (d.set (Reg.CELL.CMD_STATE s) st).set (Reg.CELL.SEQ s) v.seq
    let d := if st == old then d else (d.set (Reg.CELL.STATE_TT s) (ofSigned 64 l)).countSwitch s
    let d := match d.armOfSlot s with
      | some a => d.setArm a { d.arm a with nCmd := (d.arm a).nCmd + countOf st }
      | none => d
    (d.setCell s { d.cell s with baseState := st }).setFlag s flUNCONFIRMED false
  else d

/-- A sod with the admit echo makes an ADMITTED slot ACTIVE (spec R154, R287, R291, R295). -/
def Dev.activate (d : Dev) (s : Nat) (frame : Nat) (v : Sod) : Dev :=
  let c := d.cell s
  if d.cellState s == csADMITTED && v.flags.testBit 7 && decide (frame ≤ c.admitFrame + 4) then
    let d := (d.set (Reg.CELL.STATE s) csACTIVE).set (Reg.TURF.MATCH s) 1
    let d := (d.setCell s { c with hasBase := false, fails := 0, keySat := false }).setI (Reg.CELL.KEY s) 32 0
    ((d.groupsAll s).seedStart s).join s
  else d

/-- Eligibility lost to a profile (spec R202): BYPASS unless the cell is in BYP or BLK already. -/
def Dev.profileCheck (d : Dev) (s : Nat) : Dev :=
  if d.flag s flPROFILE_BAD && decide (csACTIVE ≤ d.cellState s) && (d.cell s).stage != 3 then d.bypassCell s else d

/-- An excluded cell's echo shows BYP or BLK, or it is STALE. -/
def Dev.excludedSafe (d : Dev) (s : Nat) : Dev :=
  let x := d.link.mode
  if d.get Reg.MODE.STATE == 2 && x.aborts == 0 && x.excluded.contains s then
    let x := { x with excluded := x.excluded.filter (fun e => e != s) }
    let d := { d with link := { d.link with mode := x } }
    if x.excluded.isEmpty then d.set Reg.MODE.STATE 3 else d
  else d

/-- A good sod (spec R181–R184, R190–R192, R202, R282). -/
def Dev.sodGood (d : Dev) (s frame : Nat) (l : Int) (b : Burst) : Dev :=
  let p := portOf s
  let v := sodOf b
  let d := ((d.count (Reg.PORT.SOD_OK p) 64 1).event (0x100 + p)).set (Reg.CELL.MISSED s) 0
  let d := d.setPort p { d.port p with goodSeen := true }
  let c := d.cell s
  let d := d.setCell s { c with recent := c.recent.filter (fun t => decide (l < (t : Int))) }
  let unconfirmed := d.flag s flUNCONFIRMED
  let bad := d.profileBad s
  let d := (((d.sodFlags s frame v).activate s frame v).confirm s l v)
  let e := if unconfirmed then (if v.st < 4 then Echo.noCheck else Echo.stateMismatch) else d.echo s l v.seq v.st (v.flags.testBit 5)
  let d := if unconfirmed && decide (v.st < 4) && d.cellState s == csSTALE then (d.set (Reg.CELL.STATE s) csACTIVE).join s
    else d.echoStep s l e
  let d := d.confirmBlock s l v.st
  let d := if csACTIVE ≤ d.cellState s then d.sodUpdate s l v else d
  let d := if d.cellState s == csACTIVE then d.drift s b.arrival else d
  let d := (d.profileCheck s).profileNew s bad
  let d := if v.st == swBYP || v.st == swBLK then d.excludedSafe s else d
  (d.faultLeaf.profileLeaf).acqSod s 0 b.payload (ofSigned 64 l) frame

/-- An expected sod of a cell is missing (spec R289): STALE_SODS of them in a row make it STALE. -/
def Dev.sodStale (d : Dev) (s : Nat) : Dev :=
  let st := d.cellState s
  if st < csACTIVE then d else
  let limit := match d.armOfSlot s with
    | some a => d.get (Reg.LANE.STALE_SODS a)
    | none => 3
  let n := d.get (Reg.CELL.MISSED s) + 1
  let d := d.set (Reg.CELL.MISSED s) (min n 255)
  if (st == csACTIVE || st == csDISPUTED) && limit ≤ n then
    let d := (d.dropRepeats s).setCell s { d.cell s with stage := 0, staleFrame := d.frame.n }
    let d := (d.set (Reg.CELL.STATE s) csSTALE).count (Reg.CELL.STALE_COUNT s) 32 1
    let d := match d.armOfSlot s with
      | some a =>
        let d := if st == csACTIVE then d.rise (Reg.LANE.LEAVES a) 2 uSTACK else d
        d.raiseStack 150 a (some s)
      | none => d.raiseStack 150 0xFF (some s)
    let d := if d.flag s flUNCONFIRMED then d.otherCell s opBYPASS else d.removeBy s swBYP opBYPASS
    (d.excludedSafe s).faultLeaf
  else d

/-- A sod slot without a good sod: its cell, and the entries of the streams that list it, with their status (spec R289, R422). -/
def Dev.sodMissing (d : Dev) (s frame bn status : Nat) : Dev := (d.sodStale s).acqSod s status [] bn frame

/-- LOS sampled in the sod slot of an ACTIVE cell (spec R163). -/
def Dev.losSample (d : Dev) (p s : Nat) (los : Bool) : Dev :=
  if los && d.cellState s == csACTIVE then d.setPort p { d.port p with losSeen := true } else d

/-- A burst in a sod slot (spec R163, R164, R181–R185). A sod of a wrong length counts as SOD_CRC (log 114). -/
def Dev.sodReceive (d : Dev) (p a : Nat) (b : Burst) (los : Bool) : Dev :=
  let s := 128 * p + a
  let d := d.losSample p s los
  let u := d.uplinkOf p (fun _ => 220 * a)
  let frame := u.1
  let bn := u.2.1
  let plan := u.2.2.1
  let active := d.cellState s == csACTIVE
  if plan.nSod ≤ a || d.cellState s < csADMITTED then
    let d := d.unexpectedBurst p b (b.typ == 1 && b.addr == a && b.frame == frame % 16) (some s)
    if a < plan.nSod then d.acqSod s 2 [] bn frame else d
  else if !b.codeOk then (d.codeViolation p).sodMissing s frame bn 2
  else if !b.crcOk then ((d.count (Reg.PORT.SOD_CRC p) 32 1).portErrors p 1).sodMissing s frame bn 2
  else if b.typ != 1 || b.addr != a || b.frame != frame % 16 then
    let d := d.misplaced (some s)
    let d := if active then (d.count (Reg.PORT.SOD_MISSED p) 32 1).portErrors p 1 else d
    d.sodMissing s frame bn 2
  else if b.bytes.length != 16 then ((d.count (Reg.PORT.SOD_CRC p) 32 1).portErrors p 1).sodMissing s frame bn 2
  else
    let nominal : Int := (bn + 400 + 10 * plan.eq + 440 * a + 4 : Nat)
    let l := nominal + b.arrival / 2 - ((d.get (Reg.CELL.RTT s) : Int) - d.get (Reg.CELL.DL_DELAY s)) - 4
    d.sodGood s frame l b

/-- A sod slot passes without a burst (spec R163, R289). -/
def Dev.sodMissed (d : Dev) (p a : Nat) (los : Bool) : Dev :=
  let s := 128 * p + a
  let d := d.losSample p s los
  let u := d.uplinkOf p (fun _ => 220 * (a + 1))
  if u.2.2.1.nSod ≤ a then d
  else
    let d := if d.cellState s == csACTIVE then (d.count (Reg.PORT.SOD_MISSED p) 32 1).portErrors p 1 else d
    d.sodMissing s u.1 u.2.1 1

/-! Strangers (spec R155, R156). -/

/-- The entry of a serial on the stranger list, else an empty one, else that with the oldest LAST_TT, the
lowest of equals (log 110). -/
def Dev.strangerSlot (d : Dev) (serial : Nat) : Nat × Bool :=
  let all := List.range 64
  match all.find? (fun n => d.get (Reg.STRANGER.PORT n) != 0xFF && d.get (Reg.STRANGER.SERIAL n) == serial) with
  | some n => (n, false)
  | none =>
    match all.find? (fun n => d.get (Reg.STRANGER.PORT n) == 0xFF) with
    | some n => (n, false)
    | none => (all.foldl (fun b n => if d.get (Reg.STRANGER.LAST_TT n) < d.get (Reg.STRANGER.LAST_TT b) then n else b) 0, true)

def Dev.strangerEmpty (d : Dev) (n : Nat) : Dev :=
  d.sets [(Reg.STRANGER.SERIAL n, 0), (Reg.STRANGER.PORT n, 0xFF), (Reg.STRANGER.REASON n, 0),
    (Reg.STRANGER.FIRST_TT n, 0), (Reg.STRANGER.LAST_TT n, 0), (Reg.STRANGER.COUNT n, 0)]

/-- Enter or update a serial. -/
def Dev.stranger (d : Dev) (p serial reason : Nat) : Dev :=
  let e := d.strangerSlot serial
  let n := e.1
  let d := if e.2 then (d.strangerEmpty n).count Reg.LINK.STRANGER_OVERFLOW 32 1 else d
  let fresh := d.get (Reg.STRANGER.PORT n) == 0xFF
  let d := if fresh then d.sets [(Reg.STRANGER.SERIAL n, serial), (Reg.STRANGER.FIRST_TT n, d.tt)] else d
  (d.sets [(Reg.STRANGER.PORT n, p), (Reg.STRANGER.REASON n, reason), (Reg.STRANGER.LAST_TT n, d.tt)]).count
    (Reg.STRANGER.COUNT n) 32 1

/-- A serial that matched its turf entry leaves the list. -/
def Dev.strangerDrop (d : Dev) (serial : Nat) : Dev :=
  (List.range 64).foldl (fun d n =>
    if d.get (Reg.STRANGER.PORT n) != 0xFF && d.get (Reg.STRANGER.SERIAL n) == serial then d.strangerEmpty n else d) d

def Dev.strangers (d : Dev) : Nat := ((List.range 64).filter (fun n => d.get (Reg.STRANGER.PORT n) != 0xFF)).length

/-- Writes of IDENTIFY and CLEAR of an entry (spec R156). IDENTIFY of an empty entry does nothing (log 110). -/
def Dev.strangerIdentify (d : Dev) (n v : Nat) : Dev :=
  if d.get Reg.LINK.STRANGER_POLICY == 0 then d.ret stSTATE
  else
    let p := d.get (Reg.STRANGER.PORT n)
    if p == 0xFF then d.ret stOK
    else
      let serial := d.get (Reg.STRANGER.SERIAL n)
      let d := d.messageTo p 4 serial (beBytes 1 v) none
      Dev.ret { d with link := { d.link with identify := d.link.identify ++ [(p, serial, v, 3)] } } stOK

def Dev.strangerClear (d : Dev) (n : Nat) : Dev := (d.strangerEmpty n).ret stOK

/-! Admission (spec R147–R155). -/

def Dev.queueRanging (d : Dev) (s : Nat) : Dev :=
  let x := d.port (portOf s)
  if x.rangeQ.contains s then d else d.setPort (portOf s) { x with rangeQ := x.rangeQ ++ [s] }

def Dev.unqueueRanging (d : Dev) (s : Nat) : Dev :=
  let x := d.port (portOf s)
  d.setPort (portOf s) { x with rangeQ := x.rangeQ.filter (fun t => t != s) }

/-- DUP_SERIAL (spec R147, R154). -/
def Dev.dupSerial (d : Dev) (p : Nat) : Dev :=
  ((d.count Reg.LINK.DUP_SERIALS 32 1).rise (Reg.PORT.LEAVES p) 4 uLINK).raisePort 37 p

/-- A ranging failure of an ANNOUNCED or ADMITTED slot (spec R154). -/
def Dev.rangeFail (d : Dev) (s : Nat) (announced : Bool) : Dev :=
  let p := portOf s
  let was := d.cellState s
  let c := d.cell s
  let serial := d.get (Reg.TURF.SERIAL s)
  let d := (d.unqueueRanging s).count (Reg.PORT.RANGE_FAIL p) 32 1
  let d := if was == csADMITTED then d.deadmit s else d
  if c.fails + 1 < d.get Reg.LINK.RANGE_TRIES then
    let d := ((d.setCell s { c with fails := c.fails + 1 }).set (Reg.CELL.STATE s) csANNOUNCED).queueRanging s
    if announced then d.ackQueued p serial else d
  else
    (((d.setCell s { c with fails := 0 }).set (Reg.CELL.STATE s) csABSENT).rise (Reg.PORT.LEAVES p) 3 uLINK).raisePort 36 p

/-- ABSENT, STALE or DISPUTED to ANNOUNCED or, beyond N_SOD, to ABSENT (spec R154). -/
def Dev.announced (d : Dev) (s serial : Nat) : Dev :=
  let p := portOf s
  let d := if csACTIVE ≤ d.cellState s then (d.leaveStack s).setCell s { d.cell s with stage := 0 } else d
  if addrOf s < (d.port p).plan.nSod then
    (((d.setCell s { d.cell s with fails := 0 }).set (Reg.CELL.STATE s) csANNOUNCED).queueRanging s).ackQueued p serial
  else ((d.set (Reg.CELL.STATE s) csABSENT).rise (Reg.PORT.LEAVES p) 9 uLINK).ackQuiet p serial

/-- The turf slot of a port, else of another port, that holds a serial. -/
def Dev.turfSlot (d : Dev) (p serial : Nat) : Option Nat :=
  ((List.range 128).map (fun a => 128 * p + a)).find? (fun s => d.get (Reg.TURF.SERIAL s) == serial)
def Dev.turfAny (d : Dev) (serial : Nat) : Option Nat :=
  (List.range 24).findSome? (fun p => d.turfSlot p serial)

/-- An announce heard (spec R154, R155). -/
def Dev.announceHeard (d : Dev) (p : Nat) (pay : List Byte) : Dev :=
  let serial := ofBe (pay.take 8)
  let d := (d.count (Reg.PORT.TINDER_HEARD p) 32 1).event (0x148 + p)
  match if serial == 0 then none else d.turfSlot p serial with
  | some s =>
    let d := d.set (Reg.CELL.MODEL_FW s) (ofBe ((pay.drop 8).take 4))
    match d.cellState s with
    | 0 => (d.strangerDrop serial).announced s serial
    | 1 => (d.strangerDrop serial).ackQueued p serial
    | 2 => (d.strangerDrop serial).rangeFail s true
    | 3 => (d.dupSerial p).stranger p serial 3
    | 6 => (d.strangerDrop serial).ackQuiet p serial
    | _ => ((d.strangerDrop serial).announced s serial).faultLeaf
  | none =>
    match if serial == 0 then none else d.turfAny serial with
    | some s =>
      let d := d.sets [(Reg.TURF.SEEN_PORT s, p), (Reg.TURF.MATCH s, 2)]
      (((d.rise (Reg.PORT.LEAVES p) 6 uLINK).raisePort 39 p).stranger p serial 2).ackQuiet p serial
    | none => (((d.rise (Reg.PORT.LEAVES p) 5 uLINK).raisePort 38 p).stranger p serial 1).ackQuiet p serial

/-- The pulse of RX_BRST after a burst that the LRX island has decoded: 20 bit-times after its last symbol, `offset` being the
start of its region (spec R142, R179, log 86). -/
def Dev.burstPulse (d : Dev) (p : Nat) (u : Nat × Nat × Plan × Bool) (offset : Nat) (b : Burst) : Dev :=
  let start : Int := ((u.2.1 + 400 + 10 * u.2.2.1.eq + 2 * offset + 4 : Nat) : Int) + b.arrival / 2
  let x := d.port p
  d.setPort p { x with brst := (start + (2 * (32 + 10 + 10 * b.bytes.length) + 40 : Nat)).toNat :: x.brst }

/-- A lone burst in the tinder region (spec R151, R185): with a violation or a bad CRC it counts as one collision, as
a TYPE 2 burst of a wrong length does (log 114). -/
def Dev.announceReceive (d : Dev) (p : Nat) (b : Burst) : Dev :=
  let u := d.uplinkOf p Plan.tinder
  let d := d.burstPulse p u u.2.2.1.tinder b
  if !b.codeOk then (d.codeViolation p).count (Reg.PORT.TINDER_COLLIDED p) 32 1
  else if !b.crcOk || (b.typ == 2 && b.bytes.length != 20) then d.count (Reg.PORT.TINDER_COLLIDED p) 32 1
  else if b.typ != 2 || b.frame != u.1 % 16 then d.misplaced none
  else d.announceHeard p b.payload

/-- A group of overlapping bursts is one collision (spec R151). Each is decoded: it calls for its pulse of RX_BRST (spec R142), and
counts where it has a code violation (spec R163). -/
def Dev.collision (d : Dev) (p : Nat) (bursts : List Burst) : Dev :=
  let u := d.uplinkOf p Plan.tinder
  let d := bursts.foldl (fun d b => d.burstPulse p u u.2.2.1.tinder b) d
  (d.count (Reg.PORT.TINDER_COLLIDED p) 32 1).codeViolations p (bursts.filter (fun b => !b.codeOk)).length

/-- A ranging succeeds (spec R146, R148, R154). Half a bit-time of E rounds up (log 109). -/
def Dev.admitCell (d : Dev) (s rtt : Nat) (plan : Plan) : Dev :=
  let p := portOf s
  let e := divRound ((10 * (plan.eq - 1000) : Nat) - (rtt : Int)) 2
  let dl := ((rtt : Int) + d.getI (Reg.PORT.ASYM p) 16) / 2
  let ee := ofSigned 16 e
  let dd := ofSigned 16 dl
  let d := d.unqueueRanging s
  let d := d.sets [(Reg.CELL.STATE s, csADMITTED), (Reg.CELL.RTT s, rtt), (Reg.CELL.EQD s, ee), (Reg.CELL.DL_DELAY s, dd),
    (Reg.CELL.EQ_ADJ s, 0), (Reg.CELL.SEQ s, 0), (Reg.CELL.MISSED s, 0), (Reg.PORT.LAST_RANGED p, s), (Reg.PORT.LAST_RTT p, rtt),
    (Reg.PORT.LAST_EQD p, ee), (Reg.PORT.LAST_DL_DELAY p, dd)]
  let d := d.count (Reg.PORT.RANGE_OK p) 32 1
  let d := ((d.setCmd s swBLK false).setFlag s flDISPUTE_FAILED false).setFlag s flEXCLUDED false
  let d := d.setCell s { d.cell s with sent := [], baseState := swBLK, recent := [], stage := 0, repeatTt := none, eqBuf := [], drifted := false
                                       admitFrame := d.frame.n + 1, admitTt := d.tt, echoHold := false, prepAck := false }
  d.messageTo p 2 (d.get (Reg.TURF.SERIAL s)) (beBytes 1 (addrOf s) ++ beBytes 2 ee ++ beBytes 2 dd) (some s)

/-- The ranging window closes (spec R147). -/
def Dev.rangingEnd (d : Dev) (p : Nat) (bursts : List Burst) : Dev :=
  let x := d.port p
  let u := d.uplinkOf p (fun q => q.mgmtAt + 16000)
  let cell := if u.2.2.2 then x.ranging else x.rangingOld
  let d := d.setPort p (if u.2.2.2 then { x with ranging := none } else { x with rangingOld := none })
  let bad (b : Burst) : Bool := b.codeOk && b.crcOk && (b.typ != 3 || b.frame != u.1 % 16)
  let d := (bursts.filter bad).foldl (fun d _ => d.misplaced none) d
  let d := d.codeViolations p (bursts.filter (fun b => !b.codeOk)).length
  let d := if cell.isSome then bursts.foldl (fun d b => d.burstPulse p u u.2.2.1.mgmtAt b) d else d
  match cell with
  | none => bursts.foldl (fun d _ => d.unexpected p) d
  | some s =>
    if d.cellState s != csANNOUNCED then d.unqueueRanging s else
    match bursts.filter (fun b => !bad b) with
    | [b] =>
      let rtt := b.arrival / 2
      let limit : Int := min ((10 * (u.2.2.1.eq - 1000) : Nat) : Int) 31500
      if b.codeOk && b.crcOk && b.bytes.length == 12 && ofBe b.payload == d.get (Reg.TURF.SERIAL s) &&
          decide (0 ≤ b.arrival) && decide (b.arrival ≤ 2 * limit) then
        d.admitCell s rtt.toNat u.2.2.1
      else d.rangeFail s false
    | [] => d.rangeFail s false
    | _ => (d.dupSerial p).rangeFail s false

/-- No good sod with the admit echo within 4 frames after ADMIT (spec R154). -/
def Dev.admitTimeout (d : Dev) (s : Nat) : Dev :=
  if d.cellState s == csADMITTED && decide ((d.cell s).admitFrame + 4 < d.frame.n) then d.rangeFail s false else d

/-- STALE for ABSENT_AFTER frames (spec R154). -/
def Dev.absentAfter (d : Dev) (s : Nat) : Dev :=
  if d.cellState s == csSTALE && decide ((d.cell s).staleFrame + d.get Reg.LINK.ABSENT_AFTER ≤ d.frame.n) then
    ((d.leaveStack s).deadmit s).set (Reg.CELL.STATE s) csABSENT
  else d

/-- A write to turf SERIAL after the lock has let it through (spec R157). Another serial is another cell, which has yet to be
admitted for the first time (spec R291). MATCH and SEEN_PORT stay until it
is heard (log 110). -/
def Dev.turfWrite (d : Dev) (s v : Nat) : Dev :=
  if !d.hasLease then d.ret stSTATE
  else if v != d.get (Reg.TURF.SERIAL s) && d.cellState s != csABSENT then d.ret stSTATE
  else if v != 0 && (match d.turfAny v with
      | some t => t != s
      | none => false) then d.ret stRANGE
  else if v == d.get (Reg.TURF.SERIAL s) then d.ret stOK
  else
    let d := if (d.cell s).counted then d.setCell s { d.cell s with counted := false } else d
    (d.set (Reg.TURF.SERIAL s) v).ret stOK

/-- A write to GROUPS (spec R295); its bytes have been found in range. -/
def Dev.groupsWrite (d : Dev) (s v : Nat) : Dev :=
  let old := d.get (Reg.CELL.GROUPS s)
  let st := d.cellState s
  let d := (d.set (Reg.CELL.GROUPS s) v).ret stOK
  if st == csACTIVE || st == csSTALE || st == csDISPUTED then
    (List.range 8).foldl (fun d k =>
      let g := groupAt v k
      let o := groupAt old k
      if g == o then d else if g == 0 then d.groupSet s k o false else d.groupSet s k g true) d
  else d

/-! RETIRE (spec R289, R290). -/

def Dev.cellRetire (d : Dev) (s : Nat) : Dev :=
  let st := d.cellState s
  if st == csACTIVE || st == csSTALE || st == csDISPUTED then
    let old := d.cmdState s
    let d := ((d.dropRepeats s).setStage s 0).set (Reg.CELL.STATE s) csRETIRED
    let d := if old == swPOS || old == swNEG then d.removeBy s swBYP opBYPASS
      else if old == swBYP then d
      else if (d.port (portOf s)).ban then d else (d.otherCell s opBYPASS).setCmd s swBYP true
    d.faultLeaf.ret stOK
  else d.ret stSTATE

def Dev.cellRelease (d : Dev) (s : Nat) : Dev :=
  let blocked := match d.armOfSlot s with
    | some a => d.armState a == asBLOCKED
    | none => true
  if d.cellState s == csRETIRED && blocked then
    (((d.leaveStack s).deadmit s).set (Reg.CELL.STATE s) csABSENT).ret stOK
  else d.ret stSTATE

/-! Management responses and the mailbox (spec R188, R196–R201). -/

/-- A response completes its transaction. -/
def Dev.txnDone (d : Dev) (t : Txn) (status : Nat) (data : List Byte) : Dev :=
  if t.seed then
    if status == 0 && data.length == 8 then
      let c := d.cell t.slot
      let d := d.set (Reg.CELL.SW_COUNT t.slot) ((ofBe data + c.collected) % 2 ^ 64)
      (d.setFlag t.slot flSEED_PENDING false).setCell t.slot { c with collected := 0 }
    else d.seedFail t.slot
  else
    let d := d.sets [(Reg.MBX.STATUS, if status == 0 then 2 else 4), (Reg.MBX.CELL_STATUS, status), (Reg.MBX.RSP_LENGTH, data.length)]
    (d.memClear Mem.response 29).memWrite Mem.response data

/-- The transaction that expects a response in this slot of this frame. -/
def Dev.txnAt (d : Dev) (p rsp frame : Nat) : Option Txn :=
  (d.port p).txns.find? (fun t => t.rsp == rsp && t.expect == some frame)

/-- A burst in a management slot. -/
def Dev.mgmtReceive (d : Dev) (p rsp : Nat) (b : Burst) : Dev :=
  let u := d.uplinkOf p (fun q => q.mgmtAt + 440 * rsp)
  match d.txnAt p rsp u.1 with
  | none => d.unexpectedBurst p b (b.typ == 4 && b.frame == u.1 % 16) none
  | some t =>
    if !b.codeOk then d.codeViolation p
    else if !b.crcOk then d
    else if b.typ != 4 || b.frame != u.1 % 16 then d.misplaced (some t.slot)
    else
      let pay := b.payload
      let len := ofBe ((pay.drop 2).take 1)
      if ofBe (pay.take 1) == t.tid && b.addr == addrOf t.slot && pay.length == len + 3 && decide (len ≤ 29) then
        ((d.txnDrop p rsp).txnDone t (ofBe ((pay.drop 1).take 1)) (pay.drop 3)).txnServe p 8
      else d

/-- The expected slot has passed without a good response. -/
def Dev.mgmtTimeout (d : Dev) (p rsp : Nat) : Dev :=
  let u := d.uplinkOf p (fun q => q.mgmtAt + 440 * (rsp + 1))
  match (d.port p).txns.find? (fun t => t.rsp == rsp && (match t.expect with
      | some f => decide (f ≤ u.1)
      | none => false)) with
  | none => d
  | some t =>
    if t.tries < d.get Reg.MBX.TRIES then (d.count Reg.LSTAT.MGMT_RESENDS 32 1).txnTry p t
    else ((d.txnDrop p rsp).txnNoResponse t).txnServe p 8

/-- A write of 1 to START of the mailbox (spec R200, R201). LENGTH 0 is accepted (log 116). -/
def Dev.mbxStart (d : Dev) (m : Memory) : Dev :=
  let s := d.get Reg.MBX.TARGET
  let st := d.cellState s
  let param := d.get Reg.MBX.PARAM
  let write := d.get Reg.MBX.OP == 1
  if d.get Reg.MBX.STATUS == 1 then d.ret stBUSY
  else if !(st == csACTIVE || st == csSTALE || st == csDISPUTED) then d.ret stSTATE
  else if write && param.testBit 12 && !d.hasLease then d.ret stSTATE
  else if (d.port (portOf s)).plan.mgmt == 0 then d.ret stSTATE
  else
    let len := d.get Reg.MBX.LENGTH
    let body := if write then beBytes 1 len ++ d.memBytes m Mem.mailbox len else []
    ((d.set Reg.MBX.STATUS 1).txnStart s param body false).ret stOK

/-! Profile changes (spec R203, R205). -/

def Dev.modeArms (d : Dev) : List Nat := (List.range 6).filter (fun a => d.link.mode.arms.testBit a)
def Dev.modePorts (d : Dev) : List Nat := d.modeArms.flatMap d.portsOf

def Dev.ackedOf (d : Dev) (a : Nat) : Nat :=
  (d.link.mode.targets.filter (fun s => (d.cell s).prepAck && d.armOfSlot s == some a)).length
def Dev.acked (d : Dev) : List Nat := d.link.mode.targets.filter (fun s => (d.cell s).prepAck)

/-- One broadcast of the change on its ports; it belongs to its frame, so that a disabled one does not keep it (spec R203, R392). -/
def Dev.modeSend (d : Dev) (op : Nat) : Dev :=
  let x := d.link.mode
  let c : DlCmd := if op == opABORT then { group := true, op := op }
    else { group := true, op := op, exec := x.exec, flags := 0x80 + x.profile % 16 }
  (d.modePorts.filter (fun p => (d.port p).live)).foldl (fun d p => d.other p c) d

/-- A write of 1 to START (spec R203, R205): m, T_c and the targets stand from now on. -/
def Dev.modeStart (d : Dev) : Dev :=
  let frames := d.get Reg.MODE.PREP_FRAMES + d.get Reg.MODE.LEAD
  let arms := d.get Reg.MODE.ARM_MASK % 64
  if d.modeBusy then d.ret stBUSY
  else if !d.dsIn [dsLINKS_UP, dsADMITTED, dsREADY, dsRUNNING, dsTAKEOVER, dsSAFE] then d.ret stSTATE
  else if 100000 < frames * d.get Reg.LINK.TF || arms == 0 then d.ret stRANGE
  else
    let tc := d.frame.bn + frames * d.get Reg.LINK.TF * 1000
    let targets := d.knownSlots.filter (fun s => let st := d.cellState s
      (st == csACTIVE || st == csSTALE || st == csDISPUTED) && (match d.armOfSlot s with
        | some a => arms.testBit a
        | none => false))
    let x : ModeX := { p := d.frame.n, m := d.frame.n + frames, exec := tc / 16 % 2 ^ 24, profile := d.get Reg.MODE.PROFILE
                       arms := arms, targets := targets }
    let d := { d with link := { d.link with mode := x } }
    let d := targets.foldl (fun d s => d.setCell s { d.cell s with prepAck := false }) d
    let d := d.sets [(Reg.MODE.STATE, 1), (Reg.MODE.COMMIT_TT, tc), (Reg.MODE.TARGETS, targets.length),
      (Reg.MODE.ACKED, 0), (Reg.MODE.FORCED, 0)]
    (d.modeSend opPREPARE).ret stOK

/-- An abort begins: the first of four ABORTs, one a frame (spec R203). -/
def Dev.modeAbort (d : Dev) : Dev :=
  Dev.modeSend { d with link := { d.link with mode := { d.link.mode with excluded := [], aborts := 3 } } } opABORT

/-- The four ABORTs have been sent: the marks go, ABORTED, its leaf and F054 (spec R203). -/
def Dev.modeAborted (d : Dev) : Dev :=
  let d := d.knownSlots.foldl (fun d s => if d.flag s flEXCLUDED then d.setFlag s flEXCLUDED false else d) d
  ((d.set Reg.MODE.STATE 5).rise Reg.LSTAT.LEAVES 8 uLINK).raise 54 0

/-- A write of 1 to ABORT (spec R205). -/
def Dev.modeAbortWrite (d : Dev) : Dev :=
  match d.get Reg.MODE.STATE with
  | 3 => d.ret stSTATE
  | 1 => (if d.link.mode.aborts == 0 then d.modeAbort else d).ret stOK
  | 2 => (if d.link.mode.aborts == 0 then d.modeAbort else d).ret stOK
  | _ => d.ret stOK

/-- COMMITTING: COMMIT leaves from this frame on (spec R203, step 4). -/
def Dev.modeCommitting (d : Dev) : Dev :=
  let d := d.set Reg.MODE.STATE 3
  if d.frame.n < d.link.mode.m then d.modeSend opCOMMIT else d

/-- Targets that have not acknowledged are excluded (spec R203, step 3). -/
def Dev.modeForce (d : Dev) : Dev :=
  let out := d.link.mode.targets.filter (fun s => !(d.cell s).prepAck)
  let d := out.foldl (fun d s => (d.setFlag s flEXCLUDED true).bypassCell s) d
  let wait := out.filter (fun s => d.cellState s != csSTALE && decide (csACTIVE ≤ d.cellState s))
  let d := { d with link := { d.link with mode := { d.link.mode with excluded := wait } } }
  let d := (d.sets [(Reg.MODE.STATE, 2), (Reg.MODE.FORCED, out.length)]).rise Reg.LSTAT.LEAVES 9 uLINK
  let d := match out with
    | s :: _ => d.raiseCell 55 s
    | [] => d.raise 55 0
  if wait.isEmpty then d.modeCommitting else d

/-- The decision is due at this boundary: every target has acknowledged, or B(p + PREP_FRAMES) has come (spec R203, step 2). -/
def Dev.modeDue (d : Dev) : Bool :=
  let x := d.link.mode
  d.get Reg.MODE.STATE == 1 && x.aborts == 0 &&
    (d.acked.length == x.targets.length || decide (x.p + d.get Reg.MODE.PREP_FRAMES ≤ d.frame.n))

/-- The decision, at a frame boundary (spec R203, step 2). -/
def Dev.modeDecide (d : Dev) : Dev :=
  if d.modeDue && d.frame.started && d.tt == d.frame.bn then
    let acked := d.acked
    let d := d.set Reg.MODE.ACKED acked.length
    let q := d.get Reg.MODE.QUORUM
    if acked.length == d.link.mode.targets.length then d.modeCommitting
    else if q != 0 && d.modeArms.all (fun a => decide (q ≤ d.ackedOf a)) then d.modeForce
    else d.modeAbort
  else d

/-- FORCING has not ended by B(m − 4) (spec R203). -/
def Dev.modeForceTimeout (d : Dev) : Dev :=
  if d.get Reg.MODE.STATE == 2 && d.link.mode.aborts == 0 && decide (d.link.mode.m ≤ d.frame.n + 4) then d.modeAbort else d

/-- B(m): the profile is in force (spec R203, step 5). Excluded cells stay so until their sods show it (`Dev.reinclude`). -/
def Dev.modeCommit (d : Dev) : Dev :=
  let x := d.link.mode
  if d.get Reg.MODE.STATE == 3 && decide (x.m ≤ d.frame.n) then
    let d := d.modeArms.foldl (fun d a => d.set (Reg.MODE.PROFILE_ARM a) x.profile) d
    (d.set Reg.MODE.STATE 4).profileLeaf
  else d

/-- What a change sends at a frame boundary: PREPARE until the decision, COMMIT, or the rest of its ABORTs (spec R203). -/
def Dev.modeFrame (d : Dev) : Dev :=
  let x := d.link.mode
  if 0 < x.aborts then
    let d := Dev.modeSend { d with link := { d.link with mode := { x with aborts := x.aborts - 1 } } } opABORT
    if x.aborts == 1 then d.modeAborted else d
  else match d.get Reg.MODE.STATE with
  | 1 => if d.modeDue then d else d.modeSend opPREPARE
  | 3 => if d.frame.n < x.m then d.modeSend opCOMMIT else d
  | _ => d

end Sys2Proof.Machine
end

