-- ==== Sys2Proof/Machine/Device.lean ====
section
/-!
DEFINITION. Device states, the start and stop of units, roles of a twin pair and station I/O (spec R78, R96–R106,
R391–R394, R400, R401).
-/
namespace Sys2Proof.Machine

/-! ACTIVE, the lease and the role (spec R390–R392, R400, R401). -/

def Dev.twinEn (d : Dev) : Bool := d.on Reg.TWIN.TWIN_EN

/-- TWIN_ID, from the straps (spec R79). -/
def Dev.twinId (d : Dev) : Nat := b2n (d.bit Reg.KINDLE.STRAPS 2)

/-- The device is ACTIVE: ACT_OUT toggles (spec R391). -/
def Dev.active (d : Dev) : Bool :=
  !d.twin.yielded && !d.twin.stalled && (d.dsIn [dsLINKS_UP, dsADMITTED, dsREADY, dsRUNNING] || (d.ds == dsTAKEOVER && d.twin.released))

/-- The interlock forces TX_DIS high (spec R392). -/
def Dev.interlock (d : Dev) : Bool := d.twin.actIn || d.twin.yielded || d.twin.stalled || (d.ds == dsTAKEOVER && !d.twin.released)

/-- Live leaf DUAL_ACTIVE, and F216 at its rising edge (spec R393). -/
def Dev.dualLeaf (d : Dev) : Dev := d.leafRaise Reg.TWIN.LEAVES 10 uTWIN (d.active && d.twin.actIn) 216 0xFF 0

/-- The lease is taken; the primary identity is announced from now on (spec R401, R402). -/
def Dev.leaseTake (d : Dev) : Dev :=
  Dev.set { d with twin := { d.twin with annLeft := 3, annAt := d.now } } Reg.TWIN.LEASE 1

/-- The lease is dropped, and with it the primary identity (spec R400, R402). -/
def Dev.leaseDrop (d : Dev) : Dev := Dev.set { d with twin := { d.twin with annLeft := 0 } } Reg.TWIN.LEASE 0

/-- The partner's latest good HEARTBEAT shows RELEASE (spec R401). -/
def Dev.partnerReleased (d : Dev) : Bool :=
  match d.twin.hb with
  | some (h, _, _) => h.lease.val == 2
  | none => false

/-- The instant from which the lease may be taken for want of a HOLD (spec R401): counted from the last one, and no earlier than
from where the twin link began to run (log 99). -/
def Dev.leaseFreeAt (d : Dev) : Nat :=
  max d.kindle.configuredAt (d.twin.holdAt.getD 0) +
    (d.get Reg.TWIN.LEASE_TIME + d.get Reg.TWIN.LEASE_MARGIN) * 10000000

/-- An ACTIVE device without the lease takes it as soon as R401 lets it, and waits until then. -/
def Dev.leaseTry (d : Dev) : Dev :=
  if !d.twinEn || !d.active || d.get Reg.TWIN.LEASE == 1 then d
  else if d.partnerReleased || d.leaseFreeAt ≤ d.now then d.leaseTake
  else d.set Reg.TWIN.LEASE 2

/-- ROLE (spec R416); SAFE keeps the role before it (log 60). -/
def Dev.role (d : Dev) : Nat :=
  if !d.twinEn then 0
  else if d.twin.yielded then 3
  else if d.ds == dsBANKED then 2
  else if d.ds == dsTAKEOVER then 5
  else if d.active then 1
  else if d.ds == dsSAFE then d.get Reg.TWIN.ROLE
  else 4

/-- ROLE, ACT_OUT and the lease follow the device state and what the interlock and a yield say (spec R391, R400). -/
def Dev.twinSync (d : Dev) : Dev :=
  let d := d.set Reg.TWIN.ROLE d.role
  let act := d.active
  let d : Dev :=
    if act && d.twin.activeAt.isNone then { d with twin := { d.twin with activeAt := some d.now, judgeFrom := d.now } }
    else if !act && d.twin.activeAt.isSome then { d with twin := { d.twin with activeAt := none, stream := none } }
    else d
  let d := if act then d.leaseTry else if d.get Reg.TWIN.LEASE == 0 then d else d.leaseDrop
  d.dualLeaf

/-! Station inputs (spec R103, R104, R106). -/

def Dev.stnFn (d : Dev) (n : Nat) : Nat := d.get (Reg.STN.IN_CFG n) % 16
def Dev.stnIn (d : Dev) (n : Nat) : Bool := d.bit Reg.STN.IN_LEVEL n

/-- Any input of a function is active. -/
def Dev.stnAny (d : Dev) (f : Nat) : Bool := (List.range 8).any (fun n => d.stnFn n == f && d.stnIn n)

abbrev fnESTOP : Nat := 4
abbrev fnDEBLOCK_REQ : Nat := 5
abbrev fnBLOCK_REQ : Nat := 6

def Dev.estop (d : Dev) : Bool := d.stnAny fnESTOP

/-- Permissive `f` (1–3) is active on every input that carries it. -/
def Dev.permissive (d : Dev) (f : Nat) : Bool := (List.range 8).all (fun n => d.stnFn n != f || d.stnIn n)

/-- The PENDING sources (spec R359), rising: STATUS is 0 where nothing lists it. -/
def Dev.pendingSources (d : Dev) : List Nat :=
  d.regs.filterMap (fun e =>
    if e.1 % 256 == 7 && decide (0x4000 ≤ e.1 / 256) && decide (e.1 / 256 ≤ 0x40FF) && e.2.testBit 0 then some (e.1 / 256 - 0x4000)
    else none)

/-- A source is PENDING with reaction CONVERTER_BLOCK or SAFE (spec R97). -/
def Dev.faultHolds (d : Dev) : Bool :=
  d.pendingSources.any (fun f => d.get (Reg.FSRC.CLASS f) == CONVERTER_BLOCK || d.get (Reg.FSRC.CLASS f) == SAFE_REACTION)

/-- The READY conditions (spec R97, R385). -/
def Dev.readyOk (d : Dev) : Bool :=
  [1, 2, 3].all d.permissive && !d.estop && !d.faultHolds && !d.maOfflineRuns

/-! Device states (spec R97, R101). -/

/-- PPS_OUT, TRIG_OUT and the driven XTRIG line in RESET, KINDLING and BANKED (spec R78). -/
def Dev.pinsLow (d : Dev) : Dev :=
  { d with time := { d.time with ppsOut := false, trig := [] }, acq := { d.acq with xDrive := none } }

/-- A change of device state with what follows it in every unit. -/
def Dev.changeState (d : Dev) (st : Nat) : Dev :=
  if d.ds == st then d
  else
    let d := d.setState st
    let d := if [dsRESET, dsKINDLING, dsBANKED, dsTAKEOVER].contains st then d.acqAbandon else d
    let d := if [dsTAKEOVER, dsBANKED, dsSAFE, dsRESET].contains st then d.maintStop else d
    let d := if d.live then (if d.meas.vrefBad then d.vrefLeaf else d) else d.pinsLow
    let d := d.kilnSync.pwmSync.twinSync
    d.gate d.interlock

/-- A waiting deblock is cancelled (spec R98). -/
def Dev.deblockCancel (d : Dev) : Dev :=
  if d.kindle.deblock then Dev.rise { d with kindle := { d.kindle with deblock := false } } Reg.STN.LEAVES 2 uREG else d

/-- To SAFE: BLOCK first, then the transmitters, ERR_N and TRIP_REQ; the twin paths report FAILED with reason SAFE
(spec R97, R397). -/
def Dev.enterSafe (d : Dev) : Dev :=
  if d.ds == dsSAFE || d.ds == dsRESET then d
  else
    let d := ((d.blockPorts d.mappedPorts).blockArms caDAMPER).deblockCancel
    Dev.changeState { d with twin := { d.twin with failed := some 3 } } dsSAFE

/-! ERR_N and TRIP_REQ (spec R78, R105, R365, R366). -/

/-- A PENDING source holds ERR_N low (spec R365). CLASS 0xFF stands for none. -/
def Dev.errPending (d : Dev) : Bool :=
  d.pendingSources.any (fun f => decide (d.get Reg.DAMP.ERR_CLASS ≤ d.get (Reg.FSRC.CLASS f)) && d.get (Reg.FSRC.CLASS f) != 0xFF)

/-- ERR_N is driven low (spec R78, R365, R372). -/
def Dev.errLow (d : Dev) : Bool :=
  d.dsIn [dsRESET, dsKINDLING, dsBANKED, dsSAFE] || d.kindle.sosc || d.errPending

/-- A PENDING source with TRIP 1 (spec R366). -/
def Dev.tripPending (d : Dev) : Bool := d.pendingSources.any (fun f => d.on (Reg.FSRC.TRIP f))

/-- TRIP_REQ (spec R105). -/
def Dev.tripReq (d : Dev) : Bool := d.ds == dsSAFE || d.estop || d.kindle.sosc || d.tripPending

/-- Live leaves ERR and TRIP of the damper (spec R374). -/
def Dev.damperLeaves (d : Dev) : Dev :=
  (d.leaf Reg.DAMP.LEAVES 0 uDAMPER (d.errPending || d.ds == dsSAFE || d.kindle.sosc)).leaf Reg.DAMP.LEAVES 1 uDAMPER d.tripPending

/-! The entry into BANKED (spec R97, R369). -/

/-- Every arm to BLOCKED at once and without a BLOCK, where the core is about to lose its power (spec R97, R414). -/
def Dev.blockSilently (d : Dev) (cause : Nat) : Dev :=
  let d := (List.range 6).foldl (fun d a => d.armBlock a (siOf d.tt) cause) d
  (List.range 24).foldl (fun d p => d.setPort p { d.port p with blockWord := false }) d

/-- What a clear of a source does (spec R367). -/
def Dev.srcClear (d : Dev) (f : Nat) : Dev :=
  let c : ClearX := { at_ := d.now, status := d.get (Reg.FSRC.STATUS f), cls := d.get (Reg.FSRC.CLASS f)
                      inWindow := d.get (Reg.FSRC.IN_WINDOW f), winEnd := Tab.find d.damper.winEnd f }
  let first := match Tab.find d.damper.clears f with
    | some x => if x.at_ == d.now then x else c
    | none => c
  let d : Dev := { d with damper := { d.damper with winEnd := d.damper.winEnd.drop f, clears := d.damper.clears.put f first } }
  d.sets [(Reg.FSRC.STATUS f, 0), (Reg.FSRC.CLASS f, 0xFF), (Reg.FSRC.IN_WINDOW f, 0)]

/-- Every source that is not at its cleared state. -/
def Dev.touchedSources (d : Dev) : List Nat :=
  d.regs.filterMap (fun e =>
    if [0x07, 0x08, 0x0E].contains (e.1 % 256) && decide (0x4000 ≤ e.1 / 256) && decide (e.1 / 256 ≤ 0x40FF) then some (e.1 / 256 - 0x4000)
    else none)

/-- Every source is cleared and what waits is dropped (spec R369). -/
def Dev.damperDown (d : Dev) : Dev :=
  let d := d.touchedSources.foldl (fun d f => d.srcClear f) d
  Dev.damperLeaves { d with damper := { d.damper with raised := [], winEnd := [], events := [], clears := [] } }

/-- Objects that show what a powered-down core held: the cell table, the record segments and the state of acquisition and
ash (log 61). -/
def coreKey (k : Nat) : Bool :=
  let i := k / 256
  (decide (0x8000 ≤ i) && decide (i ≤ 0x8BFF)) || k == Reg.ACQ.STATE || k == Reg.ASH.ASH_STATE ||
    (List.range 16).any (fun g => k == Reg.SEG.STATE g)

/-- BANKED: the core is powered down and loses what it held; the always-on island keeps the retention slots, time, the
twin link and the settings (spec R26, R97, log 61). The transactions and the live leaves of the cell link end with it. -/
def Dev.enterBanked (d : Dev) : Dev :=
  let d := ((d.blockSilently caDEVICE).deblockCancel.changeState dsBANKED).damperDown
  let d : Dev := { d with
    frame := { d.frame with run := false, started := false }
    link := {}, cells := [], lanes := [], arms := [], legSum := {}, spare := {}, acq := {}, meas := { vrefBad := d.meas.vrefBad }
    net := { d.net with wait := none, spiWait := none, spiQueue := [], queue := [] }
    kiln := { reload := true, halted := d.kiln.halted }, pwm := { trips := d.pwm.trips }, shadow := [], hist := []
    regs := d.regs.filter (fun e => !coreKey e.1)
    kindle := { d.kindle with close := [] }
    memQ := d.memQ ++ [.clear Mem.mramEnd (Mem.ember 0 - Mem.mramEnd)]
    twin := { d.twin with judgeFrom := d.now, statusAt := d.now } }
  let d := (List.range 24).foldl (fun d p => ((d.fall (Reg.PORT.LEAVES p) 1).fall (Reg.PORT.LEAVES p) 2).fall (Reg.PORT.LEAVES p) 7) d
  let d := (d.fall Reg.LSTAT.LEAVES 4).fall Reg.LSTAT.LEAVES 10
  let idle (d : Dev) (k v : Nat) (busy : Bool) : Dev := if busy then d.set k v else d
  let d := idle (idle d Reg.MBX.STATUS 0 (d.get Reg.MBX.STATUS == 1)) Reg.MODE.STATE 0 d.modeBusy
  (d.sets [(Reg.NETP.LINK 0, 0), (Reg.NETP.LINK 1, 0)]).twinSync

/-- The partner is known to carry this device's TWIN_ID: then neither yields (spec R100). -/
def Dev.sameTwinId (d : Dev) : Bool :=
  match d.twin.hb with
  | some (h, _, _) => h.twinId.val == d.twinId
  | none => false

/-- Both devices are ACTIVE in LINKS_UP, ADMITTED or READY with ACT_IN toggling: TWIN_ID 1 goes to BANKED (spec R100, R393).
One that has yielded or stalled is not ACTIVE and stays (spec R394). -/
def Dev.twinYield (d : Dev) : Dev :=
  if d.twinEn && d.active && d.twin.actIn && d.twinId == 1 && !d.sameTwinId && d.dsIn [dsLINKS_UP, dsADMITTED, dsREADY] then d.enterBanked
  else d

/-- LINKS_UP, ADMITTED or READY is reached (spec R97, R100). -/
def Dev.reach (d : Dev) (st : Nat) : Dev := (d.changeState st).twinYield

/-- READY is left as soon as one of its conditions is lost (spec R97, R98). -/
def Dev.readyCheck (d : Dev) : Dev :=
  if d.ds == dsREADY && !d.readyOk then d.deblockCancel.reach dsADMITTED else d

/-- BLOCK to group 0 on every enabled port at once, and every arm to BLOCKED at its next sample; RUNNING and TAKEOVER are left
(spec R97, R270, R362). -/
def Dev.converterBlock (d : Dev) (cause : Nat) : Dev :=
  let d := (d.blockPorts d.mappedPorts).blockArms cause
  if d.dsIn [dsRUNNING, dsTAKEOVER] then d.reach (if d.readyOk then dsREADY else dsADMITTED) else d.readyCheck

/-- The twin start decision (spec R97, R100): LINKS_UP unless ACT_IN has toggled within the window; an active ESTOP
holds the device in CONFIGURED, and the decision once taken stands. With SAFE_DEFAULT it stays there (spec R90). -/
def Dev.startDecision (d : Dev) : Dev :=
  if d.ds != dsCONFIGURED || d.safeDefault then d
  else if d.twinEn && d.twin.actSeen && !d.kindle.decided then d.enterBanked
  else
    let d : Dev := { d with kindle := { d.kindle with decided := true } }
    if d.estop then d else d.reach dsLINKS_UP

/-- The end of the watch window: 1 ms for TWIN_ID 0, 2 ms for TWIN_ID 1, none with twin operation disabled. -/
def Dev.windowOver (d : Dev) : Bool :=
  !d.twinEn || decide (d.kindle.configuredAt + (1 + d.twinId) * 10000000 ≤ d.now)

def Dev.windowEnd (d : Dev) : Dev := if d.windowOver && !d.kindle.decided then d.startDecision else d

/-! What station inputs do. -/

/-- DEV_CMD DEBLOCK (spec R98, R99, R106). -/
def Dev.devDeblock (d : Dev) : Dev :=
  if d.ds == dsREADY && !d.estop then Dev.ret { d with kindle := { d.kindle with deblock := true } } stOK else d.ret stSTATE

/-- DEV_CMD BLOCK (spec R98, R99). -/
def Dev.devBlock (d : Dev) : Dev :=
  if d.ds == dsRUNNING then (d.converterBlock caDEVICE).ret stOK
  else if d.ds == dsREADY && d.kindle.deblock then d.deblockCancel.ret stOK
  else d.ret stSTATE

/-- What changed inputs bring about, given the device before the change (spec R104, R106). `edge` is false at a start of
the filtered levels, which is no edge. F238 rises with the OR of the ESTOP inputs (log 113). -/
def Dev.stnActs (d before : Dev) (edge : Bool) : Dev :=
  let d := if d.estop && !before.estop then (d.rise Reg.STN.LEAVES 0 uREG).raise 238 0
    else if d.estop then d else d.fall Reg.STN.LEAVES 0
  let lost := [1, 2, 3].any (fun f => before.permissive f && !d.permissive f)
  let d := if d.ds == dsRUNNING && lost then (d.rise Reg.STN.LEAVES 1 uREG).raise 237 0 else d
  let st := d.status
  let d := if edge && d.stnAny fnDEBLOCK_REQ && !before.stnAny fnDEBLOCK_REQ then d.devDeblock else d
  let d := if edge && d.stnAny fnBLOCK_REQ && !before.stnAny fnBLOCK_REQ then d.devBlock else d
  let d := if d.kindle.decided && d.ds == dsCONFIGURED then d.startDecision else d
  d.readyCheck.ret st

/-- The present level of an input after INVERT. -/
def Dev.stnNow (d : Dev) (n : Nat) : Bool := d.kindle.stnRaw.testBit n != d.bit (Reg.STN.IN_CFG n) 7

/-- Inputs restart from their present levels; `before` is the device before the settings changed (spec R103). -/
def Dev.stnRestart (d before : Dev) (pins : List Nat) : Dev :=
  let d := pins.foldl (fun d n => d.set Reg.STN.IN_LEVEL (putBit (d.get Reg.STN.IN_LEVEL) n (d.stnNow n))) d
  d.stnActs before false

/-- STN_IN_CHANGE: a level has held for IN_FILTER (spec R103). -/
def Dev.stnChange (d : Dev) (pin : Nat) (level : Bool) : Dev :=
  let before : Dev := { d with kindle := { d.kindle with stnRaw := putBit d.kindle.stnRaw pin level } }
  if !d.live then before
  else
    let d := before.set Reg.STN.IN_LEVEL (putBit (before.get Reg.STN.IN_LEVEL) pin (before.stnNow pin))
    d.stnActs before true

/-! Outputs (spec R78, R105, R365, R366). -/

/-- A function of R105 is asserted. -/
def Dev.stnOut (d : Dev) (f : Nat) : Bool :=
  match f with
  | 1 => d.dsIn [dsREADY, dsRUNNING]
  | 2 => d.dsIn [dsRUNNING, dsTAKEOVER]
  | 3 => d.tripReq
  | 4 => !d.kindle.close.isEmpty
  | 5 => d.active
  | _ => false

/-- OUT_LEVEL: low in RESET and KINDLING, high impedance in BANKED (spec R78, R103, R105). -/
def Dev.outLevel (d : Dev) : Nat :=
  if !d.live then 0
  else (List.range 8).foldl (fun v n =>
    putBit v n (d.stnOut (d.get (Reg.STN.OUT_CFG n) % 16) != d.bit (Reg.STN.OUT_CFG n) 7)) 0

/-- IRQ_N is asserted (spec R57); high in RESET, KINDLING and BANKED (spec R78). -/
def Dev.irqLow (d : Dev) : Bool := d.live && (d.get Reg.ERRSUM.ERROR_SUMMARY &&& d.get Reg.SUMCTL.IRQ_MASK) != 0

/-- CLOSE_PULSE_END (spec R105). -/
def Dev.closeEnd (d : Dev) (g : Nat) : Dev :=
  match Tab.find d.kindle.close g with
  | some t =>
    if t + d.get Reg.STN.CLOSE_WIDTH * 10000 ≤ d.now then { d with kindle := { d.kindle with close := d.kindle.close.drop g } } else d
  | none => d

/-! Frame boundaries (spec R98, R159). -/

/-- ACTIVE turf cells of an arm. -/
def Dev.admittedCells (d : Dev) (a : Nat) : Nat :=
  (d.knownSlots.filter (fun s => d.armOfSlot s == some a && d.cellState s == csACTIVE && d.get (Reg.TURF.SERIAL s) != 0)).length

/-- Every arm is at its admission threshold; one without a port meets it (spec R159). -/
def Dev.armsAdmitted (d : Dev) : Bool :=
  (List.range 6).all (fun a => !d.armMapped a || decide (d.get (Reg.ADM.ADMIT_MIN a) ≤ d.admittedCells a))

/-- The transitions that take effect at a boundary (spec R98). -/
def Dev.deviceFrame (d : Dev) : Dev :=
  let d := if d.ds == dsLINKS_UP && d.armsAdmitted then d.reach dsADMITTED else d
  let d := if d.ds == dsADMITTED && d.readyOk && !d.twin.yielded then d.reach dsREADY else d
  if d.ds == dsREADY && d.kindle.deblock then
    if d.readyOk then
      let d := Dev.changeState { d with kindle := { d.kindle with deblock := false } } dsRUNNING
      ((List.range 6).filter d.armMapped).foldl (fun d a => d.ask a { act := .deblock, cause := caDEVICE, from_ := d.frame.bn }) d
    else d.readyCheck
  else d

/-! RESET (spec R76–R78, R97). -/

/-- First byte address beyond MRAM: SRAM and its buffers (log 3). -/
def sramSpan : Nat := 0x8000000

/-- Values that MRAM keeps over a reset: where the fault log stands, the retired blocks, and a slot left WRITING (spec
R26, R27, R94, R373). -/
def Dev.keptRegs (d : Dev) : List (Nat × Nat) :=
  [Reg.DAMP.LOG_INDEX, Reg.DAMP.LOG_WRAPPED, Reg.MAINT.MRAM_SPARE_BLOCKS].map (fun k => (k, d.get k)) ++
    [Reg.KINDLE.IMG_A, Reg.KINDLE.IMG_B].filterMap (fun k => if d.get k == 7 then some (k, 7) else none)

/-- RESET: from RUNNING, BLOCK to group 0 leaves every enabled port first; then every object is at its reset value and
SRAM is empty. MRAM, the free-value counter and the levels of the pins stay. -/
def Dev.devReset (d : Dev) (cause : Nat) : Dev :=
  let d := if d.ds == dsRUNNING then
      (List.range 24).foldl (fun d p => if (d.port p).live then d.sendBlock p d.tt 0 0 else d) d
    else d
  let fresh : Dev :=
    { now := d.now, freeCtr := d.freeCtr, status := d.status, data := d.data, out := d.out
      memQ := d.memQ ++ [.clear Mem.mramEnd sramSpan]
      jtag := d.jtag
      kindle := { poresetLow := d.kindle.poresetLow, vddLow := d.kindle.vddLow, strapPins := d.kindle.strapPins, testEn := d.kindle.testEn, stnRaw := d.kindle.stnRaw }
      maint := { proofBase := d.proofAge, proofAt := d.now, mramCe := d.maint.mramCe }
      meas := { vrefBad := d.meas.vrefBad }
      pwm := { trips := d.pwm.trips }
      twin := { actIn := d.twin.actIn } }
  (fresh.sets d.keptRegs).set Reg.KINDLE.RESET_CAUSE cause

end Sys2Proof.Machine
end

