-- ==== Sys2Proof/Machine/Commit.lean ====
section
/-!
DEFINITION. Commit domains and groups, the judgement of a strobe, its apply, and what units do at an apply (spec R45–R52,
R115–R117, R143, R158, R215, R222, R262, R312, R330, R356, R361, R375).
-/
namespace Sys2Proof.Machine

/-! Domains and groups (spec R46). -/

/-- The commit domain of a sub-entry, numbered as 0x2003 lists them from 0; a port follows the map in force. -/
def Dev.domain (d : Dev) (k : Nat) : Nat :=
  let i := k / 256
  let within (lo hi : Nat) : Bool := decide (lo ≤ i) && decide (i ≤ hi)
  if within 0x2300 0x2317 then
    match d.armOfPort (i - 0x2300) with
    | some a => a + 1
    | none => 0
  else if within 0x2600 0x2605 then i - 0x2600 + 1
  else if within 0x2800 0x2805 then i - 0x2800 + 1
  else if within 0x2900 0x29FF || within 0x3000 0x3FFF then 7
  else if within 0x2A00 0x2AFF then 8
  else if within 0x2400 0x24FF then 9
  else 0

/-- The commit group of a sub-entry. -/
def Dev.groupOf (d : Dev) (k : Nat) : Nat := d.get (Reg.CMAP.GROUP (d.domain k))

/-- 0x2002:02 PENDING (spec R45, R48). -/
def Dev.pendingGroups (d : Dev) : Nat := d.shadow.foldl (fun v e => setBit v (d.groupOf e.1)) 0

/-! What a strobe that carries the keys `ks` leaves behind. -/

/-- The value of a sub-entry after a strobe that applies `ks`. -/
def Dev.after (d : Dev) (ks : List Nat) (k : Nat) : Nat := if ks.contains k then d.getShadow k else d.get k

def Dev.afterF (d : Dev) (ks : List Nat) (k : Nat) : F32 := BitVec.ofNat 32 (d.after ks k)

def carries (ks l : List Nat) : Bool := l.any (fun k => ks.contains k)

def without (ks l : List Nat) : List Nat := ks.filter (fun k => !l.contains k)

/-! Judgements: each takes the keys carried and the device, and leaves out what the strobe may not apply. -/

/-- The plan fields of a port (spec R143). -/
def planKeys (p : Nat) : List Nat :=
  [Reg.PORT.EQ_TARGET p, Reg.PORT.N_SOD p, Reg.PORT.MGMT_SLOTS p, Reg.PORT.TINDER_LO p, Reg.PORT.TINDER_HI p]

def Dev.planAfter (d : Dev) (ks : List Nat) (p : Nat) : Plan :=
  { eq := d.after ks (Reg.PORT.EQ_TARGET p), nSod := d.after ks (Reg.PORT.N_SOD p), mgmt := d.after ks (Reg.PORT.MGMT_SLOTS p)
    lo := d.after ks (Reg.PORT.TINDER_LO p), hi := d.after ks (Reg.PORT.TINDER_HI p) }

/-- TF and port plans (spec R143). -/
def judgePlans (r : List Nat × Dev) : List Nat × Dev :=
  let ks := r.1
  let d := r.2
  let ports := (List.range 24).filter (fun p => carries ks (planKeys p))
  let tfIn := ks.contains Reg.LINK.TF
  let tfNew := d.after ks Reg.LINK.TF
  if (!tfIn && ports.isEmpty) || d.mappedPorts.all (fun p => (d.planAfter ks p).fits tfNew) then r
  else
    let refused := ports.filter (fun p => !(d.planAfter ks p).fits (d.get Reg.LINK.TF))
    let blame := if tfIn then d.mappedPorts.filter (fun p => !(d.planAfter ks p).fits tfNew) else []
    (without ks (Reg.LINK.TF :: refused.flatMap planKeys),
      (refused ++ blame).foldl (fun d p => d.rise (Reg.PORT.LEAVES p) 8 uLINK) d)

def mapKeys : List Nat := (List.range 24).map (fun p => Reg.PMAP.PORT_ARM p)

/-- The arm-to-port map, whole or not at all (spec R11, R158). -/
def judgeMap (r : List Nat × Dev) : List Nat × Dev :=
  let ks := r.1
  let d := r.2
  if !carries ks mapKeys then r
  else
    let new (p : Nat) : Nat := d.after ks (Reg.PMAP.PORT_ARM p)
    let many := (List.range 6).any (fun a => decide (8 < ((List.range 24).filter (fun p => new p == a)).length))
    let moved := (List.range 24).any (fun p =>
      let old := d.get (Reg.PMAP.PORT_ARM p)
      old != new p && [old, new p].any (fun a => decide (a < 6) && d.armState a != asBLOCKED))
    let st := if many then 1 else if moved then 2 else 0
    (if st == 0 then ks else without ks mapKeys, d.set Reg.PMAP.MAP_STATUS st)

/-- The coefficients of an arm with T_OPEN_MAX and T_RECOVER (spec R261, R262). -/
def coefKeys (a : Nat) : List Nat :=
  ((List.range 14).map (fun i => (0x2600 + a) * 256 + 6 + i)) ++ [Reg.ARM.T_OPEN_MAX a, Reg.ARM.T_RECOVER a]

/-- One arm's set (spec R262). -/
def judgeCoefs (r : List Nat × Dev) (a : Nat) : List Nat × Dev :=
  let ks := r.1
  let d := r.2
  if carries ks (coefKeys a) &&
      (decide (d.after ks (Reg.ARM.H_OUT a) ≤ d.after ks (Reg.ARM.H_IN a)) ||
       decide (toSigned 16 (d.after ks (Reg.ARM.N_MAX a)) < toSigned 16 (d.after ks (Reg.ARM.N_MIN a))) ||
       decide (d.after ks (Reg.ARM.T_OPEN_MAX a) ≤ d.after ks (Reg.ARM.T_RECOVER a))) then
    (without ks (coefKeys a), (d.rise (Reg.ARM.LEAVES a) 7 uARM).raiseLoop 125 a)
  else r

/-- CFG_REFUSED of measurement. -/
def Dev.cfgRefused (d : Dev) : Dev := d.rise Reg.MEAS.LEAVES 2 uMEAS

def pairKeys (n : Nat) : List Nat := [Reg.CV.AIN (2 * n), Reg.CV.GAIN (2 * n), Reg.CV.FILTER (2 * n), Reg.CV.DELAY (2 * n)]

/-- A pair's input, gain, filter and delay (spec R222). -/
def judgePair (r : List Nat × Dev) (n : Nat) : List Nat × Dev :=
  let st := r.2.armState n
  if carries r.1 (pairKeys n) && !(st == asBLOCKED || st == asOPEN) then (without r.1 (pairKeys n), r.2.cfgRefused) else r

/-- DELAY and GRID_DIV of a single converter on GRID (spec R215). -/
def judgeGrid (r : List Nat × Dev) (k : Nat) : List Nat × Dev :=
  let l := [Reg.CV.DELAY k, Reg.CV.GRID_DIV k]
  if carries r.1 (Reg.CV.START_SRC k :: l) && r.2.after r.1 (Reg.CV.START_SRC k) == 0 &&
      decide (2000 * r.2.after r.1 (Reg.CV.GRID_DIV k) ≤ 16 * r.2.after r.1 (Reg.CV.DELAY k)) then
    (without r.1 l, r.2.cfgRefused)
  else r

/-- The four settings of a comparator (spec R222). -/
def judgeOc (r : List Nat × Dev) (k : Nat) : List Nat × Dev :=
  let l := [Reg.OC.ENABLE k, Reg.OC.UPPER k, Reg.OC.LOWER k, Reg.OC.HYST k]
  if carries r.1 l && decide (r.2.after r.1 (Reg.OC.UPPER k) ≤ r.2.after r.1 (Reg.OC.LOWER k)) then
    (without r.1 l, r.2.cfgRefused)
  else r

/-- ALARM_THRESHOLD not below LOCK_THRESHOLD (spec R117). -/
def judgeServo (r : List Nat × Dev) : List Nat × Dev :=
  let l := [Reg.SERVO.LOCK_THRESHOLD, Reg.SERVO.ALARM_THRESHOLD]
  if carries r.1 l && decide (r.2.after r.1 Reg.SERVO.ALARM_THRESHOLD < r.2.after r.1 Reg.SERVO.LOCK_THRESHOLD) then
    (without r.1 l, r.2)
  else r

/-- Structural shadows need a PASSED check (spec R330). -/
def judgeGraph (r : List Nat × Dev) : List Nat × Dev :=
  if r.1.any isStructKey && r.2.get Reg.KILN.CHECK_STATE != 2 then
    (r.1.filter (fun k => !isStructKey k), (r.2.rise Reg.KILN.LEAVES 4 uKILN).raise 168 0)
  else r

def nodeCoefKeys (n : Nat) : List Nat := (List.range 8).map (fun i => Reg.NODE.K n i)

/-- The coefficients of one node, under the opcode it has after the strobe (spec R312). -/
def judgeNode (r : List Nat × Dev) (n : Nat) : List Nat × Dev :=
  if coefBad (descOp (r.2.after r.1 (Reg.NODE.DESC n))) (fun i => r.2.afterF r.1 (Reg.NODE.K n i)) then
    (without r.1 (nodeCoefKeys n), (r.2.rise Reg.KILN.LEAVES 3 uKILN).raiseNode 167 n)
  else r

/-- Nodes whose coefficients a strobe carries, each once. -/
def nodesCarried (ks : List Nat) : List Nat :=
  ((ks.filter (fun k => decide (0x3000 ≤ k / 256) && decide (k / 256 ≤ 0x3FFF) && decide (7 ≤ k % 256))).map
    (fun k => k / 256 - 0x3000)).eraseDups

/-- A PWM channel's fields stand together on PHASE below PERIOD (spec R356). -/
def judgePwm (r : List Nat × Dev) (n : Nat) : List Nat × Dev :=
  let mine (k : Nat) : Bool := k / 256 == 0x2A10 + n
  if r.1.any mine && decide (r.2.after r.1 (Reg.PWM.PERIOD n) ≤ r.2.after r.1 (Reg.PWM.PHASE n)) then
    (r.1.filter (fun k => !mine k), r.2.rise (Reg.PWM.LEAVES n) 5 uPWM)
  else r

/-- SEVERE_REACT not below REACT (spec R375). -/
def judgeSource (r : List Nat × Dev) (f : Nat) : List Nat × Dev :=
  let l := [Reg.FSRC.REACT f, Reg.FSRC.SEVERE_REACT f]
  if carries r.1 l && decide (r.2.after r.1 (Reg.FSRC.SEVERE_REACT f) < r.2.after r.1 (Reg.FSRC.REACT f)) then
    (without r.1 l, r.2)
  else r

/-- Sources whose settings a strobe carries, each once. -/
def sourcesCarried (ks : List Nat) : List Nat :=
  ((ks.filter (fun k => decide (0x4000 ≤ k / 256) && decide (k / 256 ≤ 0x40FF))).map (fun k => k / 256 - 0x4000)).eraseDups

/-- All judgements of a strobe. -/
def judge (r : List Nat × Dev) : List Nat × Dev :=
  let r := judgeServo (judgeGraph (judgeMap (judgePlans r)))
  let r := (List.range 6).foldl (fun r n => judgePwm (judgePair (judgeCoefs r n) n) n) r
  let r := (List.range 6).foldl (fun r n => judgeGrid r (12 + n)) r
  let r := (List.range 12).foldl judgeOc r
  let r := (nodesCarried r.1).foldl judgeNode r
  (sourcesCarried r.1).foldl judgeSource r

/-! The apply (spec R50–R52). -/

/-- Settings of arms, lanes and measurement, whose old values samples below K still use (spec R50). -/
def tracked (k : Nat) : Bool :=
  let i := k / 256
  (decide (0x2400 ≤ i) && decide (i ≤ 0x247F)) || i == 0x2500 || (decide (0x2600 ≤ i) && decide (i ≤ 0x2605)) ||
    (decide (0x2800 ≤ i) && decide (i ≤ 0x2805))

/-- One shadow value comes into force at apply index `K`. A lookup table's bytes move from their shadow area. -/
def Dev.applyKey (m : Memory) (K : Nat) (d : Dev) (k : Nat) : Dev :=
  match Tab.find d.shadow k with
  | none => d
  | some v =>
    let d : Dev := { d with shadow := d.shadow.drop k }
    if decide (0x2960 ≤ k / 256) && decide (k / 256 ≤ 0x297F) && k % 256 == 4 then
      let t := k / 256 - 0x2960
      (d.memWrite (Mem.lookup t) (d.memBytes m (Mem.lookupPending t) 1024)).memClear (Mem.lookupPending t) 1024
    else
      let old := d.get k
      let d : Dev := if tracked k then { d with hist := { k := K, key := k, old := old } :: d.hist } else d
      d.set k v

/-- Old values that no sample can still use are forgotten. -/
def Dev.forget (d : Dev) : Dev := { d with hist := d.hist.filter (fun o => decide (siOf d.tt < o.k + 2048)) }

/-- Measurement settings that changed with the apply; a value already in force is no change (spec R220, R221). -/
def Dev.cvApplied (d before : Dev) (ks : List Nat) (K ts : Nat) : Dev :=
  ([0, 2, 4, 6, 8, 10] ++ (List.range 6).map (· + 12)).foldl (fun d k =>
    let a := ks.contains (Reg.CV.AIN k)
    let g := ks.contains (Reg.CV.GAIN k)
    let f := ks.contains (Reg.CV.FILTER k)
    if a || g || f then d.cvChanged k (if isPair k then K else ts) a g f (before.get (Reg.CV.FILTER k)) else d) d

/-- A source's window closes with a new COUNT_N or WINDOW (spec R361). -/
def Dev.sourceApplied (d : Dev) (ks : List Nat) (f : Nat) : Dev :=
  if carries ks [Reg.FSRC.COUNT_N f, Reg.FSRC.WINDOW f] then
    Dev.set { d with damper := { d.damper with winEnd := d.damper.winEnd.drop f } } (Reg.FSRC.IN_WINDOW f) 0
  else d

/-- Settings of the field network that take it down and bring it up again (spec R74). -/
def netKeys : List Nat :=
  [Reg.NET.MODE, Reg.NET.NET0_IF, Reg.NET.NET1_IF, Reg.NET.NET0_EN, Reg.NET.NET1_EN] ++
  (List.range 2).flatMap (fun n => [Reg.V4.V4_EN n, Reg.V4.V4_ADDR n, Reg.V4.V4_PREFIX n, Reg.V4.V4_GATEWAY n,
    Reg.V6.V6_EN n, Reg.V6.V6_ADDR_HI n, Reg.V6.V6_ADDR_LO n, Reg.V6.V6_PREFIX n, Reg.V6.V6_GW_HI n, Reg.V6.V6_GW_LO n]) ++
  [Reg.CONVIP.V4_EN, Reg.CONVIP.V4_ADDR, Reg.CONVIP.V4_PREFIX, Reg.CONVIP.V6_EN, Reg.CONVIP.V6_ADDR_HI, Reg.CONVIP.V6_ADDR_LO]

/-- Twin operation has just been enabled: the watch window runs from here (spec R100). -/
def Dev.twinApplied (d before : Dev) : Dev :=
  let d : Dev := if d.twinEn && !before.twinEn then
      { d with kindle := { d.kindle with decided := false, configuredAt := d.now }
               twin := { d.twin with actSeen := d.twin.actIn } }
    else d
  d.twinSync

/-- Inputs whose INVERT or function changed (spec R103). -/
def Dev.pinsChanged (d before : Dev) : List Nat :=
  (List.range 8).filter (fun n =>
    d.stnFn n != before.stnFn n || d.bit (Reg.STN.IN_CFG n) 7 != before.bit (Reg.STN.IN_CFG n) 7)

/-- Ports that changed arm: their cells join the new arm's lane at the next frame boundary, and VCAP_EST of those that no lane
holds from now on keeps its value (spec R158, R294). -/
def Dev.portsMoved (d before : Dev) (changed : List Nat) : Dev :=
  let ps := (List.range 24).filter (fun p => changed.contains (Reg.PMAP.PORT_ARM p))
  if ps.isEmpty then d
  else
    let out := before.knownSlots.filter (fun s => ps.contains (portOf s) && (before.armOfSlot s).isSome)
    let d := d.sets (out.map (fun s => (Reg.CELL.VCAP_EST s, (before.vcapEst s).toNat)))
    { d with link := { d.link with moved := (d.link.moved ++ ps).eraseDups } }

/-- What units do once the values of `ks` are in force. -/
def Dev.applied (d before : Dev) (ks : List Nat) (K ts : Nat) : Dev :=
  let changed := ks.filter (fun k => before.get k != d.get k)
  let d := d.cvApplied before changed K ts
  let d := if carries ks [Reg.SERVO.ENABLE] then d.servoEnable else d
  let d : Dev := if carries ks [Reg.PPS.OUT_MODE] && d.get Reg.PPS.OUT_MODE == 0 then
      { d with time := { d.time with ppsOut := false } } else d
  let d := if d.live && !(d.pinsChanged before).isEmpty then d.stnRestart before (d.pinsChanged before) else d
  let d := if carries ks [Reg.TWIN.TWIN_EN] then d.twinApplied before else d
  let d := (sourcesCarried changed).foldl (fun d f => d.sourceApplied changed f) d
  let d : Dev := if ks.any isStructKey then { d with kiln := { d.kiln with reload := true } } else d
  let d := d.portsMoved before changed
  let d := (List.range 6).foldl (fun d n =>
    if carries changed [Reg.PWM.PERIOD n, Reg.PWM.PHASE n] then d.setPw n { d.pw n with since := ts } else d) d
  let d := (List.range 6).foldl (fun d a =>
    d.ffNamed a (changed.contains (Reg.ARM.V_POLE_CV a)) (changed.contains (Reg.ARM.V_AC_CV a))) d
  let d := if carries ks mapKeys then d.gate d.interlock else d
  let d := if carries changed netKeys then d.netDown else d
  let d := if carries ks [Reg.MAINT.WEAR_WARN, Reg.MAINT.WEAR_LIMIT] then d.wearCheck else d
  let d := if carries ks [Reg.MAINT.PROOF_INTERVAL] && d.proofAge ≤ d.get Reg.MAINT.PROOF_INTERVAL then
      d.fall Reg.MAINT.LEAVES 4 else d
  let d := if ks.any (fun k => k / 256 == 0x2B00 || (decide (0x4000 ≤ k / 256) && decide (k / 256 ≤ 0x40FF))) then d.damperLeaves else d
  let d : Dev := if carries changed [Reg.FLUE.DAT_EN] then { d with meas := { d.meas with flue := [] } } else d
  (d.gatesMoved before).engineSync

/-- What an earlier strobe of this apply index captured and did not apply, and what still waits as it was captured (spec
R52). -/
def Dev.recaptured (d : Dev) (K : Nat) : List Nat :=
  if d.lastApply == K then (d.refused.filter (fun e => Tab.find d.shadow e.1 == some e.2)).map Prod.fst else []

/-- A strobe of the groups in `mask` with strobe time `ts` (spec R49–R52). Strobes of one apply index make one apply: what an
earlier one captured and could not apply alone is judged again with what this one carries. The second part is K. -/
def Dev.strobeAt (d : Dev) (m : Memory) (mask ts : Nat) : Dev × Nat :=
  let K := applyIndex ts
  let again := d.recaptured K
  let carried := (d.shadow.map Prod.fst).filter (fun k => mask.testBit (d.groupOf k) || again.contains k)
  let r := judge (carried, d)
  let before := r.2
  let d := r.1.foldl (Dev.applyKey m K) before.forget
  let d : Dev := { d with lastApply := K, refused := d.shadow.filter (fun e => carried.contains e.1) }
  let d := (List.range 8).foldl (fun d g => if mask.testBit g then d.set (Reg.COMMIT.LAST_SI g) K else d) d
  ((d.applied before r.1 K ts).event 0x1C6, K)

/-- A software strobe: ts is the apply point of the write (spec R49, R63). -/
def Dev.commitNow (d : Dev) (m : Memory) (mask : Nat) : Dev × Nat := d.strobeAt m mask d.tt

/-- The frame-boundary strobe (spec R16, R49). -/
def Dev.commitFrame (d : Dev) (m : Memory) : Dev :=
  let mask := d.get Reg.COMMIT.SRC_FRAME
  if mask == 0 then d else (d.strobeAt m mask d.frame.bn).1

/-- A COMMIT_IN edge, resolved to 1.6 ns (spec R49). -/
def Dev.commitIn (d : Dev) (m : Memory) (rising : Bool) : Dev :=
  let e := d.get Reg.COMMIT.PIN_EDGE
  let mask := d.get Reg.COMMIT.SRC_PIN
  if d.live && mask != 0 && (e == 2 || (e == 0 && rising) || (e == 1 && !rising)) then (d.strobeAt m mask d.tick).1 else d

/-- A late firing of the commit compare: leaf COMMIT_LATE, and what R129 says of every late compare. -/
def Dev.commitLate (d : Dev) (m : Memory) : Dev :=
  let d := (d.strobeAt m (d.get Reg.COMMIT.SRC_TIME) d.nextTick).1
  ((d.rise Reg.REGST.LEAVES 2 uREG).rise Reg.TB.LEAVES 7 uTIME).raise 70 0

/-- A write of 1 to TIME_ARM (spec R48, R49, R128, R129). -/
def Dev.timeArm (d : Dev) (m : Memory) : Dev :=
  if d.on Reg.COMMIT.TIME_ARMED then d.ret stBUSY
  else
    let diff := diffW 64 (d.get Reg.COMMIT.TIME_AT) d.tt
    if diff < 0 then (d.commitLate m).ret stOK
    else
      Dev.ret (Dev.set { d with time := { d.time with commitFar := decide ((2 ^ 31 : Int) ≤ diff) } } Reg.COMMIT.TIME_ARMED 1) stOK

/-- COMMIT_TIME_FIRE: ts is TIME_AT (spec R49). -/
def Dev.timeFire (d : Dev) (m : Memory) : Dev :=
  if d.on Reg.COMMIT.TIME_ARMED && !d.time.commitFar && d.tickCame (d.get Reg.COMMIT.TIME_AT) then
    (Dev.strobeAt (d.set Reg.COMMIT.TIME_ARMED 0) m (d.get Reg.COMMIT.SRC_TIME) (d.get Reg.COMMIT.TIME_AT)).1
  else d

/-! Discards (spec R42, R89). -/

/-- Pending values of some sub-entries are discarded; lookup tables forget their shadow bytes. -/
def Dev.discard (d : Dev) (f : Nat → Bool) : Dev :=
  let gone := d.shadow.filter (fun e => f e.1)
  let d := gone.foldl (fun d e => if decide (0x2960 ≤ e.1 / 256) && decide (e.1 / 256 ≤ 0x297F) && e.1 % 256 == 4 then
      d.memClear (Mem.lookupPending (e.1 / 256 - 0x2960)) 1024 else d) d
  { d with shadow := d.shadow.filter (fun e => !f e.1) }

/-- The lock domain that guards a sub-entry (spec R40). -/
def lockOf (k : Nat) : Option LockDom := (entryAt (k / 256) (k % 256)).bind Entry.lock

/-- A write of ones to LOCK (spec R40, R42); the reserved bits [7:5] take the value written (spec R36). -/
def Dev.lockSet (d : Dev) (v : Nat) : Dev :=
  let new := clearBits (v % 32) (d.get Reg.LOCK.LOCK)
  let hit (k : Nat) : Bool := match lockOf k with
    | some l => new.testBit l.bit
    | none => false
  let any := d.shadow.any (fun e => hit e.1)
  let d := Dev.set (d.discard hit) Reg.LOCK.LOCK ((d.get Reg.LOCK.LOCK ||| v) % 32 + v / 32 % 8 * 32)
  if any then d.rise Reg.REGST.LEAVES 1 uREG else d

/-- What a locked write does (spec R41). -/
def Dev.lockViol (d : Dev) (k : Nat) : Dev :=
  let d := (d.rise Reg.REGST.LEAVES 0 uREG).set Reg.REGST.LAST_VIOL k
  ((d.count Reg.REGST.VIOL_COUNT 32 1).raise 224 k).ret stLOCKED

/-- Whether the lock that guards a sub-entry is set. -/
def Dev.locked (d : Dev) (k : Nat) : Bool :=
  match lockOf k with
  | some l => d.bit Reg.LOCK.LOCK l.bit
  | none => false

/-- A write to COMMIT_MAP (spec R46, R47). A value above 7 returns RANGE also while a group is pending (DESIGN CHOICE, log 77). -/
def Dev.commitMap (d : Dev) (dom v : Nat) : Dev :=
  let k := Reg.CMAP.GROUP dom
  if d.locked k then d.lockViol k
  else if 7 < v then d.ret stRANGE
  else if d.pendingGroups != 0 then (d.rise Reg.REGST.LEAVES 5 uREG).ret stBUSY
  else (d.set k v).ret stOK

end Sys2Proof.Machine
end

