-- ==== Sys2Proof/Machine/Damper.lean ====
section
/-!
DEFINITION. The damper: events, classification, reactions, clears and the fault log; core stalls (spec R358–R375, R391,
R394, R407).
-/
namespace Sys2Proof.Machine

abbrev ssPENDING : Nat := 0
abbrev ssSEVERE : Nat := 1
abbrev ssFORCED : Nat := 3

/-! LIVE (spec R359). -/

/-- Any of the six arms. -/
def anyArm (p : Nat → Bool) : Bool := (List.range 6).any p

/-- The live leaf that is a source's cause is 1; false for a source without one. -/
def Dev.srcLive (d : Dev) (f : Nat) : Bool :=
  let port (b : Nat) : Bool := (List.range 24).any (fun p => d.bit (Reg.PORT.LEAVES p) b)
  match f with
  | 22 => d.bit Reg.MAINT.LEAVES 2
  | 23 => d.bit Reg.MAINT.LEAVES 3
  | 33 => port 1
  | 34 => port 2
  | 40 => port 7
  | 52 => d.bit Reg.LSTAT.LEAVES 4
  | 58 => d.bit Reg.LSTAT.LEAVES 10
  | 65 => d.bit Reg.TB.LEAVES 0
  | 67 => d.bit Reg.TB.LEAVES 2
  | 71 => d.bit Reg.TB.LEAVES 5
  | 92 => d.bit Reg.MEAS.LEAVES 4
  | 94 => d.bit Reg.MEAS.LEAVES 5
  | 95 => d.bit Reg.MEAS.LEAVES 0
  | 106 => d.gs 0 gsLOSS
  | 107 => d.gs 1 gsLOSS
  | 122 => anyArm (fun a => d.bit (Reg.ARM.LEAVES a) 8)
  | 123 => anyArm (fun a => d.bit (Reg.ARM.LEAVES a) 9)
  | 169 => d.bit Reg.KILN.LEAVES 6
  | 198 => anyArm (fun n => d.bit (Reg.PWM.LEAVES n) 3)
  | 208 => d.bit Reg.TWIN.LEAVES 1
  | 209 => d.bit Reg.TWIN.LEAVES 2
  | 212 => d.bit Reg.TWIN.LEAVES 6
  | 213 => d.bit Reg.TWIN.LEAVES 7
  | 214 => d.bit Reg.TWIN.LEAVES 8
  | 216 => d.bit Reg.TWIN.LEAVES 10
  | 238 => d.bit Reg.STN.LEAVES 0
  | 247 => d.bit Reg.MAINT.LEAVES 1
  | 252 => d.bit Reg.MAINT.LEAVES 4
  | 254 => d.bit Reg.ACQ.LEAVES 3
  | _ =>
    if 144 ≤ f ∧ f ≤ 149 then d.bit (Reg.LANE.LEAVES (f - 144)) 0
    else false

/-- The sources whose reactions are fixed (spec R372). -/
def srcFixed (f : Nat) : Bool := f == 18 || f == 119 || f == 238

/-- The self-test sources (spec R371). -/
def srcSelfTest (f : Nat) : Bool := [31, 63, 79, 111, 143, 159, 191, 207, 239, 255].contains f

/-! The fault log (spec R373). -/

/-- The 32 bytes of a record. -/
def LogRec.bytes (r : LogRec) : List Byte :=
  let b := leBytes 8 r.tt ++ leBytes 2 r.src ++ leBytes 1 r.cls ++ leBytes 1 r.flags ++ leBytes 1 r.state ++
    leBytes 1 r.arm ++ leBytes 2 r.inWindow ++ leBytes 4 r.aux ++ leBytes 8 0
  b ++ leBytes 4 (crc32 b)

/-- The second in which records are counted: that of the last one, or one that begins now. -/
def Dev.logSecond (d : Dev) : DamperX :=
  let x := d.damper
  if x.rateN == 0 || x.rateAt + 10000000000 ≤ d.now then { x with rateAt := d.now, rateN := 0 } else x

/-- Where a record that is due now goes. -/
def Dev.logPlace (d : Dev) : RecAt := if d.logSecond.rateN < 2000 then .at (d.get Reg.DAMP.LOG_INDEX) else .suppressed

/-- A record is written, at most 2,000 in a second; beyond, LOG_SUPPRESSED counts and F251 is raised at most once per
second. -/
def Dev.logWrite (d : Dev) (r : LogRec) : Dev :=
  let x := d.logSecond
  if x.rateN < 2000 then
    let i := d.get Reg.DAMP.LOG_INDEX
    let d := Dev.memWrite { d with damper := { x with rateN := x.rateN + 1 } } (Mem.log + 32 * i) r.bytes
    let d := d.set Reg.DAMP.LOG_INDEX ((i + 1) % 8192)
    if i + 1 == 8192 then d.set Reg.DAMP.LOG_WRAPPED 1 else d
  else
    let again := match x.suppressedAt with
      | some t => decide (t + 10000000000 ≤ d.now)
      | none => true
    let x : DamperX := if again then { x with suppressedAt := some d.now } else x
    let d : Dev := { d with damper := x }
    let d := (d.count Reg.DAMP.LOG_SUPPRESSED 32 1).rise Reg.DAMP.LEAVES 3 uDAMPER
    if again then d.raise 251 0 else d

/-! Reactions (spec R362, R363, R394). -/

/-- The partner is BANKED and fit, and both heartbeat paths are good (spec R394). -/
def Dev.partnerReady (d : Dev) : Bool :=
  match d.twin.hb with
  | some (h, _, _) => h.devState.toNat == dsBANKED && h.fit && d.get Reg.TWIN.PATHS % 4 == 3
  | none => false

/-- Arm bits of a HEARTBEAT: arms that are not BLOCKED; none in SAFE or after a stall, unless frozen (spec R394, R397). -/
def Dev.armBits (d : Dev) : Nat :=
  match d.twin.frozen with
  | some b => b
  | none =>
    if d.ds == dsSAFE || d.twin.stalled then 0
    else (List.range 6).foldl (fun v a => putBit v a (d.armState a != asBLOCKED)) 0

/-- The device yields (spec R394). -/
def Dev.yield (d : Dev) : Dev :=
  let bits := d.armBits
  let d : Dev := { d with twin := { d.twin with frozen := some bits, failed := some 2, yielded := true } }
  let d := d.twinSync
  let d := d.gate d.interlock
  let d := d.blockArms caDAMPER
  if d.dsIn [dsRUNNING, dsTAKEOVER] then d.changeState (if d.readyOk then dsREADY else dsADMITTED) else d.readyCheck

/-- The arm set of an event. -/
def Dev.armSetOf (d : Dev) (f : Nat) (named : Nat) : List Nat :=
  let m := d.get (Reg.FSRC.ARM_MASK f)
  (List.range 6).filter (fun a => m.testBit a || (m.testBit 7 && named.testBit a))

/-- The class actually acted for a classified reaction (spec R362). -/
def Dev.acted (d : Dev) (cls : Nat) (arms : List Nat) : Nat :=
  if (cls == ARM_HOLD || cls == ARM_BLOCK) && arms.isEmpty then ALARM
  else if cls == TAKEOVER_REQUEST && !(d.twinEn && d.partnerReady) then CONVERTER_BLOCK
  else cls

/-- Take the reaction of a class. -/
def Dev.react (d : Dev) (cls : Nat) (arms : List Nat) : Dev :=
  match cls with
  | 2 => arms.foldl (fun d a => d.ask a { act := .hold, cause := caDAMPER, from_ := d.tt }) d
  | 3 => arms.foldl (fun d a => (d.blockPorts (d.portsOf a)).ask a { act := .block, cause := caDAMPER, from_ := d.tt }) d
  | 4 => d.converterBlock caDAMPER
  | 5 => d.yield
  | 6 => d.enterSafe
  | _ => d

/-! Events (spec R358, R361). -/

/-- The classification of an event, counted into its window: whether the source is severe, whether it has just become so,
IN_WINDOW, and the device. -/
def Dev.windowed (d : Dev) (f : Nat) : Bool × Bool × Nat × Dev :=
  let open_ := decide (d.now < d.damper.winEnd.get f 0)
  let n := if open_ then min (d.get (Reg.FSRC.IN_WINDOW f) + 1) 255 else 1
  let d : Dev := if open_ then d
    else { d with damper := { d.damper with winEnd := d.damper.winEnd.put f (d.now + d.get (Reg.FSRC.WINDOW f) * 10000) } }
  let d := d.set (Reg.FSRC.IN_WINDOW f) n
  let was := d.bit (Reg.FSRC.STATUS f) ssSEVERE
  let severe := was || decide (d.get (Reg.FSRC.COUNT_N f) ≤ n)
  (severe, severe && !was, n, d)

/-- EVENTS and the stamps of a source and of the damper. -/
def Dev.counted (d : Dev) (f : Nat) : Dev :=
  let d := (d.count (Reg.FSRC.EVENTS f) 32 1).count Reg.DAMP.EVENTS 64 1
  let d := if d.bit (Reg.FSRC.STATUS f) ssPENDING then d else d.set (Reg.FSRC.FIRST_TT f) d.tt
  (d.sets [(Reg.FSRC.LAST_TT f, d.tt), (Reg.DAMP.LAST_TT, d.tt), (Reg.DAMP.LAST_SOURCE, f)]).ashNote 0x600 (siOf d.tt) f

/-- CLASS takes the highest class acted since the last clear; PENDING. -/
def Dev.classed (d : Dev) (f cls : Nat) : Dev :=
  let c := d.get (Reg.FSRC.CLASS f)
  let d := d.set (Reg.FSRC.CLASS f) (if c == 0xFF then cls else max c cls)
  d.set (Reg.FSRC.STATUS f) (setBit (d.get (Reg.FSRC.STATUS f)) ssPENDING)

/-- A record of a class is due (spec R373): `severe`, the event made its source severe. -/
def Dev.logDue (d : Dev) (cls : Nat) (severe forced : Bool) : Bool := d.get Reg.DAMP.LOG_CLASS ≤ cls || severe || forced

/-- STATUS and event leaf of a forced event (spec R360). -/
def Dev.markForced (d : Dev) (f : Nat) : Dev :=
  (d.set (Reg.FSRC.STATUS f) (setBit (d.get (Reg.FSRC.STATUS f)) ssFORCED)).rise Reg.DAMP.LEAVES 2 uDAMPER

/-- The classified reaction of an event of a source. -/
def Dev.wanted (d : Dev) (f : Nat) (severe : Bool) : Nat :=
  if srcSelfTest f then ALARM else d.get (if severe then Reg.FSRC.SEVERE_REACT f else Reg.FSRC.REACT f)

/-- Keep the last event of a source. -/
def Dev.setEvent (d : Dev) (f : Nat) (e : EventX) : Dev := { d with damper := { d.damper with events := d.damper.events.put f e } }

/-- An event of a source: counted, classified, reacted to and logged. `named` holds the arms that it names. -/
def Dev.sourceEvent (d : Dev) (r : Raised) (named : Nat) : Dev :=
  let f := r.src
  let state := d.ds
  let d := d.counted f
  let w := d.windowed f
  let severe := w.1
  let newly := w.2.1
  let d := w.2.2.2
  let arms := d.armSetOf f named
  let cls := d.acted (d.wanted f severe) arms
  let d := d.classed f cls
  let d := if severe then d.set (Reg.FSRC.STATUS f) (setBit (d.get (Reg.FSRC.STATUS f)) ssSEVERE) else d
  let d := if newly then d.rise Reg.DAMP.LEAVES 4 uDAMPER else d
  let d := if r.forced then d.markForced f else d
  let d := if ALARM ≤ cls then d.summary uDAMPER else d
  let d := d.react cls arms
  let rec_ : LogRec := { tt := d.tt, src := f, cls := cls, state := state, arm := r.arm, inWindow := w.2.2.1, aux := r.aux
                         flags := b2n severe + 2 * b2n r.forced + 8 * b2n (srcFixed f) }
  let due := d.logDue cls newly r.forced
  let d := d.setEvent f { at_ := r.at_, named := named, record := rec_, place := if due then d.logPlace else .notDue }
  let d := if due then d.logWrite rec_ else d
  let d := if d.get Reg.TRIG.DAMPER_CLASS ≤ cls then d.condition 3 d.tt else d
  (d.event f).maintEvent f r.arm

/-- The record of an event that further raises of its instant have changed. -/
def Dev.logAgain (d : Dev) (f : Nat) (e : EventX) (due : Bool) : Dev :=
  match e.place with
  | .at i => (d.setEvent f e).memWrite (Mem.log + 32 * i) e.record.bytes
  | .notDue =>
    if due then (d.setEvent f { e with place := d.logPlace }).logWrite e.record else d.setEvent f e
  | .suppressed => d.setEvent f e

/-- An event raised in KINDLING: no classification applies, and each is logged (spec R369). -/
def Dev.kindlingEvent (d : Dev) (r : Raised) (cls : Nat) : Dev :=
  let d := (d.counted r.src).classed r.src cls
  let d := if ALARM ≤ cls then d.summary uDAMPER else d
  let rec_ : LogRec := { tt := d.tt, src := r.src, cls := cls, flags := 4 + 8 * b2n (srcFixed r.src), state := dsKINDLING
                         arm := r.arm, inWindow := d.get (Reg.FSRC.IN_WINDOW r.src), aux := r.aux }
  ((d.setEvent r.src { at_ := r.at_, named := 0, record := rec_, place := d.logPlace }).logWrite rec_).event r.src

/-- A further raise of a KINDLING event's instant: the higher reaction is the event's (spec R358, R369). -/
def Dev.joinKindling (d : Dev) (e : EventX) (r : Raised) (cls : Nat) : Dev :=
  let c := max e.record.cls cls
  let d := d.classed r.src c
  let d := if ALARM ≤ c then d.summary uDAMPER else d
  d.logAgain r.src { e with record := { e.record with cls := c, arm := if e.record.arm < 6 then e.record.arm else r.arm } } true

/-- F223 is never classified: a FORCE of it is counted, marked and logged, and nothing else (spec R418, log 102). -/
def Dev.unclassified (d : Dev) (r : Raised) : Dev :=
  let d := (d.counted r.src).markForced r.src
  let rec_ : LogRec := { tt := d.tt, src := r.src, cls := 0, flags := 2, state := d.ds, arm := r.arm
                         inWindow := d.get (Reg.FSRC.IN_WINDOW r.src), aux := r.aux }
  ((d.setEvent r.src { at_ := r.at_, named := 0, record := rec_, place := d.logPlace }).logWrite rec_).event r.src

/-- A raise that reaches the damper at the instant of the source's last event belongs to that event (spec R358, R368): arms named
only now are reacted to in addition, and a FORCE marks the event. -/
def Dev.joinEvent (d : Dev) (e : EventX) (r : Raised) (named : Nat) : Dev :=
  let f := r.src
  let arms := d.armSetOf f (e.named ||| named)
  let fresh := arms.filter (fun a => !(d.armSetOf f e.named).contains a)
  let acted := d.acted (d.wanted f (d.bit (Reg.FSRC.STATUS f) ssSEVERE)) arms
  let cls := if fresh.isEmpty then e.record.cls else max e.record.cls acted
  let d := d.classed f cls
  let d := if r.forced then d.markForced f else d
  let d := if ALARM ≤ cls then d.summary uDAMPER else d
  let d := if fresh.isEmpty then d else d.react acted fresh
  let rec_ := { e.record with
    cls := cls
    arm := if e.record.arm < 6 then e.record.arm else r.arm
    flags := putBit e.record.flags 1 (e.record.flags.testBit 1 || r.forced) }
  let d := d.logAgain f { e with named := e.named ||| named, record := rec_ } (d.logDue cls false r.forced)
  let d := if e.record.cls < d.get Reg.TRIG.DAMPER_CLASS && decide (d.get Reg.TRIG.DAMPER_CLASS ≤ cls) then d.condition 3 d.tt else d
  d.maintEvent f r.arm

/-- An event raised at the instant of an earlier CLEAR of its source: what the CLEAR ended stands again (spec R368, log 97). -/
def Dev.unclear (d : Dev) (f at_ : Nat) : Dev :=
  match Tab.find d.damper.clears f with
  | some c =>
    if c.at_ == at_ then
      let x := d.damper
      let x : DamperX := { x with
        clears := x.clears.drop f
        winEnd := match c.winEnd with
          | some t => x.winEnd.put f t
          | none => x.winEnd }
      let d : Dev := { d with damper := x }
      d.sets [(Reg.FSRC.STATUS f, c.status), (Reg.FSRC.CLASS f, c.cls), (Reg.FSRC.IN_WINDOW f, c.inWindow)]
    else d
  | none => d

/-- The last event of a source that is not cleared, if it was raised at an instant. -/
def Dev.eventAt (d : Dev) (f at_ : Nat) : Option EventX :=
  if d.bit (Reg.FSRC.STATUS f) ssPENDING then (Tab.find d.damper.events f).filter (fun e => e.at_ == at_) else none

/-- DAMPER_EVENT: the oldest raise that waits, together with every raise of its source at the same instant (spec R358). -/
def Dev.damperEvent (d : Dev) : Dev :=
  match d.damper.raised with
  | [] => d
  | r :: rs =>
    let same (q : Raised) : Bool := q.src == r.src && q.at_ == r.at_
    let all := r :: rs.filter same
    let d : Dev := { d with damper := { d.damper with raised := rs.filter (fun q => !same q) } }
    let named := all.foldl (fun v q => if q.arm < 6 then setBit v q.arm else v) 0
    let r : Raised := { r with forced := all.any Raised.forced }
    let d := d.unclear r.src r.at_
    let cls := all.foldl (fun c q => max c (q.kindling.getD 0)) 0
    let d :=
      if r.src == 223 then (if d.damper.events.any (fun e => e.1 == 223 && e.2.at_ == r.at_) then d else d.unclassified r)
      else match r.kindling, d.eventAt r.src r.at_ with
        | some _, some e => d.joinKindling e r cls
        | some _, none => d.kindlingEvent r cls
        | none, some e => d.joinEvent e r named
        | none, none => d.sourceEvent r named
    d.damperLeaves.readyCheck

/-- DAMPER_WINDOW_END (spec R361). -/
def Dev.damperWindowEnd (d : Dev) (f : Nat) : Dev :=
  match Tab.find d.damper.winEnd f with
  | some t =>
    if t ≤ d.now then
      let d : Dev := { d with damper := { d.damper with winEnd := d.damper.winEnd.drop f } }
      if d.get (Reg.FSRC.IN_WINDOW f) < d.get (Reg.FSRC.COUNT_N f) then d.set (Reg.FSRC.IN_WINDOW f) 0 else d
    else d
  | none => d

/-! FORCE and CLEAR (spec R360, R367, R368). -/

/-- FORCE. -/
def Dev.faultForce (d : Dev) (f : Nat) : Dev :=
  if d.on Reg.DAMP.FORCE_EN then
    (d.push { src := f, at_ := d.now, arm := 0xFF, aux := 0, forced := true }).ret stOK
  else d.ret stSTATE

/-- An event of the source arrives at this instant: one waits that was raised now, or one was recognized now. -/
def Dev.srcNow (d : Dev) (f : Nat) : Bool :=
  d.damper.raised.any (fun r => r.src == f && r.at_ == d.now) || (d.eventAt f d.now).isSome ||
    (d.bit (Reg.FSRC.STATUS f) ssPENDING && d.get (Reg.FSRC.LAST_TT f) == d.tt)

/-- CLEAR of one source. -/
def Dev.faultClear (d : Dev) (f : Nat) : Dev :=
  if d.srcLive f then d.ret stSTATE
  else if d.srcNow f then d.ret stSUPERSEDED
  else ((d.srcClear f).damperLeaves.readyCheck).ret stOK

/-- CLEAR_ALL. -/
def Dev.faultClearAll (d : Dev) : Dev :=
  let d := d.touchedSources.foldl (fun d f => if d.srcLive f || d.srcNow f then d else d.srcClear f) d
  (d.damperLeaves.readyCheck).ret stOK

/-! Reads (spec R374, R375). -/

/-- STATUS with LIVE and FIXED. -/
def Dev.srcStatus (d : Dev) (f : Nat) : Nat :=
  putBit (putBit (d.get (Reg.FSRC.STATUS f)) 2 (d.srcLive f)) 4 (srcFixed f)

/-- TOP_CLASS. -/
def Dev.topClass (d : Dev) : Nat :=
  d.pendingSources.foldl (fun c f => let k := d.get (Reg.FSRC.CLASS f); if c == 0xFF then k else max c k) 0xFF

/-- PENDING_j. -/
def Dev.pendingWord (d : Dev) (j : Nat) : Nat :=
  d.pendingSources.foldl (fun v f => if f / 64 == j then setBit v (f % 64) else v) 0

/-! Stalls (spec R15, R370, R372, R391). -/

/-- The source of a path. -/
def pathSource (p : CorePath) : Nat :=
  match p with
  | .arm a => a
  | .lane k => 6 + k
  | .kilnCore _ => 13
  | .scheduler => 14
  | .fabric => 15
  | .link _ => 16
  | .acquisition => 17
  | .damper => 18

/-- A damper stall: the SOSC domain acts for it (spec R372). -/
def Dev.damperStall (d : Dev) : Dev :=
  let d : Dev := { d with kindle := { d.kindle with sosc := true } }
  let d := (List.range 24).foldl (fun d p => if (d.port p).live then d.blockPort p else d) d
  d.enterSafe.damperLeaves

/-- The SOSC domain finds that the core renews its request no more: ACT_OUT stops, FAILED with reason FAILURE (spec R391,
R397). -/
def Dev.actStop (d : Dev) (f : Nat) : Dev :=
  if Config.renewPath f then
    let t := d.twin
    let d : Dev := { d with twin := { t with stalled := true, failed := some (t.failed.getD 0) } }
    let d := d.twinSync
    d.gate d.interlock
  else d

/-- The source of a stalled path is raised; the damper's own, in KINDLING, with the reaction that R372 takes (spec R369). -/
def Dev.raiseStall (d : Dev) (p : CorePath) : Dev :=
  match p with
  | .arm a => d.raiseArm a a 0
  | .lane k => d.raiseArm (6 + k) ((d.laneArm k).getD 0xFF) 0
  | .link p => d.raisePort 16 p
  | .damper => if d.ds == dsKINDLING then d.raiseSafe 18 else d.raise 18 0
  | p => d.raise (pathSource p) 0

/-- CORE_STALL: the core runs from KINDLING on, and not in BANKED. -/
def Dev.coreStall (d : Dev) (p : CorePath) : Dev :=
  if d.dsIn [dsRESET, dsBANKED] then d
  else
    let d := match p with
      | .kilnCore c => (d.kilnStall c).set Reg.KILN.MISMATCH_CORES (c * 256 + 0xFF)
      | _ => d
    let d := d.raiseStall p
    let d := if pathSource p == 18 then d.damperStall else d
    d.maintSpares.actStop (pathSource p)

/-- The SOSC domain writes F223 and takes the device to SAFE (spec R407, R418). -/
def Dev.wakeFailed (d : Dev) : Dev :=
  let d := d.logWrite { tt := d.tt, src := 223, cls := SAFE_REACTION, flags := 0, state := d.ds, arm := 0xFF, inWindow := 0, aux := 0 }
  d.enterSafe.damperLeaves

end Sys2Proof.Machine
end

