-- ==== Sys2Proof/Machine/Twin.lean ====
section
/-!
DEFINITION. Twin operation: heartbeats, paths, fitness, the lease, embers, takeover and planned swap (spec R390–R418).
-/
namespace Sys2Proof.Machine

/-- The twin link and HB_OUT run (spec R78, R396). -/
def Dev.hbRuns (d : Dev) : Bool := d.twinEn && !d.dsIn [dsRESET, dsKINDLING]

/-- The time between edges of HB_OUT in 100 ps; none where it is static low (spec R78, R398). -/
def Dev.hbOut (d : Dev) : Option Nat := if !d.hbRuns then none else some (if d.twin.failed.isSome then 1000 else 4000)

/-- The time between edges of ACT_OUT in 100 ps; none where it is static low (spec R391). -/
def Dev.actOut (d : Dev) : Option Nat := if d.active then some 2000 else none

/-- This device judges its partner (spec R399). -/
def Dev.judges (d : Dev) : Bool := d.twinEn && (d.ds == dsBANKED || d.active)

/-- The last good HEARTBEAT shows FAILED. -/
def Dev.linkFailed (d : Dev) : Bool :=
  match d.twin.hb with
  | some (h, _, _) => h.failed.isSome
  | none => false

def Dev.linkBad (d : Dev) : Bool := d.twin.linkLost || d.linkFailed
def Dev.hbBad (d : Dev) : Bool := d.twin.hbLost || d.twin.hbFailed

/-- DELTA_TT. -/
def Dev.deltaTt (d : Dev) : Int := d.getI Reg.TWIN.DELTA_TT 64

/-- A TT of the partner in own TT. -/
def Dev.ownTt (d : Dev) (tt : Nat) : Nat := ofSigned 64 ((tt : Int) - d.deltaTt)

/-! Fitness (spec R405). -/

/-- Age of the newest complete slot in 100 ps, from B(e). -/
def Dev.emberAge (d : Dev) (x : RetainX) : Int := diffW 64 d.tt (d.ownTt x.be)

/-- UNFIT_REASON of a BANKED device: 0 fit. -/
def Dev.fitReason (d : Dev) : Nat :=
  match d.twin.newest with
  | none => 1
  | some s =>
    let x := d.twin.slots.get s {}
    let gen := match d.twin.hb with
      | some (h, _, _) => h.generation.toNat == d.get Reg.KINDLE.GENERATION
      | none => false
    if ((2 * d.get Reg.TWIN.EMBER_PERIOD + 1) * 10000000 : Int) < d.emberAge x then 2
    else if !gen then 3
    else if d.twin.retError then 4
    else if x.partial_ then 5
    else 0

/-- FIT. -/
def Dev.fit (d : Dev) : Bool := d.ds == dsBANKED && d.fitReason == 0

/-- What makes the partner unfit for an ACTIVE device: 0 nothing. -/
def Dev.unfitReason (d : Dev) : Nat :=
  if d.linkBad || d.hbBad then 6
  else match d.twin.hb with
  | none => 0
  | some (h, _, _) =>
    if h.fit then 0
    else if d.twin.stReason != 0 then d.twin.stReason
    else if h.generation.toNat != d.get Reg.KINDLE.GENERATION then 3
    else 0

/-- The partner is unfit for an ACTIVE device (spec R399, R405). -/
def Dev.unfit (d : Dev) : Bool :=
  d.twinEn && d.active && (d.linkBad || d.hbBad || (match d.twin.hb with
    | some (h, _, _) => !h.fit
    | none => false))

/-- UNFIT_REASON, PARTNER_UNFIT and GEN_MISMATCH follow. -/
def Dev.unfitSync (d : Dev) : Dev :=
  let r := if d.active then d.unfitReason else d.twin.stReason
  let d := d.set Reg.PARTNER.UNFIT_REASON r
  let d := d.leafRaise Reg.TWIN.LEAVES 6 uTWIN d.unfit 212 0xFF 0
  d.leafRaise Reg.TWIN.LEAVES 7 uTWIN (d.unfit && r == 3) 213 0xFF 0

/-! Paths (spec R399, R416). -/

/-- PATHS. -/
def Dev.pathBits (d : Dev) : Nat :=
  b2n (d.twin.hb.isSome && !d.linkBad) + 2 * b2n (d.twin.hbAt.isSome && !d.hbBad) + 4 * b2n d.twin.actIn +
    8 * b2n d.linkFailed + 16 * b2n d.twin.hbFailed

/-- PATHS and the leaves of bad paths. While a takeover begins nothing is judged and the leaves stand. -/
def Dev.pathsSync (d : Dev) : Dev :=
  let d := d.set Reg.TWIN.PATHS d.pathBits
  let on (k : Nat) (bad : Bool) : Bool := d.twinEn && bad && (d.judges || (d.ds == dsTAKEOVER && d.bit Reg.TWIN.LEAVES k))
  (d.leafRaise Reg.TWIN.LEAVES 1 uTWIN (on 1 d.linkBad) 208 0xFF 0).leafRaise Reg.TWIN.LEAVES 2 uTWIN (on 2 d.hbBad) 209 0xFF 0

/-! Takeover: declaration and interlock release (spec R399, R406). -/

/-- The device is ACTIVE: ACT_OUT toggles (step 2 of R406). -/
def Dev.interlockRelease (d : Dev) : Dev :=
  if d.ds == dsTAKEOVER && !d.twin.released && !d.twin.actIn then
    let d := Dev.twinSync { d with twin := { d.twin with released := true } }
    (d.gate d.interlock).pathsSync.unfitSync
  else d

/-- The arm bits of the partner's last good HEARTBEAT, if it came within T_HB (spec R410). -/
def Dev.recentBits (d : Dev) : Option Nat :=
  match d.twin.hb with
  | some (h, at_, _) => if d.now ≤ at_ + d.get Reg.TWIN.T_HB * 10000 then some h.armBits.toNat else none
  | none => none

/-- CAUSE of a declaration. -/
def Dev.failureCause (d : Dev) : Nat :=
  let swap := match d.twin.hb, d.twin.newest with
    | some (h, _, _), some s => h.failed == some 1 && (d.twin.slots.get s {}).swap
    | _, _ => false
  if swap then 3 else if d.twin.linkLost && d.twin.hbLost then 1 else 2

/-- The device declares partner failure and enters TAKEOVER. -/
def Dev.declareFailure (d : Dev) : Dev :=
  let c := d.failureCause
  let d := d.sets [(Reg.TKO.CAUSE, c), (Reg.TKO.RESULT, 0), (Reg.TKO.SOURCE, 0xFF), (Reg.TKO.DETECT_TT, d.tt), (Reg.TKO.RESUME_TT, 0),
    (Reg.TKO.EMBER_AGE, 0), (Reg.TKO.DURATION, 0), (Reg.TKO.CLOSED_TT, 0), (Reg.TKO.UNCONFIRMED, 0)]
  let take : TakeX := { declTt := d.tt, bits := d.recentBits, swap := c == 3 }
  let d : Dev := { d with twin := { d.twin with released := false, failed := none, frozen := none, take := take } }
  (d.changeState dsTAKEOVER).interlockRelease

/-- Both paths bad make a BANKED device declare; else the leaves follow. -/
def Dev.judgePartner (d : Dev) : Dev :=
  if d.twinEn && d.ds == dsBANKED && d.linkBad && d.hbBad then (d.set Reg.TWIN.PATHS d.pathBits).declareFailure
  else d.pathsSync.unfitSync

/-- TWIN_PATH_LOST: nothing for T_HB on a path. -/
def Dev.pathLost (d : Dev) (fibre : Bool) : Dev :=
  let last := max d.twin.judgeFrom (if fibre then (d.twin.hb.map (fun h => h.2.1)).getD 0 else d.twin.hbAt.getD 0)
  if d.judges && last + d.get Reg.TWIN.T_HB * 10000 ≤ d.now then
    let t := d.twin
    let d : Dev := { d with twin := if fibre then { t with linkLost := true } else { t with hbLost := true } }
    d.judgePartner
  else d

/-- HB_IN_EDGE (spec R398). -/
def Dev.hbEdge (d : Dev) : Dev :=
  if !d.hbRuns then d
  else
    let t := d.twin
    let short := match t.hbAt with
      | some a => decide (d.now < a + 1500)
      | none => false
    let n := if short then t.hbShort + 1 else 0
    let t : TwinX := { t with hbAt := some d.now, hbLost := false, hbShort := min n 4, hbFailed := decide (4 ≤ n) }
    Dev.judgePartner { d with twin := t }

/-! ACT_IN (spec R100, R392, R393, R406). -/

/-- ACT_IN_TOGGLE. -/
def Dev.actInOn (d : Dev) : Dev :=
  let d : Dev := { d with twin := { d.twin with actIn := true, actSeen := true } }
  let d := (d.set Reg.TWIN.PATHS d.pathBits).dualLeaf
  let d := d.gate d.interlock
  d.twinYield

/-- ACT_IN_QUIET. -/
def Dev.actInOff (d : Dev) : Dev :=
  let d : Dev := { d with twin := { d.twin with actIn := false } }
  let d := (d.set Reg.TWIN.PATHS d.pathBits).dualLeaf
  (d.gate d.interlock).interlockRelease

/-! Heartbeats (spec R396, R397, R400, R401). -/

/-- The HEARTBEAT that leaves now. -/
def Dev.heartbeat (d : Dev) : Heartbeat :=
  { devState := BitVec.ofNat 8 d.ds, twinId := if d.twinId == 1 then 1 else 0, fit := d.fit
    generation := BitVec.ofNat 32 (d.get Reg.KINDLE.GENERATION), armBits := BitVec.ofNat 6 d.armBits
    lease := if d.get Reg.TWIN.LEASE == 1 then 1 else if d.active then 0 else 2
    failed := d.twin.failed.map (fun r => if r == 0 then 0 else if r == 1 then 1 else if r == 2 then 2 else 3)
    launch := BitVec.ofNat 64 d.tt
    echoLaunch := match d.twin.hb with
      | some (h, _, _) => h.launch
      | none => 0
    echoArrival := match d.twin.hb with
      | some (_, _, tt) => BitVec.ofNat 64 tt
      | none => 0 }

/-- Bytes of part `off` of an ember: its last 4 bytes are the CRC-32 of all before (spec R403). -/
def emberPart (e : Config.Ember) (off : Nat) : List Byte :=
  if off < 511 then (List.range 384).map (fun i => Config.emberByte e (384 * off + i))
  else
    let all := (List.range 196604).map (Config.emberByte e)
    all.drop 196224 ++ leBytes 4 (crc32 all)

/-- The STATUS frame of a BANKED device. -/
def Dev.statusFrame (d : Dev) : TwinStatus :=
  { devState := BitVec.ofNat 8 d.ds, fit := d.fit, reason := BitVec.ofNat 8 d.fitReason
    generation := BitVec.ofNat 32 (d.get Reg.KINDLE.GENERATION), serial := BitVec.ofNat 32 (d.get Reg.IDENT.SERIAL)
    twinId := if d.twinId == 1 then 1 else 0
    emberAge := match d.twin.newest with
      | some s => BitVec.ofInt 32 (d.emberAge (d.twin.slots.get s {}) / 10000)
      | none => 0
    proofAge := BitVec.ofNat 32 d.proofAge, wearNow := d.getF Reg.MAINT.WEAR_NOW }

/-- An interval of the twin link opens: the last one opened at least 1,000 ns ago (spec R396). -/
def Dev.hbDue (d : Dev) : Bool :=
  d.hbRuns && (match d.twin.sentAt with
    | some t => decide (t + 10000 ≤ d.now)
    | none => true)

/-- HEARTBEAT_SEND: the HEARTBEAT that opens an interval, then at most one EMBER or STATUS frame. -/
def Dev.hbSend (d : Dev) : Dev :=
  if !d.hbDue then d
  else
    let d := Dev.send { d with twin := { d.twin with sentAt := some d.now } } (.heartbeat d.heartbeat)
    match d.twin.stream with
    | some e =>
      let off := d.twin.streamOff
      if d.active && off < 512 then
        Dev.send { d with twin := { d.twin with streamOff := off + 1 } } (.twinEmber d.twin.slot off e.e (emberPart e off))
      else d
    | none =>
      if d.ds == dsBANKED && d.twin.statusAt + 1000000 ≤ d.now then
        Dev.send { d with twin := { d.twin with statusAt := d.now } } (.twinStatus d.statusFrame)
      else d

/-- The two-way method of IEEE 1588-2019 on a HEARTBEAT: DELTA_TT, the delay, and LINK_TIMING (spec R397). -/
def Dev.twoWay (d : Dev) (h : Heartbeat) : Dev :=
  if h.echoLaunch == 0 && h.echoArrival == 0 then d
  else
    let own : Int := d.tt
    let out : Int := diffW 64 h.echoArrival.toNat h.echoLaunch.toNat
    let back : Int := diffW 64 own h.launch.toNat
    let delta : Int := (out - back) / 2
    let delay : Int := (out + back) / 2
    let t := d.twin
    let jump := match t.deltas with
      | (d1, t1) :: (d2, t2) :: _ =>
        let dt : Int := diffW 64 t1 t2
        let expect : Int := if dt == 0 then d1 else d1 + (d1 - d2) * diffW 64 own t1 / dt
        decide (50 < (delta - expect).natAbs)
      | _ => false
    let late := match t.delay with
      | some l => decide (50 < (delay - l).natAbs)
      | none => false
    let t : TwinX := { t with deltas := (delta, d.tt) :: t.deltas.take 1, delay := some delay }
    let d : Dev := { d with twin := t }
    let d := (d.setI Reg.TWIN.DELTA_TT 64 delta).set Reg.TWIN.LINK_DELAY (ofSigned 32 delay)
    if jump || late then (d.rise Reg.TWIN.LEAVES 0 uTWIN).raise 218 0 else d

/-- What a partner's lease word does (spec R400, R401). -/
def Dev.leaseHeard (d : Dev) (h : Heartbeat) : Dev :=
  let d : Dev := if h.lease.val == 1 then { d with twin := { d.twin with holdAt := some d.now } } else d
  if h.lease.val == 1 && d.get Reg.TWIN.LEASE == 1 then
    let d := (d.rise Reg.TWIN.LEAVES 9 uTWIN).raise 215 0
    if d.twinId == 1 then d.leaseDrop.set Reg.TWIN.LEASE 2 else d
  else d.leaseTry

/-- HEARTBEAT_RECEIVE. A partner that runs ends the FAILED of a swap (log 62). -/
def Dev.hbReceive (d : Dev) (h : Heartbeat) (crcOk : Bool) : Dev :=
  if !d.hbRuns then d
  else if !crcOk then d.count Reg.TWIN.LINK_ERRORS 32 1
  else
    let handed := d.twin.failed == some 1 && h.devState.toNat == dsRUNNING
    let t := d.twin
    let t : TwinX := { t with hb := some (h, d.now, d.tt), linkLost := false
                              failed := if handed then none else t.failed, frozen := if handed then none else t.frozen }
    let d : Dev := { d with twin := t }
    let d := d.sets [(Reg.PARTNER.STATE, h.devState.toNat), (Reg.PARTNER.FIT, b2n h.fit),
      (Reg.PARTNER.GENERATION, h.generation.toNat), (Reg.PARTNER.TWIN_ID, h.twinId.val)]
    ((d.twoWay h).leaseHeard h).judgePartner

/-- STATUS_FRAME_RECEIVE. -/
def Dev.statusReceive (d : Dev) (s : TwinStatus) (crcOk : Bool) : Dev :=
  if !d.hbRuns then d
  else if !crcOk then d.count Reg.TWIN.LINK_ERRORS 32 1
  else
    let d : Dev := { d with twin := { d.twin with stReason := s.reason.toNat } }
    let d := d.sets [(Reg.PARTNER.STATE, s.devState.toNat), (Reg.PARTNER.FIT, b2n s.fit), (Reg.PARTNER.GENERATION, s.generation.toNat),
      (Reg.PARTNER.SERIAL, s.serial.toNat), (Reg.PARTNER.TWIN_ID, s.twinId.val), (Reg.PARTNER.EMBER_AGE, s.emberAge.toNat),
      (Reg.PARTNER.PROOF_AGE, s.proofAge.toNat), (Reg.PARTNER.WEAR_NOW, s.wearNow.toNat)]
    d.unfitSync

/-! Configuration entries (spec R404). -/

/-- Sub-entries that the ember carries elsewhere, and those never recorded. -/
def notRecorded (k : Nat) : Bool :=
  let i := k / 256
  k == Reg.TB.RATE || k == Reg.TB.OFFSET || k == Reg.TB.EPOCH_SEC || i == 0x2210 || i == 0x200A ||
    (i == 0x2211 && decide (0x0D ≤ k % 256))

/-- Configuration that the ember does not carry. -/
def Dev.cfgLost (d : Dev) : Dev := d.leafRaise Reg.TWIN.LEAVES 8 uTWIN true 214 0xFF 0

/-- A software write that returned OK is recorded. -/
def Dev.cfgRecord (d : Dev) (k : Nat) (size : Nat) : Dev :=
  if notRecorded k || d.ds == dsKINDLING || d.twin.cfg.any (fun e => e.1 == k) then d
  else if d.twin.cfg.length < 1536 then { d with twin := { d.twin with cfg := d.twin.cfg ++ [(k, size)] } }
  else d.cfgLost

/-- A sub-entry that a configuration entry may name. -/
def isConfig (k : Nat) : Bool :=
  match entryAt (k / 256) (k % 256) with
  | some e => (e.acc == .rw || e.acc == .lk) && e.ty != .dom && decide (e.size ≤ 8) && !notRecorded k
  | none => false

/-! The ember (spec R403–R405). -/

/-- The slots of an ember's cell table. -/
def Dev.emberCells (d : Dev) : List Config.EmberCell :=
  (d.knownSlots.filter (fun s => d.cellState s != csABSENT)).map (fun s =>
    { slot := s, state := d.cellState s, cmd := d.cmdState s, seq := d.get (Reg.CELL.SEQ s), excluded := d.flag s flEXCLUDED
      eqd := d.get (Reg.CELL.EQD s), dl := d.get (Reg.CELL.DL_DELAY s), eqAdj := d.get (Reg.CELL.EQ_ADJ s)
      swCount := d.get (Reg.CELL.SW_COUNT s), stateTt := d.get (Reg.CELL.STATE_TT s) })

def Dev.emberNodes (d : Dev) : List Config.EmberNode :=
  d.kiln.nodes.map (fun e =>
    { node := e.1, s := (List.range 4).map (fun i => d.get (Reg.NODE.S e.1 i)), out0 := d.get (Reg.NODE.OUT0 e.1)
      out1 := d.get (Reg.NODE.OUT1 e.1), status := d.get (Reg.NODE.STATUS e.1), gateTo := e.2.gateTo, reinit := e.2.reinit })

/-- The ember of the present boundary (spec R403, R404, R414). -/
def Dev.ember (d : Dev) : Config.Ember :=
  { e := d.frame.n, be := d.frame.bn, serial := d.get Reg.IDENT.SERIAL, generation := d.get Reg.KINDLE.GENERATION, devState := d.ds
    arms := (List.range 6).map (fun a => (d.armState a, (d.arm a).cur.rNew.toNat))
    sinks := (List.range 112).map (fun s => ((d.sink s).1.toNat, (d.sink s).2))
    rgs := (List.range 4).map (fun k => ((d.rgx k).mult, (d.rgx k).phase))
    laneMap := d.get Reg.SPARE.LANE_MAP, failedLanes := d.get Reg.SPARE.FAILED_LANES
    profiles := (List.range 6).map (fun a => d.get (Reg.MODE.PROFILE_ARM a))
    modeArms := if [1, 2, 3].contains (d.get Reg.MODE.STATE) then d.link.mode.arms else 0
    servoState := d.get Reg.SERVO.STATE, integ := d.time.integ
    rate := d.get Reg.TB.RATE, offset := d.get Reg.TB.OFFSET, epoch := d.epoch
    cells := d.emberCells, nodes := d.emberNodes, config := d.twin.cfg.map (fun c => (c.1, c.2, d.get c.1))
    incomplete := d.bit Reg.TWIN.LEAVES 8, swap := d.twin.swap == 1 }

/-- The ACTIVE device captures an ember at a boundary: the first at or after each multiple of EMBER_PERIOD, and the next one
after a SWAP, whose ember no other takes the place of while it streams (spec R403, R414). -/
def Dev.emberFrame (d : Dev) : Dev :=
  let period := max 1 (d.get Reg.TWIN.EMBER_PERIOD * 10000000)
  let due := d.twin.lastB / period != d.frame.bn / period
  let d : Dev := if d.active then { d with twin := { d.twin with lastB := d.frame.bn } }
    else if d.twin.swap == 1 then { d with twin := { d.twin with swap := 0 } } else d
  if d.twinEn && d.active && (due || d.twin.swap == 1) && d.twin.swap != 2 then
    { d with twin := { d.twin with stream := some d.ember, streamOff := 0, swap := if d.twin.swap == 1 then 2 else d.twin.swap } }
  else d

/-- EMBER_STREAM_DONE: the last part has left. With a swap's ember the device hands over (spec R414). -/
def Dev.streamDone (d : Dev) : Dev :=
  match d.twin.stream with
  | some e =>
    if d.twin.streamOff < 512 then d
    else
      let d := (d.count Reg.EMBER.SENT 32 1).sets [(Reg.EMBER.LAST_FRAME, e.e % 2 ^ 32), (Reg.EMBER.LAST_TT, e.be),
        (Reg.EMBER.SLOT, d.twin.slot)]
      let t := d.twin
      let d : Dev := { d with twin := { t with stream := none, streamOff := 0, slot := 1 - t.slot } }
      if e.swap && t.swap == 2 then
        let a := d.active
        let d : Dev := { d with twin := { d.twin with swap := 0, failed := if a then some 1 else t.failed
                                                      frozen := if a then some d.armBits else t.frozen } }
        if a then d.enterBanked else d
      else d
  | none => d

/-- DEV_CMD SWAP (spec R99, R414). -/
def Dev.swapCmd (d : Dev) : Dev :=
  if d.ds == dsRUNNING && d.twinEn && d.partnerReady then
    Dev.ret (if d.twin.swap == 0 then { d with twin := { d.twin with swap := 1 } } else d) stOK
  else d.ret stSTATE

/-- The 196,608 bytes of an ember in a slot, and whether their CRC-32 checks. -/
def Dev.emberAt (d : Dev) (m : Memory) (a : Nat) : Option Config.Ember :=
  let bs := d.memBytes m a 196608
  if ofLe (bs.drop 196604) == crc32 (bs.take 196604) then some (Config.emberOf bs) else none

/-- A slot is written to: the newest complete one is then the other, where that one is complete (spec R405). -/
def Dev.slotReused (d : Dev) (slot : Nat) : Dev :=
  if d.twin.newest == some slot then
    let other := if (d.twin.slots.get (1 - slot) {}).complete then some (1 - slot) else none
    Dev.set { d with twin := { d.twin with newest := other } } Reg.EMBER.SLOT (other.getD 0xFF)
  else d

/-- EMBER_FRAME_RECEIVE (spec R405). -/
def Dev.emberReceive (d : Dev) (m : Memory) (slot off e : Nat) (bytes : List Byte) (crcOk : Bool) : Dev :=
  if !d.hbRuns then d
  else if !crcOk then d.count Reg.TWIN.LINK_ERRORS 32 1
  else
    let d := d.memWrite (Mem.ember slot + 384 * off) bytes
    let x := d.twin.slots.get slot {}
    let x : RetainX := if x.e != e || x.complete then { e := e } else x
    let x : RetainX := { x with got := setBit x.got off }
    let d := d.slotReused slot
    if x.got != 2 ^ 512 - 1 then { d with twin := { d.twin with slots := d.twin.slots.put slot x } }
    else
      match d.emberAt m (Mem.ember slot) with
      | none => { d with twin := { d.twin with slots := d.twin.slots.put slot x } }
      | some em =>
        let x : RetainX := { x with complete := true, be := em.be, partial_ := em.incomplete, swap := em.swap }
        Dev.judgePartner (Dev.set { d with twin := { d.twin with slots := d.twin.slots.put slot x, newest := some slot } } Reg.EMBER.SLOT slot)

/-- SLOW_COPY: every SLOW_PERIOD in BANKED. -/
def Dev.slowCopy (d : Dev) (m : Memory) : Dev :=
  match d.twin.newest with
  | some s =>
    if d.ds == dsBANKED && (d.twin.slowAt.getD d.twin.judgeFrom) + d.get Reg.TWIN.SLOW_PERIOD * 10000000000 ≤ d.now then
      let d := d.memWrite Mem.slow (d.memBytes m (Mem.ember s) 196608)
      let d : Dev := { d with twin := { d.twin with slowAt := some d.now } }
      (d.set Reg.EMBER.SLOW_TT d.tt).count Reg.EMBER.SLOW_WRITES 32 1
    else d
  | none => d

/-! Takeover: wake, load, resume (spec R406–R411). -/

/-- CORE_WAKE_DONE. Station inputs start from their present levels (spec R103). -/
def Dev.coreWake (d : Dev) (ok : Bool) : Dev :=
  if d.ds == dsTAKEOVER && d.twin.released && !d.twin.take.awake then
    if ok then
      let d : Dev := { d with twin := { d.twin with take := { d.twin.take with awake := true } } }
      (d.set Reg.STN.IN_LEVEL 0).stnRestart (d.set Reg.STN.IN_LEVEL 0) (List.range 8)
    else d.wakeFailed
  else d

/-- The ember of R407 with its SOURCE. The slow copy lies in MRAM, which a reset leaves as it is. -/
def Dev.chooseEmber (d : Dev) (m : Memory) : Option (Nat × Config.Ember) :=
  let slot (s : Nat) : Option (Nat × Config.Ember) :=
    if (d.twin.slots.get s {}).complete then (d.emberAt m (Mem.ember s)).map (fun e => (s, e)) else none
  let first := d.twin.newest.getD 0
  match slot first with
  | some e => some e
  | none =>
    match slot (1 - first) with
    | some e => some e
    | none =>
      match d.emberAt m Mem.slow with
      | some e => if diffW 64 d.tt (d.ownTt e.be) ≤ (d.get Reg.TWIN.SLOW_MAX_AGE * 10000000000 : Int) then some (2, e) else none
      | none => none

/-- Configuration entries, in order, under the locks in force; the next embers carry them on (log 63). -/
def Dev.loadConfig (d : Dev) (es : List (Nat × Nat × Nat)) : Dev :=
  let r := (es.filter (fun e => isConfig e.1)).foldl (fun (r : Dev × List Nat) e =>
    let v := if e.1 == Reg.LOCK.LOCK then e.2.2 ||| r.1.get Reg.LOCK.LOCK else e.2.2
    if r.1.locked e.1 then (r.1.lockViol e.1, r.2) else ((r.1.set e.1 v).cfgRecord e.1 e.2.1, e.1 :: r.2)) (d, [])
  r.1.applied d r.2 (applyIndex d.tt) d.tt

/-- RTT of a loaded cell, from the E that its ranging gave it: RDELAY less E without the adjustments since (spec R146, log 87). -/
def Dev.loadedRtt (d : Dev) (c : Config.EmberCell) : Nat :=
  ofSigned 32 ((10 * (d.get (Reg.PORT.EQ_TARGET (portOf c.slot)) - 1000) : Nat) - 2 * ((c.eqd : Int) - toSigned 16 c.eqAdj))

/-- The cell table. -/
def Dev.loadCells (d : Dev) (es : List Config.EmberCell) : Dev :=
  es.foldl (fun d c =>
    let s := c.slot
    if c.state == csADMITTED then
      { d with twin := { d.twin with take := { d.twin.take with deadmit := d.twin.take.deadmit ++ [s] } } }
    else if c.state == csABSENT || c.state == csANNOUNCED then d
    else
      let d := d.setCell s { echoHold := true }
      d.sets [(Reg.CELL.STATE s, c.state), (Reg.CELL.CMD_STATE s, c.cmd), (Reg.CELL.SEQ s, c.seq),
        (Reg.CELL.FLAGS s, setBit 0 flUNCONFIRMED + if c.excluded then setBit 0 flEXCLUDED else 0),
        (Reg.CELL.EQD s, c.eqd), (Reg.CELL.DL_DELAY s, c.dl), (Reg.CELL.EQ_ADJ s, c.eqAdj), (Reg.CELL.SW_COUNT s, c.swCount),
        (Reg.CELL.RTT s, d.loadedRtt c),
        (Reg.CELL.STATE_TT s, d.ownTt c.stateTt)]) d

/-- Kiln: the structure first, then nodes and sinks as they stand in the ember. The sinks count as fresh. -/
def Dev.loadKiln (d : Dev) (e : Config.Ember) : Dev :=
  let d := (d.setKiln { d.kiln with reload := true }).kilnLoad.kilnStart
  let d := e.nodes.foldl (fun d n =>
    match Tab.find d.kiln.nodes n.node with
    | some x =>
      let d := d.sets [(Reg.NODE.OUT0 n.node, n.out0), (Reg.NODE.OUT1 n.node, n.out1), (Reg.NODE.STATUS n.node, n.status)]
      let d := d.sets ((List.range 4).map (fun i => (Reg.NODE.S n.node i, n.s.getD i 0)))
      d.setNode n.node { x with work0 := BitVec.ofNat 32 n.out0, work1 := BitVec.ofNat 32 n.out1
                                stale0 := n.status.testBit 1, stale1 := n.status.testBit 2, gateTo := n.gateTo, reinit := n.reinit }
    | none => d) d
  let d := (List.range 4).foldl (fun d k =>
    let g := e.rgs.getD k ((d.rgx k).mult, (d.rgx k).phase)
    d.setRgx k { d.rgx k with mult := g.1, phase := g.2 }) d
  (List.range 112).foldl (fun d s =>
    (d.set (Reg.SINKVAL.SINK_VALUE s) (e.sinks.getD s (0, false)).1).setSinkStale s false) d

/-- Time: the servo as it was; EPOCH_SEC and OFFSET so that own station time equals the partner's at the instant of the
latest DELTA_TT. -/
def Dev.loadTime (d : Dev) (e : Config.Ember) : Dev :=
  let own : Int := match d.twin.deltas with
    | (_, t) :: _ => t
    | [] => d.tt
  let rate := toSigned 32 e.rate
  let st := stWith rate (toSigned 64 e.offset) (own + d.deltaTt)
  let d : Dev := { d with time := { d.time with integ := e.integ, measure := none, sync := none, lastRef := none, lockRun := 0 } }
  ((d.sets [(Reg.SERVO.STATE, e.servoState), (Reg.TB.RATE, e.rate), (Reg.TB.EPOCH_SEC, e.epoch)]).setI Reg.TB.OFFSET 64
    (st - stWith rate 0 own)).timeChange d

/-- Lanes, profiles and a profile change in progress, which ends ABORTED: its ABORTs leave from frame m on. -/
def Dev.loadOthers (d : Dev) (e : Config.Ember) : Dev :=
  let d := d.sets [(Reg.SPARE.LANE_MAP, e.laneMap), (Reg.SPARE.FAILED_LANES, e.failedLanes)]
  let d := (List.range 6).foldl (fun d a => (d.set (Reg.LANE.PHYS_LANE a) (field e.laneMap (4 * a) 4)).set (Reg.MODE.PROFILE_ARM a) (e.profiles.getD a 0)) d
  let d := match (List.range 6).find? (fun a => field e.laneMap (4 * a) 4 == 6) with
    | some a => d.sets [(Reg.SPARE.SERVES, a), (Reg.SPARE.SPARE_STATE, 2)]
    | none => d
  if e.modeArms == 0 then d
  else Dev.set { d with link := { d.link with mode := { arms := e.modeArms, aborts := 4 } } } Reg.MODE.STATE 1

/-- Time compares, the commit compare and angle compares stand idle. -/
def Dev.idleCompares (d : Dev) : Dev :=
  let d := (List.range 16).foldl (fun d n => d.set (Reg.TC.STATUS n) (clearBits (d.get (Reg.TC.STATUS n)) 3)) d
  let d := [0, 1].foldl (fun d g => (d.setGau g { d.gau g with hit := none }).set (Reg.GAU.CMP_STATUS g) 0) d
  d.set Reg.COMMIT.TIME_ARMED 0

/-- EMBER_LOAD_DONE (spec R407, R408). -/
def Dev.emberLoad (d : Dev) (m : Memory) : Dev :=
  let tk := d.twin.take
  if !(d.ds == dsTAKEOVER && tk.awake && !tk.loaded) then d
  else
    let d := d.idleCompares
    let c := d.chooseEmber m
    let d : Dev := { d with twin := { d.twin with take := { tk with loaded := true, ember := c.map Prod.snd } } }
    match c with
    | none => ((d.setKiln { d.kiln with reload := true }).kilnLoad.kilnStart).maintSpares
    | some (src, e) =>
      let d := if src == 2 then (d.rise Reg.TWIN.LEAVES 3 uTWIN).raise 217 0 else d
      let be := d.ownTt e.be
      let d := d.sets [(Reg.TKO.SOURCE, src), (Reg.TKO.EMBER_AGE, ofSigned 32 (diffW 64 tk.declTt be / 10000)),
        (Reg.EMBER.LAST_FRAME, e.e % 2 ^ 32), (Reg.EMBER.LAST_TT, be)]
      (((((d.loadConfig e.config).loadCells e.cells).loadKiln e).loadTime e).loadOthers e).maintSpares

/-- The arms that resume (spec R410). -/
def Dev.resumeArms (d : Dev) : Nat :=
  match d.twin.take.ember with
  | none => 0
  | some e =>
    let bits := match d.twin.take.bits with
      | some b => b
      | none => (List.range 6).foldl (fun v a => putBit v a ((e.arms.getD a (0, 0)).1 != asBLOCKED)) 0
    (List.range 6).foldl (fun v a => putBit v a (bits.testBit a && d.armMapped a)) 0

/-- An arm from BLOCKED to OPEN with CAUSE TAKEOVER; its watchdog runs from here. -/
def Dev.armResume (d : Dev) (a : Nat) : Dev :=
  let d := (d.unban a).armSet a asOPEN caTAKEOVER
  let x := d.arm a
  let d := d.setArm a { x with pos := !(F32.lt x.cur.rNew F32.zero), burst := 0, burstDone := false, closeFrame := none, req := none, asks := [] }
  (d.watchdog a (siOf d.frame.bn)).ranked a (siOf d.frame.bn) 4

/-- Loop and lane at B(m): r_prev and r_new take I_REF (spec R408). -/
def Dev.armTakes (d : Dev) (a : Nat) : Dev :=
  let r := (d.sink (7 * a)).1
  let c : RefX := { rPrev := r, rNew := r, si0 := siOf d.frame.bn, ns := d.get Reg.LINK.TF, tf := d.tf, vKiln := (d.sink (7 * a + 1)).1
                    vSum := d.getF (Reg.LANE.VCAP_SUM a), healthy := d.get (Reg.LANE.HEALTHY a) }
  (d.setArm a { d.arm a with cur := c, old := c }).laneFrame a (fun i => d.sink (7 * a + 2 + i))

/-- The frame count of B(m) (spec R409). -/
def Dev.resumeCount (d : Dev) (bm : Nat) : Nat :=
  match d.twin.take.ember with
  | some e => ((e.e : Int) + diffW 64 (ofSigned 64 ((bm : Int) + d.deltaTt)) e.be / d.tf + 1).toNat
  | none => d.frame.n + 1

/-- TAKEOVER_RESUME: the frame grid starts at the last TT multiple of 1,000 (log 117), links restart, arms resume (spec R409–R411). -/
def Dev.resume (d : Dev) (m : Memory) : Dev :=
  if !(d.ds == dsTAKEOVER && d.twin.take.loaded && !d.frame.run) then d
  else
    let bm := d.tt - d.tt % 1000
    let d : Dev := { d with link := { d.link with moved := [] }, frame := { d.frame with run := true, started := true, n := d.resumeCount bm, bnOld := bm, bn := bm, next := bm + d.tf } }
    let arms := d.resumeArms
    let d := (List.range 6).foldl Dev.armTakes d
    let d := (d.snapshotFrame.kilnFrame m).pwmFrame
    let d := d.portsFrame.modeFrame
    let d := d.twin.take.deadmit.foldl Dev.deadmit d
    let d := ((List.range 6).filter arms.testBit).foldl Dev.armResume d
    let t := d.twin
    let d : Dev := { d with twin := { t with take := { t.take with resumed := arms, left := arms, bm := bm, deadmit := [] } } }
    let d := d.sets [(Reg.TKO.RESULT, if t.take.ember.isNone then 2 else if arms == 0 then 3 else 1), (Reg.TKO.RESUME_TT, bm),
      (Reg.TKO.DURATION, (bm - t.take.declTt) / 10 + 40)]
    if arms == 0 then ((d.blockPorts d.mappedPorts).rise Reg.TWIN.LEAVES 4 uTWIN).raise 211 0 else d

/-- The takeover is complete at the snapshot of B(m+1) (spec R413). -/
def Dev.takeoverFrame (d : Dev) : Dev :=
  if d.ds == dsTAKEOVER && d.frame.run && decide (d.twin.take.bm < d.frame.bn) then
    let n := (d.knownSlots.filter (fun s => d.flag s flUNCONFIRMED)).length
    let d := (d.set Reg.TKO.UNCONFIRMED n).count Reg.TWIN.TAKEOVERS 32 1
    ((d.rise Reg.TWIN.LEAVES 5 uTWIN).raise 210 0).changeState dsRUNNING
  else d

/-- A resumed arm has closed; with the last one, CLOSED_TT, and for a swap the proof test (spec R415). -/
def Dev.takeArm (d : Dev) (a : Nat) : Dev :=
  let tk := d.twin.take
  if tk.left.testBit a && d.armState a == asCLOSED then
    let left := clearBits tk.left (1 <<< a)
    let d : Dev := { d with twin := { d.twin with take := { tk with left := left } } }
    if left != 0 then d
    else
      let d := d.set Reg.TKO.CLOSED_TT d.tt
      if tk.swap && decide (d.tt ≤ tk.bm + 100 * d.tf) then (d.count Reg.TWIN.SWAPS 32 1).proofReset else d
  else d

/-! The primary identity (spec R402). -/

/-- IDENTITY_ANNOUNCE: at 0, 50 and 100 ms after the take, on each enabled interface. -/
def Dev.identityAnnounce (d : Dev) : Dev :=
  let t := d.twin
  if 0 < t.annLeft && d.get Reg.TWIN.LEASE == 1 && decide (t.annAt + (3 - t.annLeft) * 500000000 ≤ d.now) then
    let one (d : Dev) (n : Nat) : Dev :=
      let d := if d.on Reg.CONVIP.V4_EN then d.frameOut n (.arp (d.get Reg.CONVIP.V4_ADDR) true) else d
      if d.on Reg.CONVIP.V6_EN then
        d.frameOut n (.neighbour (d.get Reg.CONVIP.V6_ADDR_HI * 2 ^ 64 + d.get Reg.CONVIP.V6_ADDR_LO) true) else d
    let d := (if d.prp then [0] else [0, 1]).foldl one d
    { d with twin := { d.twin with annLeft := t.annLeft - 1 } }
  else d

end Sys2Proof.Machine
end

