-- ==== Sys2Proof/Machine/Frame.lean ====
section
/-!
DEFINITION. The frame boundary in the order of R16 (spec R16–R19, R101, R306).
-/
namespace Sys2Proof.Machine

/-- B(n) is due: its TT has come (spec R16). -/
def Dev.frameDue (d : Dev) : Bool := d.frame.run && decide (d.frame.next ≤ d.tt)

/-- The next frame: its count and its boundary. The first boundary after reset has count 0 (spec R306). Cells of ports that
have changed arm join the new lane (spec R158). -/
def Dev.frameStep (d : Dev) : Dev :=
  let f := d.frame
  { d with link := { d.link with moved := [] }
           frame := { f with n := if f.started then f.n + 1 else f.n, started := true, bnOld := f.bn, bn := f.next, next := f.next + d.tf } }

/-- The length of the frame that begins is the TF that the strobes of its boundary leave in force (spec R16, R161). -/
def Dev.frameLength (d : Dev) : Dev := { d with frame := { d.frame with next := d.frame.bn + d.tf } }

/-- Aggregates of the frame that ended, where one has, and what the loops and lanes take at the boundary (spec R244, R245, R279,
R292, R293). The lanes do so at every boundary; the loops run with the samples (spec R101). -/
def Dev.armsFrame (d : Dev) (ended : Option Nat) : Dev :=
  (List.range 6).foldl (fun d a =>
    let d := match ended with
      | some n => (d.laneAggregate a n).healthyCheck a
      | none => d
    let s := d.sink (7 * a)
    let d := if d.sampling then d.armFrame a s.1 s.2 d.kiln.halted (d.sink (7 * a + 1)).1 else d
    let d := match ended with
      | some n => d.acqAggregate a d.frame.bn (n % 2 ^ 32) (d.arm a).cur.rNew
      | none => d
    d.laneFrame a (fun i => d.sink (7 * a + 2 + i))) d

/-- FRAME_BOUNDARY: sinks, strobes, snapshot, RG0 work, beacons (spec R16), and what else happens at a boundary. -/
def Dev.frameBoundary (d : Dev) (m : Memory) : Dev :=
  if !d.frameDue then d
  else
    let ended := if d.frame.started then some d.frame.n else none
    let d := d.ashRows.sodsPassed.frameStep
    let d := d.kilnPublish d.frame.n
    let d := (d.commitFrame m).frameLength
    let d := d.emberFrame
    let d := d.armsFrame ended
    let d := d.takeoverFrame
    let d := d.snapshotFrame.kilnFrame m
    let d := d.deviceFrame
    let d := d.pwmFrame
    let d := d.portsFrame.identifyRepeats.modeFrame
    let d := if ended.isSome then d.maintFrame.statFrame else d.maintFrame
    let d := d.legsumLeaf.profileLeaf
    let d := d.event 0x1BC
    if d.bit Reg.EC.SNAP_SRC 0 then d.snap else d

end Sys2Proof.Machine
end

