-- ==== Sys2Proof/Machine/Access.lean ====
section
/-!
DEFINITION. Accesses to sub-entries: how the fabric judges them, what a read returns, and what a write to a sub-entry that
is no write-pulse does (spec R29–R48, R90, R95, R404, R480, and the rules of the units for their own fields).
-/
namespace Sys2Proof.Machine

def subKey (idx sub : Nat) : Nat := idx * 256 + sub

/-! The order of judgement (spec R480). -/

def isTestIdx (idx : Nat) : Bool := decide (0x2F00 ≤ idx) && decide (idx ≤ 0x2FFF)

/-- Whether an index is defined (spec R33). A segment at or above SEGMENTS is not (spec R445). -/
def Dev.indexDefined (d : Dev) (idx : Nat) : Bool :=
  if isTestIdx idx then Config.testEntry idx 0
  else if decide (0x2D40 ≤ idx) && decide (idx ≤ 0x2D4F) then decide (idx - 0x2D40 < d.get Reg.ACQ.SEGMENTS)
  else (objectAt idx).isSome

/-- The highest subindex of an object of the test space. -/
def testHighest (idx : Nat) : Nat := ((List.range 256).reverse.find? (fun s => Config.testEntry idx s)).getD 0

/-- The row of a sub-entry; the test space has rows of its own, and subindex 0x00 of an object with several holds the highest
(spec R29, R39). -/
def entryOf (idx sub : Nat) : Option Entry :=
  if isTestIdx idx then
    if sub == 0 && testHighest idx != 0 then some ⟨idx, idx, 0, 0, .u, 1, .ro, .none, none, .any, .c (testHighest idx)⟩
    else if Config.testEntry idx sub then
      some ⟨idx, idx, sub, sub, .u, Config.testSize idx sub, .rt, .imm, none, .any, .c (Config.testReset idx sub)⟩
    else none
  else entryAt idx sub

/-- Index, subindex and form: the row, or the status (spec R480). -/
def Dev.find (d : Dev) (idx sub : Nat) (block : Bool) : Entry ⊕ Nat :=
  if !d.indexDefined idx then .inr stNO_OBJECT
  else match entryOf idx sub with
    | none => .inr stNO_SUBINDEX
    | some e => if (e.ty == .dom) != block then .inr stTYPE_LENGTH else .inl e

/-- From the rising edge of PORESET_N to the end of the fuse phase nothing is served (spec R95). -/
def Dev.beforeFuses (d : Dev) : Bool := d.ds == dsKINDLING && decide (d.get Reg.KINDLE.PHASE ≤ 2)

/-- The fabric executes accesses at all (spec R70, R95). -/
def Dev.serves (d : Dev) : Bool := !(d.ds == dsRESET || d.ds == dsBANKED)

/-- Reads served in KINDLING after the fuse phase (spec R95). -/
def kindlingRead (idx : Nat) : Bool :=
  (decide (0x1000 ≤ idx) && decide (idx ≤ 0x1018)) || [0x2000, 0x2006, 0x2008, 0x2009, 0x200A].contains idx || isTestIdx idx

/-- The device state lets a read through. -/
def Dev.readState (d : Dev) (idx : Nat) : Bool :=
  if d.beforeFuses then false else if d.ds == dsKINDLING then kindlingRead idx else true

/-- The device state lets a write through: KINDLING and SAFE_DEFAULT take writes to 0x200A and DEV_CMD RESET alone (spec
R90, R95). -/
def Dev.writeState (d : Dev) (idx : Nat) (bs : List Byte) : Bool :=
  if d.beforeFuses then false
  else if d.ds == dsKINDLING || (d.ds == dsCONFIGURED && d.safeDefault) then
    idx == 0x200A || (idx == 0x2001 && bs == [0x30])
  else true

/-! Reads. -/

/-- The sample index at which a read evaluates the ranking. -/
def Dev.readSi (d : Dev) : Nat := siOf d.tt

/-- FLAGS of a cell with the bits that are judged on reading; in a deblock burst no dwell applies (spec R283, R284, R294). -/
def Dev.cellFlags (d : Dev) (s : Nat) : Nat :=
  let f := d.get (Reg.CELL.FLAGS s)
  match d.armOfSlot s with
  | some a =>
    let si := d.readSi
    let burst := d.bursting a
    let f := putBit f flINS_ELIGIBLE (d.insEligible s a si false burst)
    let f := putBit f flBYP_ELIGIBLE (d.bypEligible s a si burst)
    let f := putBit f flIN_DWELL (!burst && !d.dwellOver s a si)
    putBit f flCMD_LIMIT (d.cmdLimit s)
  | none => putBit f flCMD_LIMIT (d.cmdLimit s)

/-- The even member's sub-entry for what odd members of a pair read through it (spec R229). -/
def pairKey (k : Nat) : Nat :=
  let i := k / 256
  let s := k % 256
  if decide (0x2401 ≤ i) && decide (i ≤ 0x240C) && (i - 0x2401) % 2 == 1 && [1, 2, 3, 7].contains s then k - 256 else k

/-- Values that are computed on reading. -/
def Dev.computed (d : Dev) (k : Nat) : Option Nat :=
  let i := k / 256
  let s := k % 256
  if k == Reg.TB.TT then some d.tt
  else if k == Reg.COMMIT.PENDING then some d.pendingGroups
  else if k == Reg.STN.OUT_LEVEL then some d.outLevel
  else if k == Reg.LINK.STRANGERS then some d.strangers
  else if k == Reg.KILN.STRUCT_PENDING then some (b2n d.structPending)
  else if k == Reg.SPARE.SPARES_LEFT then some d.sparesLeft
  else if k == Reg.DAMP.TOP_CLASS then some d.topClass
  else if i == 0x2B00 && decide (8 ≤ s) && decide (s ≤ 0x0B) then some (d.pendingWord (s - 8))
  else if k == Reg.TWIN.LEASE then some (if d.live && !d.twinEn then 1 else d.get Reg.TWIN.LEASE)
  else if k == Reg.EMBER.CFG_ENTRIES then some d.twin.cfg.length
  else if k == Reg.MAINT.PROOF_AGE then some d.proofAge
  else if decide (0x2300 ≤ i) && decide (i ≤ 0x2317) then
    let p := i - 0x2300
    if k == Reg.PORT.STATE p then some (d.portState p)
    else if k == Reg.PORT.PLAN_SLACK p then some (ofSigned 32 ((d.port p).plan.slack (d.get Reg.LINK.TF)))
    else if k == Reg.PORT.ACTIVE_CELLS p then some (d.activeCells p)
    else if k == Reg.PORT.RANGE_QUEUE p then some (d.port p).rangeQ.length
    else none
  else if i == 0x2104 || i == 0x2105 then
    let n := i - 0x2104
    if k == Reg.PTPP.TX_INT n then some (d.txInt n) else if k == Reg.PTPP.RX_INT n then some (d.rxInt n) else none
  else if decide (0x2A10 ≤ i) && decide (i ≤ 0x2A15) && s == 5 then some (d.pw (i - 0x2A10)).shadow
  else if i == 0x2481 || i == 0x2482 then
    if k == Reg.GAU.ANGLE (i - 0x2481) then some (d.angleAt (i - 0x2481) d.tt) else none
  else if decide (0x3000 ≤ i) && decide (i ≤ 0x3FFF) && s == 0x15 then some (putBit (d.get k) 7 (d.nodeCoefPending (i - 0x3000)))
  else if decide (0x4000 ≤ i) && decide (i ≤ 0x40FF) && s == 7 then some (d.srcStatus (i - 0x4000))
  else if decide (0x8000 ≤ i) && decide (i ≤ 0x8BFF) then
    let c := i - 0x8000
    if s == 3 then some (d.cellFlags c)
    else if s == 0x0A && (d.armOfSlot c).isSome then some (d.vcapEst c).toNat
    else if s == 0x0B then some (ofSigned 32 (d.key c))
    else none
  else none

/-- Reserved bits that stand beside RO, RL and RC fields in one sub-entry (spec R8, R37, and the tables of the units). -/
def rtMask (k : Nat) : Nat :=
  let i := k / 256
  let s := k % 256
  let row (lo hi sub : Nat) : Bool := decide (lo ≤ i) && decide (i ≤ hi) && s == sub
  if k == Reg.REGST.LEAVES || row 0x2A10 0x2A15 0x10 || row 0x2A10 0x2A15 0x11 || k == Reg.ACQ.LEAVES then 0xC0
  else if k == Reg.UNITSUM.UNIT_SUMMARY then 0xFFFFE000
  else if k == Reg.KINDLE.STRAPS || k == Reg.STN.LEAVES then 0xF0
  else if k == Reg.TB.LEAVES then 0xFE00
  else if row 0x2110 0x211F 6 || row 0x2481 0x2482 9 || row 0x2481 0x2482 0x12 || row 0x2E10 0x2E13 6 then 0xF8
  else if row 0x2300 0x2317 0x0A || row 0x2212 0x2212 1 || row 0x2600 0x2605 0x1E || row 0x8000 0x8BFF 3 || row 0x2C00 0x2C00 0x0E then
    0xF800
  else if row 0x2400 0x2400 1 then 0xFF00
  else if row 0x2420 0x242B 5 || row 0x2420 0x242B 6 || row 0x2500 0x2500 1 || row 0x2700 0x2700 1 || row 0x2A00 0x2A00 1 then 0xFC
  else if row 0x2481 0x2482 8 then 0x04
  else if row 0x2800 0x2805 1 then 0xFF80
  else if k == Reg.SPARE.LANE_MAP then 0xFF000000
  else if k == Reg.SPARE.FAILED_LANES then 0x80
  else if row 0x2912 0x2912 2 then 0xFFFF000000000000
  else if row 0x3000 0x3FFF 0x15 || row 0x2900 0x2900 1 then 0xFC00
  else if k == Reg.DAMP.LEAVES || row 0x4000 0x40FF 7 || k == Reg.MAINT.LEAVES || k == Reg.TWIN.PATHS then 0xE0
  else 0

/-- The bytes of a sub-entry that is no DOMAIN: a buffered one shows its shadow, a write-pulse reads 0, and reserved bits read
as written (spec R6, R45). -/
def Dev.readBytes (d : Dev) (k : Nat) (e : Entry) : List Byte :=
  if k == Reg.DEVNAME.DEVICE_NAME then [0x54, 0x4E, 0x33, 0x30, 0x37, 0x32]
  else if isTestIdx (k / 256) then
    leBytes e.size (if e.acc == .ro then testHighest (k / 256) else (Tab.find d.regs k).getD (Config.testReset (k / 256) (k % 256)))
  else
    let k := pairKey k
    let v := match d.computed k with
      | some v => v
      | none => if e.acc == .wp then 0 else if e.com == .buf then d.getShadow k else d.get k
    leBytes e.size (v ||| d.rt.get k 0)

/-- What reading does: an RC sub-entry clears (spec R6, R55). -/
def Dev.readClears (d : Dev) (k : Nat) (e : Entry) : Dev := if e.acc == .rc then d.set k 0 else d

/-- A plain read: status and data. -/
def Dev.readPlain (d : Dev) (idx sub : Nat) : Dev :=
  let none_ (st : Nat) : Dev := Dev.ret { d with data := [] } st
  match d.find idx sub false with
  | .inr st => none_ st
  | .inl e =>
    if !d.readState idx then none_ stSTATE
    else
      let k := subKey idx sub
      Dev.ret (Dev.readClears { d with data := d.readBytes k e } k e) stOK

/-- A DOMAIN sub-entry: its size, where it lies, and whether its present state lets it be read (spec R428, R437). -/
def Dev.domainAt (d : Dev) (k : Nat) : Nat × Nat × Bool :=
  let i := k / 256
  if k == Reg.IMAGE.WINDOW then (Mem.imageSize, Mem.image (d.get Reg.IMAGE.TARGET - 1), true)
  else if k == Reg.MBX.DATA then (29, Mem.mailbox, true)
  else if k == Reg.MBX.RSP_DATA then (29, Mem.response, true)
  else if k == Reg.TRACE.RECORDS then (Mem.traceSize, Mem.trace, true)
  else if k == Reg.DAMP.LOG then (Mem.logSize, Mem.log, true)
  else if k == Reg.EMBER.SLOW_COPY then (196608, Mem.slow, true)
  else if i / 16 == 0x2D4 then
    let g := i - 0x2D40
    let st := d.get (Reg.SEG.STATE g)
    (d.get (Reg.SEG.LENGTH g), Mem.acq + g * (Mem.acqSize / max 1 (d.get Reg.ACQ.SEGMENTS)), st == 2 || st == 3)
  else if i == 0x2D60 then (Mem.ashSize, Mem.ash, !d.ashRunning)
  else
    let t := i - 0x2960
    (1024, if (Tab.find d.shadow k).isSome then Mem.lookupPending t else Mem.lookup t, true)

/-- A block read of `n` bytes from an offset (spec R62, R63, R69). -/
def Dev.readBlock (d : Dev) (m : Memory) (idx sub off n : Nat) : Dev :=
  let none_ (st : Nat) : Dev := Dev.ret { d with data := [] } st
  match d.find idx sub true with
  | .inr st => none_ st
  | .inl _ =>
    let k := subKey idx sub
    let a := d.domainAt k
    if !d.readState idx then none_ stSTATE
    else if !a.2.2 then none_ stSTATE
    else if a.1 < off + n then none_ stBAD_OFFSET
    else Dev.ret { d with data := if idx == 0x2D60 then d.ashBytes (m.apply d.memQ) off n else d.memBytes m (a.2.1 + off) n } stOK

/-! Writes to what is no write-pulse. -/

/-- Fields that hardware advances as well (spec R36). -/
def advancedKey (k : Nat) : Bool :=
  let i := k / 256
  let s := k % 256
  k == Reg.TB.RATE || k == Reg.TB.OFFSET || k == Reg.TB.EPOCH_SEC || (i == 0x2211 && decide (0x0D ≤ s)) ||
    (decide (0x2110 ≤ i) && decide (i ≤ 0x211F) && s == 1) || ((i == 0x2481 || i == 0x2482) && s == 0x0D) ||
    (decide (0x2E10 ≤ i) && decide (i ≤ 0x2E13) && (s == 1 || s == 2))

/-- The value lies in the range of its sub-entry: the type's, the table's, and the few that other fields bound (spec
R30, R65, R215, R229, R372, R388, R419, R444). PREFIX_LEN is judged against FAMILY as it was last written (log 79). -/
def Dev.valueOk (d : Dev) (k : Nat) (e : Entry) (v : Nat) : Bool :=
  let i := k / 256
  let s := k % 256
  let pairOnly := decide (0x2401 ≤ i) && decide (i ≤ 0x240C) && [4, 5, 6, 8, 9, 0x0E].contains s
  (e.ty != .b || decide (v ≤ 1)) &&
  e.chk.ok e.size (i - e.lo) (s - e.sub) v &&
  (!pairOnly || v == regReset k) &&
  !(decide (0x4000 ≤ i) && decide (i ≤ 0x40FF) && srcFixed (i - 0x4000) && [1, 2, 3, 6].contains s) &&
  (!(decide (0x2401 ≤ i) && decide (i ≤ 0x240C) && s == 7) || decide (v ≤ 62)) &&
  (k != Reg.MAINT.WEAR_LIMIT || F32.le (BitVec.ofNat 32 (d.getShadow Reg.MAINT.WEAR_WARN)) (BitVec.ofNat 32 v)) &&
  (k != Reg.SERVO.SOURCE || decide (v ≤ 1)) &&
  (!(decide (0x2D10 ≤ i) && decide (i ≤ 0x2D1F) && decide (1 ≤ s) && decide (s ≤ 4)) || d.strmOk (i - 0x2D10) s v) &&
  (!(decide (0x1130 ≤ i) && decide (i ≤ 0x113F) && s == 3) || decide (v ≤ 32) || d.getShadow (Reg.ALLOW.FAMILY (i - 0x1130)) == 6)

/-- What the device state and the unit say of a write (spec R36, R111, R131, R144, R201, R205, R240, R261, R325, R328,
R335, R389, R390, R425, R437, R441). -/
def Dev.unitState (d : Dev) (k : Nat) : Nat :=
  let i := k / 256
  let s := k % 256
  let inR (lo hi : Nat) : Bool := decide (lo ≤ i) && decide (i ≤ hi)
  let busy (b : Bool) : Nat := if b then stBUSY else stOK
  let state (b : Bool) : Nat := if b then stSTATE else stOK
  if k == Reg.TB.OFFSET || k == Reg.TB.RATE then state (d.get Reg.SERVO.STATE != 0)
  else if k == Reg.TB.EPOCH_SEC then state (d.get Reg.SERVO.STATE != 0 && d.get Reg.SERVO.SOURCE != 1)
  else if k == Reg.LINK.TF then state (d.dsIn [dsRUNNING, dsTAKEOVER, dsBANKED])
  else if inR 0x2300 0x2317 && s == 1 then state ((d.armOfPort (i - 0x2300)).isSome && decide (dsLINKS_UP ≤ d.ds))
  else if i == 0x2210 then busy (d.get Reg.MBX.STATUS == 1 && (decide (s ≤ 5) || s == 0x0B))
  else if i == 0x2211 then
    let on := decide (1 ≤ d.get Reg.MODE.STATE) && decide (d.get Reg.MODE.STATE ≤ 3)
    if s ≤ 5 then busy on else state (on || d.armState (s - 0x0D) != asBLOCKED)
  else if inR 0x2110 0x211F && (s == 1 || s == 2) then busy (d.bit (Reg.TC.STATUS (i - 0x2110)) tcARMED)
  else if k == Reg.COMMIT.TIME_AT then busy (d.on Reg.COMMIT.TIME_ARMED)
  else if inR 0x2481 0x2482 && decide (0x0C ≤ s) && decide (s ≤ 0x0F) then busy (d.cs (i - 0x2481) csARMED)
  else if i == 0x2908 && decide (2 ≤ s) && decide (s ≤ 5) then busy (d.on Reg.TRACE.ENABLE)
  else if k == Reg.ACQ.SEGMENTS then
    busy (d.acqState != 0 || (List.range 16).any (fun g => d.get (Reg.SEG.STATE g) != 0))
  else if (i == 0x2D00 && [7, 9, 0x0A, 0x0B, 0x0C].contains s) || inR 0x2D10 0x2D1F then busy d.acqBusy
  else if i == 0x2D60 && s != 0x0A then busy d.ashRunning
  else if inR 0x2E10 0x2E13 then busy (d.maRunning (i - 0x2E10))
  else if isStructKey k then state (d.dsIn [dsRUNNING, dsTAKEOVER, dsBANKED])
  else if k == Reg.TWIN.TWIN_EN then state (!d.dsIn [dsKINDLING, dsCONFIGURED])
  else if inR 0x2600 0x2605 && (k == Reg.ARM.POL (i - 0x2600) || k == Reg.ARM.LEG (i - 0x2600)) then
    state (d.armState (i - 0x2600) != asBLOCKED)
  else if inR 0x2600 0x2605 && decide (6 ≤ s) && decide (s ≤ 0x13) then state (d.armState (i - 0x2600) == asCLOSED)
  else if inR 0x3000 0x3FFF && decide (7 ≤ s) && decide (s ≤ 0x0E) then
    let op := (d.node (i - 0x3000)).op
    state ((op == 0x18 || op == 0x19) && d.nodeGate (i - 0x3000) != gtOPEN)
  else stOK

/-- What a refused write leaves behind (spec R261, R325). -/
def Dev.refusedWrite (d : Dev) (k : Nat) : Dev :=
  let i := k / 256
  let s := k % 256
  if decide (0x2600 ≤ i) && decide (i ≤ 0x2605) && decide (6 ≤ s) && decide (s ≤ 0x13) then
    (d.rise (Reg.ARM.LEAVES (i - 0x2600)) 6 uARM).raiseLoop 121 (i - 0x2600)
  else if decide (0x3000 ≤ i) && decide (i ≤ 0x3FFF) && decide (7 ≤ s) && decide (s ≤ 0x0E) then
    (d.rise Reg.KILN.LEAVES 2 uKILN).raiseNode 166 (i - 0x3000)
  else d

/-- A write that every test has let through, to a sub-entry with an effect of its own; none for a plain field. -/
def Dev.ownWrite (d : Dev) (k : Nat) (v : Nat) (coincide : Bool) : Option Dev :=
  let i := k / 256
  if k == Reg.TB.RATE then some (d.rateWrite (toSigned 32 v) false)
  else if k == Reg.TB.OFFSET || k == Reg.TB.EPOCH_SEC then some (((d.set k v).timeChange d).ret stOK)
  else if k == Reg.LOCK.LOCK then some ((d.lockSet v).ret stOK)
  else if i == 0x2003 then some (d.commitMap (k % 256 - 1) v)
  else if decide (0x9000 ≤ i) && decide (i ≤ 0x9BFF) then some (d.turfWrite (i - 0x9000) v)
  else if decide (0x8000 ≤ i) && decide (i ≤ 0x8BFF) && k == Reg.CELL.GROUPS (i - 0x8000) then some (d.groupsWrite (i - 0x8000) v)
  else if decide (0x2A10 ≤ i) && decide (i ≤ 0x2A15) && k == Reg.PWM.COMPARE (i - 0x2A10) then some (d.pwCompareWrite (i - 0x2A10) v)
  else if decide (0x2D81 ≤ i) && decide (i ≤ 0x2DA0) && k == Reg.ECN.COUNT (i - 0x2D81) then some (d.ecWrite (i - 0x2D81) v coincide)
  else none

/-- A plain field takes its value: a buffered one its shadow, a counter the value with a coincident increment on top
(spec R7, R36, R45, R328). -/
def Dev.plainWrite (d : Dev) (k : Nat) (e : Entry) (v : Nat) (coincide : Bool) : Dev :=
  if e.acc == .ct then (d.set k ((v + b2n coincide) % 2 ^ (8 * e.size))).ret stOK
  else if e.com == .buf then
    let d := if isStructKey k then d.set Reg.KILN.CHECK_STATE 0 else d
    Dev.ret { d with shadow := d.shadow.put k v } stOK
  else (((d.set k v).gatesMoved d).engineSync).ret stOK

/-- A write to an RO, RL or RC row: READ_ONLY, unless reserved bits stand beside its fields. Those take the value written, and
the rest of the data is ignored (spec R36, R37, R62, log 78). -/
def Dev.writeReserved (d : Dev) (k : Nat) (e : Entry) (bs : List Byte) : Dev :=
  if rtMask k == 0 then d.ret stREAD_ONLY
  else if bs.length != e.size then d.ret stTYPE_LENGTH
  else Dev.ret { d with rt := d.rt.put k (ofLe bs &&& rtMask k) } stOK

/-- A write to a row that is neither write-pulse nor DOMAIN, index, subindex, form, device state and lock settled. -/
def Dev.writeField (d : Dev) (k : Nat) (e : Entry) (bs : List Byte) (coincide : Bool) : Dev :=
  let v := ofLe bs
  if pairKey k != k then d.ret stREAD_ONLY
  else if e.acc == .ro || e.acc == .rl || e.acc == .rc then d.writeReserved k e bs
  else if bs.length != e.size then d.ret stTYPE_LENGTH
  else if !d.valueOk k e v then d.ret stRANGE
  else if coincide && advancedKey k then d.ret stSUPERSEDED
  else
    let st := d.unitState k
    if st != stOK then (d.refusedWrite k).ret st
    else
      let d := match d.ownWrite k v coincide with
        | some d => d
        | none => d.plainWrite k e v coincide
      if d.status == stOK && (e.acc == .rw || e.acc == .lk) && e.size ≤ 8 then d.cfgRecord k e.size else d

/-- WINDOW, VERIFY and ERASE are written while 0x2008 reads 0x00 or SAFE_DEFAULT is 1 alone (spec R94). -/
def Dev.imageLocked (d : Dev) (k : Nat) : Bool :=
  (k == Reg.IMAGE.WINDOW || k == Reg.IMAGE.VERIFY || k == Reg.IMAGE.ERASE) && d.get Reg.LOCK.LOCK != 0 && !d.safeDefault

/-- A write to the test space (spec R39). -/
def Dev.testWrite (d : Dev) (k : Nat) (e : Entry) (bs : List Byte) : Dev :=
  if d.dsIn [dsRUNNING, dsTAKEOVER] then ((d.rise Reg.REGST.LEAVES 3 uREG).raise 225 0).ret stSTATE
  else if e.acc == .ro then d.ret stREAD_ONLY
  else if bs.length != e.size then d.ret stTYPE_LENGTH
  else (d.set k (ofLe bs)).ret stOK

/-! Block writes. -/

/-- The float words of a table that bytes written from an offset on reach are finite (spec R304). -/
def finiteWords (table : List Byte) (off n : Nat) : Bool :=
  (List.range 256).all (fun i =>
    decide (4 * i + 4 ≤ off) || decide (off + n ≤ 4 * i) || F32.isFinite (BitVec.ofNat 32 (ofLe ((table.drop (4 * i)).take 4))))

/-- Bytes into a lookup table's shadow: the first takes the table in force with it (spec R45, R304). -/
def Dev.writeTable (d : Dev) (m : Memory) (k : Nat) (off : Nat) (bs : List Byte) : Dev :=
  let t := k / 256 - 0x2960
  let now := d.memBytes m (d.domainAt k).2.1 1024
  let new := now.take off ++ bs ++ now.drop (off + bs.length)
  if !finiteWords new off bs.length then d.ret stRANGE
  else
    let d := (d.memWrite (Mem.lookupPending t) new).set k 0
    let d : Dev := { d with shadow := d.shadow.put k 0 }
    (if d.ds == dsKINDLING then d else d.cfgLost).ret stOK

/-- A block write to a DOMAIN, index, subindex, form, device state and lock settled (spec R62, R63, R94). -/
def Dev.writeDomain (d : Dev) (m : Memory) (k : Nat) (e : Entry) (off : Nat) (bs : List Byte) : Dev :=
  let a := d.domainAt k
  if e.acc != .rw then d.ret stREAD_ONLY
  else if a.1 < off + bs.length then d.ret stBAD_OFFSET
  else if d.unitState k != stOK then d.ret (d.unitState k)
  else if k == Reg.IMAGE.WINDOW then
    ((d.memWrite (a.2.1 + off) bs).set (if d.get Reg.IMAGE.TARGET == 1 then Reg.KINDLE.IMG_A else Reg.KINDLE.IMG_B) 7).ret stOK
  else if k == Reg.MBX.DATA then (d.memWrite (a.2.1 + off) bs).ret stOK
  else d.writeTable m k off bs

end Sys2Proof.Machine
end

