-- ==== Sys2Proof/Machine/Kindle.lean ====
section
/-!
DEFINITION. Reset, kindling and configuration images (spec R76–R95, R97, R100, R101).
-/
namespace Sys2Proof.Machine

/-! Image checks (spec R84, R85, R92). -/

/-- Where an image lies: bytes from an offset on. -/
abbrev ImageBytes := Nat → Nat → List Byte

/-- A slot of MRAM (0 A, 1 B). -/
def Dev.slotBytes (d : Dev) (m : Memory) (slot : Nat) : ImageBytes := fun off n => d.memBytes m (Mem.image slot + off) n

/-- The QSPI flash; a byte beyond those given reads 0x00. -/
def flashBytes (l : List Byte) : ImageBytes := fun off n => (List.range n).map (fun i => l.getD (off + i) 0)

abbrev igEMPTY : Nat := 0
abbrev igVALID : Nat := 1
abbrev igHEADER_BAD : Nat := 2
abbrev igBODY_CRC : Nat := 3
abbrev igREVISION : Nat := 4
abbrev igREFUSED : Nat := 5
abbrev igUNREAD : Nat := 6
abbrev igWRITING : Nat := 7

/-- A header field. -/
def imageWord (b : ImageBytes) (off n : Nat) : Nat := ofLe (b off n)

def imageLength (b : ImageBytes) : Nat := imageWord b 16 4
def imageGeneration (b : ImageBytes) : Nat := imageWord b 8 4
def imageLocks (b : ImageBytes) : Nat := imageWord b 24 4

/-- The status of an image before its records are applied: the first check that fails gives it (spec R92). Header bytes 6 and 7
are no part of a check but the CRC (DESIGN CHOICE, log 80). -/
def imageCheck (revision : Nat) (b : ImageBytes) : Nat :=
  let len := imageLength b
  if b 0 4 != [0x54, 0x59, 0x49, 0x4D] then igEMPTY
  else if imageWord b 4 2 != 1 || decide (len < 32) || decide (Mem.imageSize < len) || decide (32 ≤ imageLocks b) ||
      crc32 (b 0 28) != imageWord b 28 4 then igHEADER_BAD
  else if imageWord b 12 4 != revision then igREVISION
  else if crc32 (b 32 (len - 32)) != imageWord b 20 4 then igBODY_CRC
  else igVALID

/-! Slots and TARGET (spec R91, R94). -/

/-- The sub-entry that shows a source's status: 1 MRAM A, 2 MRAM B, 3 QSPI. -/
def imageKey (src : Nat) : Nat := if src == 1 then Reg.KINDLE.IMG_A else if src == 2 then Reg.KINDLE.IMG_B else Reg.KINDLE.IMG_EXT

/-- A slot counts as VALID: by its status, or unread by what it holds. -/
def Dev.slotValid (d : Dev) (m : Memory) (src : Nat) : Bool :=
  let st := d.get (imageKey src)
  st == igVALID || (st == igUNREAD && imageCheck (d.get Reg.IDENT.REVISION) (d.slotBytes m (src - 1)) == igVALID)

/-- TARGET: never the slot that holds the loaded image; before one is loaded, the slot that kindling would not prefer. -/
def Dev.targetSync (d : Dev) (m : Memory) : Dev :=
  let t :=
    match d.kindle.slot with
    | some s => 3 - s
    | none =>
      if !d.slotValid m 1 then 1
      else if !d.slotValid m 2 then 2
      else if imageGeneration (d.slotBytes m 0) < imageGeneration (d.slotBytes m 1) then 1 else 2
  d.set Reg.IMAGE.TARGET t

/-- An unread source is examined. -/
def Dev.examine (d : Dev) (src : Nat) (b : ImageBytes) : Dev :=
  if d.get (imageKey src) == igUNREAD then d.set (imageKey src) (imageCheck (d.get Reg.IDENT.REVISION) b) else d

/-- The order within MRAM: the higher GENERATION first, A of equal ones (spec R87). -/
def Dev.mramOrder (d : Dev) (m : Memory) : List Nat :=
  if imageGeneration (d.slotBytes m 0) < imageGeneration (d.slotBytes m 1) then [2, 1] else [1, 2]

/-! Interface types of network boot (spec R88). -/

/-- The value that records give a one-byte sub-entry: that of the last of them, or `v`. -/
def recordByte : Nat → List Byte → Nat → Nat → Nat
  | 0, _, _, v => v
  | fuel + 1, bs, k, v =>
    if bs.length < 9 then v
    else
      let n := ofLe ((bs.drop 4).take 4)
      recordByte fuel (bs.drop (8 + n)) k
        (if subKey (ofLe (bs.take 2)) (bs.getD 2 0).toNat == k && n == 1 then (bs.getD 8 0).toNat else v)

/-- NET0 and NET1 take the interface types of the newer valid image of MRAM, or SGMII. -/
def Dev.bootIfs (d : Dev) (m : Memory) : Dev :=
  let if_ (k : Nat) : Nat := match (d.mramOrder m).find? (d.slotValid m) with
    | some s =>
      let b := d.slotBytes m (s - 1)
      recordByte (imageLength b) (b 32 (imageLength b - 32)) k (regReset k)
    | none => 0
  { d with kindle := { d.kindle with bootIf0 := if_ Reg.NET.NET0_IF, bootIf1 := if_ Reg.NET.NET1_IF } }

/-! Records (spec R86, R89). -/

/-- Objects no record may write. -/
def imageBarred (idx : Nat) : Bool := idx == 0x2001 || idx == 0x2008 || idx == 0x200A || isTestIdx idx

/-- A record's write; STATUS says how it went. -/
def Dev.imageWrite (d : Dev) (m : Memory) (idx sub : Nat) (bs : List Byte) : Dev :=
  let k := subKey idx sub
  match d.find idx sub false with
  | .inl e =>
    if imageBarred idx || [.wp, .ct, .ro, .rl, .rc].contains e.acc then d.ret stREAD_ONLY else d.writeField k e bs false
  | .inr _ =>
    match d.find idx sub true with
    | .inl e => if imageBarred idx then d.ret stREAD_ONLY else d.writeDomain m k e 0 bs
    | .inr st => d.ret st

/-- The records from an offset on: the device, the sub-entries written, and the offset of a refused record. -/
def Dev.applyRecords (m : Memory) : Nat → Dev → Nat → List Byte → List Nat → Dev × List Nat × Option Nat
  | 0, d, off, bs, ks => (d, ks, if bs.isEmpty then none else some off)
  | fuel + 1, d, off, bs, ks =>
    if bs.isEmpty then (d, ks, none)
    else
      let idx := ofLe (bs.take 2)
      let sub := (bs.getD 2 0).toNat
      let n := ofLe ((bs.drop 4).take 4)
      if decide (bs.length < 8) || bs.getD 3 0 != 0 || decide (bs.length < 8 + n) then (d, ks, some off)
      else
        let d := d.imageWrite m idx sub ((bs.drop 8).take n)
        if d.status != stOK then (d, ks, some off)
        else Dev.applyRecords m fuel d (off + 8 + n) (bs.drop (8 + n)) (subKey idx sub :: ks)

/-- An applied value reverts to its default. -/
def Dev.revertKey (d : Dev) (k : Nat) : Dev :=
  match d.ownWrite k (regReset k) false with
  | some d => d
  | none =>
    if k == Reg.MBX.DATA then d.memClear Mem.mailbox 29
    else (Dev.gatesMoved { d with regs := d.regs.drop k } d).engineSync

/-- A refused image leaves nothing behind but its status, FAIL_OFFSET and F239 (spec R89). -/
def Dev.imageRefused (d : Dev) (src off : Nat) (ks : List Nat) : Dev :=
  let d := ks.foldl Dev.revertKey (d.discard (fun _ => true))
  (d.sets [(imageKey src, igREFUSED), (Reg.KINDLE.FAIL_OFFSET, off)]).raise 239 0

/-! CONFIGURED (spec R89, R97, R100, R101, R103). -/

/-- The entry into CONFIGURED. -/
def Dev.configured (d : Dev) : Dev :=
  let d := if d.kindle.reload then d else d.set Reg.KINDLE.KINDLE_US ((d.now - d.kindle.edgeAt) / 10000 % 2 ^ 32)
  let d := if d.kindle.netBoot then d.netDown else d
  let d : Dev := { d with
    kindle := { d.kindle with waiting := false, netBoot := false, reload := false, configuredAt := d.now, decided := false }
    twin := { d.twin with cfg := [], actSeen := d.twin.actIn } }
  let d := ((d.set Reg.KINDLE.PHASE 7).fall Reg.TWIN.LEAVES 8).changeState dsCONFIGURED
  let d : Dev := if d.frame.run then d
    else { d with frame := { d.frame with run := true, next := (d.tt + d.tf - 1) / d.tf * d.tf } }
  let d := d.damperLeaves.pathsSync.maintSpares
  let d := d.stnRestart (d.set Reg.STN.IN_LEVEL 0) [0, 1, 2, 3, 4, 5, 6, 7]
  if d.twinEn then d else d.startDecision

/-- Load the image of a source: 1 MRAM A, 2 MRAM B, 3 QSPI; `shown` is what SOURCE reads. False: it was refused. -/
def Dev.loadImage (d : Dev) (m : Memory) (src shown : Nat) (b : ImageBytes) : Dev × Bool :=
  let len := imageLength b
  match Dev.applyRecords m len d 32 (b 32 (len - 32)) [] with
  | (d, ks, some off) => (d.imageRefused src off ks, false)
  | (d, _, none) =>
    let d := (d.strobeAt m 0xFF d.tt).1.lockSet (imageLocks b)
    let d := d.sets [(imageKey src, igVALID), (Reg.KINDLE.SOURCE, shown), (Reg.KINDLE.GENERATION, imageGeneration b)]
    let d : Dev := { d with kindle := { d.kindle with slot := if src ≤ 2 then some src else none } }
    ((d.targetSync m).configured, true)

/-- No source is left, or network boot begins: kindling waits for a delivery (spec R87, R88). The ports restart where network boot
begins or ends. -/
def Dev.waitDelivery (d : Dev) (m : Memory) (net : Bool) : Dev :=
  let d := if net || d.kindle.netBoot then d.netDown else d
  let d := if net then d.bootIfs m else d
  Dev.set { d with kindle := { d.kindle with waiting := true, netBoot := net, netLinkAt := none } } Reg.KINDLE.PHASE 6

/-- Sources in order; the first image that passes every check is loaded (spec R87). Both slots of MRAM are examined before
one is tried, and the flash is read with the one command of R473. -/
def Dev.trySources (m : Memory) (flash : List Byte) : List Nat → Dev → Dev
  | [], d => (d.waitDelivery m false).targetSync m
  | src :: rest, d =>
    let b := if src == 3 then flashBytes flash else d.slotBytes m (src - 1)
    let d := if src == 3 then (d.send (.qspi 0x6B 0 8)).examine 3 b else (d.examine 1 (d.slotBytes m 0)).examine 2 (d.slotBytes m 1)
    if d.get (imageKey src) != igVALID then Dev.trySources m flash rest d
    else
      match d.loadImage m src src b with
      | (d, true) => d
      | (d, false) => Dev.trySources m flash rest d

/-- BOOT_SRC (spec R79). -/
def Dev.bootSrc (d : Dev) : Nat := d.get Reg.KINDLE.STRAPS % 4

/-- The image phase begins (spec R87, R89, R90). -/
def Dev.imageStart (d : Dev) (m : Memory) : Dev :=
  let unread (d : Dev) (k : Nat) : Dev := if d.get k == igWRITING then d else d.set k igUNREAD
  let d := [Reg.KINDLE.IMG_A, Reg.KINDLE.IMG_B, Reg.KINDLE.IMG_EXT].foldl unread d
  let d := d.sets [(Reg.KINDLE.SOURCE, 0), (Reg.KINDLE.GENERATION, 0), (Reg.KINDLE.PHASE, 5)]
  let d : Dev := { d with kindle := { d.kindle with slot := none, waiting := false, netBoot := false, verify := none } }
  let d := d.targetSync m
  if d.safeDefault then (d.bootIfs m).configured
  else if d.bootSrc == 2 then d.waitDelivery m true
  else if d.bootSrc == 3 then d.waitDelivery m false
  else d

/-- IMAGE_PHASE_DONE: `flash` is what the QSPI flash holds (spec R87, R89). -/
def Dev.imagePhaseDone (d : Dev) (m : Memory) (flash : List Byte) : Dev :=
  if d.ds != dsKINDLING || d.get Reg.KINDLE.PHASE != 5 then d
  else Dev.trySources m flash (if d.bootSrc == 1 then 3 :: d.mramOrder m else d.mramOrder m ++ [3]) d

/-- NETWORK_BOOT_TIMEOUT: 60,000 ms after the first port reported link (spec R87, R88). -/
def Dev.netBootTimeout (d : Dev) (m : Memory) : Dev :=
  match d.kindle.netLinkAt with
  | some t =>
    if d.ds == dsKINDLING && d.kindle.netBoot && decide (t + 600000000000 ≤ d.now) then Dev.trySources m [] (d.mramOrder m) d
    else d
  | none => d

/-! Delivery through 0x200A (spec R88, R93, R94). -/

/-- A write of 1 to VERIFY: BUSY while a check runs (spec R36). `net` says which path delivers (spec R91), where the access names
one (log 101). -/
def Dev.imageVerify (d : Dev) (net : Option Bool) : Dev :=
  if d.kindle.verify.isSome then d.ret stBUSY
  else
    let byNet := net.getD d.kindle.netBoot
    Dev.ret { d with kindle := { d.kindle with verify := some (d.get Reg.IMAGE.TARGET), verifyNet := byNet } } stOK

/-- IMAGE_VERIFY_DONE: the status is stored; while kindling waits, a VALID image is loaded at once. A refused one leaves
the next source to be tried. -/
def Dev.verifyDone (d : Dev) (m : Memory) : Dev :=
  match d.kindle.verify with
  | none => d
  | some src =>
    let b := d.slotBytes m (src - 1)
    let st := imageCheck (d.get Reg.IDENT.REVISION) b
    let d : Dev := Dev.set { d with kindle := { d.kindle with verify := none } } (imageKey src) st
    let d := d.targetSync m
    if st == igVALID && d.ds == dsKINDLING && d.kindle.waiting then
      match d.loadImage m src (if d.kindle.verifyNet then 4 else 5) b with
      | (d, true) => d
      | (d, false) => if d.kindle.netBoot then Dev.trySources m [] (d.mramOrder m) d else d.targetSync m
    else d

/-- A write of 1 to ERASE. -/
def Dev.imageErase (d : Dev) (m : Memory) : Dev :=
  let t := d.get Reg.IMAGE.TARGET
  (((d.memClear (Mem.image (t - 1)) 4).set (imageKey t) igEMPTY).targetSync m).ret stOK

/-! Reset and the phases before the image (spec R76–R83). -/

/-- RESET to KINDLING: the straps and TEST_EN are sampled and the clocks phase begins (spec R97, R454). Their levels are board wiring, which a
rising edge of PORESET_N names (log 10). -/
def Dev.startKindling (d : Dev) : Dev :=
  let d : Dev := { d with kindle := { d.kindle with edgeAt := d.now, testEn := d.kindle.strapPins.testBit 4 } }
  (d.changeState dsKINDLING).sets [(Reg.KINDLE.STRAPS, d.kindle.strapPins % 16), (Reg.KINDLE.PHASE, 1)]

/-- PORESET_ASSERT: low for `lowFor` (100 ps). -/
def Dev.poresetAssert (d : Dev) (lowFor : Nat) : Dev :=
  if lowFor < 10000 then d else Dev.devReset { d with kindle := { d.kindle with poresetLow := true } } 0

/-- PORESET_RELEASE: the rising edge. While the VDD_CORE monitor holds the device it stays in RESET. -/
def Dev.poresetRelease (d : Dev) (straps : Nat) : Dev :=
  if !d.kindle.poresetLow then d
  else
    let d : Dev := { d with kindle := { d.kindle with poresetLow := false, strapPins := straps } }
    if d.kindle.vddLow then d else d.startKindling

/-- VDD_CORE_LOW: below 0.70 V for `belowFor` (100 ps). -/
def Dev.vddCoreLow (d : Dev) (belowFor : Nat) : Dev :=
  if belowFor ≤ 10000 || d.ds == dsBANKED then d else Dev.devReset { d with kindle := { d.kindle with vddLow := true } } 2

/-- VDD_CORE_RECOVERED: above 0.72 V for `aboveFor` (100 ps). -/
def Dev.vddCoreRecovered (d : Dev) (aboveFor : Nat) : Dev :=
  if aboveFor < 1000000 || !d.kindle.vddLow then d
  else
    let d : Dev := { d with kindle := { d.kindle with vddLow := false } }
    if d.kindle.poresetLow then d else d.startKindling

/-- DEV_CMD RESET (spec R97): PORESET_N is high, so KINDLING follows at once. -/
def Dev.devCmdReset (d : Dev) : Dev := (d.devReset 1).startKindling.ret stOK

/-- A kindling failure that nothing absorbs. -/
def Dev.kindleFail (d : Dev) (src : Nat) : Dev := (d.raiseSafe src).enterSafe

def Dev.inPhase (d : Dev) (p : Nat) : Bool := d.ds == dsKINDLING && d.get Reg.KINDLE.PHASE == p

/-- CLOCKS_PHASE_DONE: TT starts at 0 (spec R80, R107). -/
def Dev.clocksDone (d : Dev) : Dev :=
  if !d.inPhase 1 then d else Dev.set { d with ttZero := some d.now } Reg.KINDLE.PHASE 2

/-- FUSE_PHASE_DONE: `rows` are mapped by the repair map, and with SAFE_DEFAULT the network comes up (spec R90, R95). After a CRC failure no fuse value is used; what SERIAL and
MAC_BASE then read is open (spec R81). -/
def Dev.fuseDone (d : Dev) (m : Memory) (crcOk : Bool) (rows : Nat) : Dev :=
  if !d.inPhase 2 then d
  else if crcOk then
    let d := if d.safeDefault then d.bootIfs m else d
    ((d.sets [(Reg.KINDLE.REPAIRED, rows), (Reg.MAINT.SRAM_SPARE_ROWS, 1024 - rows), (Reg.KINDLE.PHASE, 3)]).maintSpares).targetSync m
  else
    let a := d.fresh
    let b := a.2.fresh
    (b.2.sets [(Reg.IDENT.SERIAL, a.1.toNat % 2 ^ 32), (Reg.NET.MAC_BASE, b.1.toNat % 2 ^ 48)]).kindleFail 239

/-- Test `k` failed: POST_FAIL (spec R82, R83). -/
def Dev.postFail (d : Dev) (k : Nat) : Dev := d.set Reg.KINDLE.POST_FAIL (setBit (d.get Reg.KINDLE.POST_FAIL) k)

/-- MEMORY_PHASE_DONE: `rows` further failing rows; `exhausted`: the reserve did not hold them. `mramBad`: 1 an
uncorrectable error inside an image slot, 2 outside them (spec R81, R82). -/
def Dev.memoryDone (d : Dev) (rows : Nat) (exhausted : Bool) (mramBad : Nat) : Dev :=
  if !d.inPhase 3 then d
  else
    let total := d.get Reg.KINDLE.REPAIRED + rows
    let spent := exhausted || decide (1024 < total)
    let d := (d.sets [(Reg.KINDLE.REPAIRED, min total 1024), (Reg.MAINT.SRAM_SPARE_ROWS, 1024 - total)]).maintSpares
    let d := if spent then d.postFail 2 else d
    let d := if mramBad == 0 then d else d.postFail 3
    if spent || mramBad == 2 then d.kindleFail 255
    else (if mramBad == 0 then d else d.raise 255 0).set Reg.KINDLE.PHASE 4

/-- The source of a self-test (spec R82). -/
def testSource (k : Nat) : Nat :=
  match k with
  | 0 => 31 | 1 => 31 | 2 => 255 | 3 => 255 | 4 => 143 | 5 => 159 | 6 => 191 | 7 => 111 | 8 => 111 | 9 => 63 | 10 => 79
  | _ => 207

/-- A lane failed its test: the spare takes its arm; a failed L6 leaves none. -/
def Dev.laneTest (d : Dev) (k : Nat) : Dev :=
  if k == 6 then d.sets [(Reg.SPARE.FAILED_LANES, setBit (d.get Reg.SPARE.FAILED_LANES) 6), (Reg.SPARE.SPARE_STATE, 3)] else d.spareServe k

/-- A core failed its test: it is retired, and the lowest spare takes the place of an ACTIVE one. -/
def Dev.coreTest (d : Dev) (c : Nat) : Dev :=
  let d := if d.get (Reg.CORES.STATE c) == kcACTIVE then d.coreSpareIn else d
  d.coreState c kcRETIRED

/-- A failed test that a spare absorbs: one lane, or cores of which 16 good ones stay (spec R82). -/
def testAbsorbed (lanes cores : List Nat) (k : Nat) : Bool :=
  (k == 5 && decide (lanes.length ≤ 1)) || (k == 6 && decide (cores.length ≤ 2))

/-- Test 5 or 6 has failed and spares absorb it (spec R82, R83). -/
def Dev.testSpared (lanes cores : List Nat) (d : Dev) (k : Nat) : Dev :=
  if k == 5 then (lanes.foldl Dev.laneTest (d.postFail k)).raise 159 0
  else (cores.reverse.foldl Dev.coreTest (d.postFail k)).raise 191 0

/-- Test `k` has failed and nothing absorbs it: SAFE (spec R82, R83). -/
def Dev.testFailed (d : Dev) (k : Nat) : Dev := (d.postFail k).kindleFail (testSource k)

/-- SELF_TEST_DONE: bit k of `fail` is test k. What spares absorb is absorbed in KINDLING, and only then does another failure take
the device to SAFE (spec R82, R83). A delay-line calibration that passes is the last successful one (spec R355). -/
def Dev.selfTestDone (d : Dev) (m : Memory) (fail lanes cores : Nat) : Dev :=
  if !d.inPhase 4 then d
  else
    let ls := (List.range 7).filter lanes.testBit
    let cs := (List.range 18).filter cores.testBit
    let failed := (List.range 12).filter fail.testBit
    let d := ((failed.filter (testAbsorbed ls cs)).foldl (Dev.testSpared ls cs) d).maintSpares
    let d := (failed.filter (fun k => !testAbsorbed ls cs k)).foldl Dev.testFailed d
    let d := if fail.testBit 11 then d else d.set Reg.PWMG.CAL_TT d.tt
    if d.ds == dsSAFE then d else d.imageStart m

/-- DEV_CMD RELOAD (spec R89, R97, R99). -/
def Dev.devReload (d : Dev) (m : Memory) : Dev :=
  if d.dsIn [dsCONFIGURED, dsLINKS_UP, dsADMITTED, dsREADY] && d.get Reg.LOCK.LOCK == 0 && !d.safeDefault then
    let d := (d.discard (fun _ => true)).deblockCancel
    let d := Dev.changeState { d with kindle := { d.kindle with reload := true } } dsKINDLING
    (d.imageStart m).ret stOK
  else d.ret stSTATE

end Sys2Proof.Machine
end

