-- ==== Sys2Proof/Machine/Fabric.lean ====
section
/-!
DEFINITION. The register fabric: writes with their write-pulses, IOP, the service SPI and the field network (spec R29–R74,
R88, R95, R480).
-/
namespace Sys2Proof.Machine

/-! Acknowledges (spec R43). -/

/-- The leaf sub-entry that an ACK sub-entry serves, and its event leaves. -/
def ackOf (k : Nat) : Option (Nat × Nat) :=
  let i := k / 256
  let s := k % 256
  let within (lo hi : Nat) : Bool := decide (lo ≤ i) && decide (i ≤ hi)
  if k == 0x200602 then some (Reg.REGST.LEAVES, 0x3F)
  else if k == 0x200B1F then some (Reg.STN.LEAVES, 0x0E)
  else if k == Reg.TB.ACK then some (Reg.TB.LEAVES, 0x1DA)
  else if within 0x2110 0x211F && s == 9 then some (Reg.TC.STATUS (i - 0x2110), 0x04)
  else if k == 0x221202 then some (Reg.LSTAT.LEAVES, 0x3EF)
  else if within 0x2300 0x2317 && s == 0x0B then some (Reg.PORT.LEAVES (i - 0x2300), 0x779)
  else if k == 0x240002 then some (Reg.MEAS.LEAVES, 0xCE)
  else if within 0x2420 0x242B && s == 7 then some (Reg.OC.LATCHED (i - 0x2420), 0x03)
  else if within 0x2481 0x2482 && s == 0x0A then some (Reg.GAU.LEAVES (i - 0x2481), 0x07)
  else if k == 0x250002 then some (Reg.ARMG.LEAVES, 0x01)
  else if within 0x2600 0x2605 && s == 0x1F then some (Reg.ARM.LEAVES (i - 0x2600), 0xFE)
  else if k == 0x270002 then some (Reg.STACKG.LEAVES, 0x03)
  else if within 0x2800 0x2805 && s == 2 then some (Reg.LANE.LEAVES (i - 0x2800), 0x7E)
  else if k == Reg.KILN.ACK then some (Reg.KILN.LEAVES, 0x33F)
  else if k == 0x2A0002 then some (Reg.PWMG.LEAVES, 0x02)
  else if within 0x2A10 0x2A15 && s == 0x12 then some (Reg.PWM.LEAVES (i - 0x2A10), 0x37)
  else if k == 0x2B0002 then some (Reg.DAMP.LEAVES, 0x1C)
  else if k == 0x2C000F then some (Reg.TWIN.LEAVES, 0x239)
  else if k == Reg.ACQ.ACK then some (Reg.ACQ.LEAVES, 0x37)
  else if k == 0x2E0002 then some (Reg.MAINT.LEAVES, 0x01)
  else none

/-- A write to an ACK sub-entry; `again` names the leaves whose event arrives at the same instant. CMP_STATUS.LATE of a grid
angle unit goes with bit 2 of its leaves. -/
def Dev.ackWrite (d : Dev) (k leaves events mask again : Nat) : Dev :=
  let d := d.ack leaves events mask again
  let i := k / 256
  if (i == 0x2481 || i == 0x2482) && mask.testBit 2 && !again.testBit 2 then d.setCs (i - 0x2481) csLATE false else d

/-! Write-pulses. -/

/-- What meets a write: a hardware update of the same field at the apply point (spec R36), leaf events at the same instant
(spec R43), for ABORT of a maintenance slot a completion that came before the engine acted (spec R386), and whether IOP or the
service SPI brings it (spec R91). -/
structure Meet where
  coincide : Bool := false
  again : Nat := 0
  done : Option Bool := none
  net : Option Bool := none
deriving DecidableEq, Repr

/-- DEV_CMD (spec R34, R35, R99). -/
def Dev.devCmd (d : Dev) (m : Memory) (v : Nat) : Dev :=
  match v with
  | 0x10 => d.devDeblock
  | 0x11 => d.devBlock
  | 0x20 => d.swapCmd
  | 0x30 => d.devCmdReset
  | 0x40 => d.devReload m
  | _ => d.ret stRANGE

/-- ARM_CMD (spec R256). -/
def Dev.armCmd (d : Dev) (a v : Nat) : Dev :=
  match v with
  | 1 => d.armCmdOpen a
  | 2 => d.armCmdClose a
  | 3 => d.armCmdHold a
  | 4 => d.armCmdBlock a
  | 5 => d.armCmdDeblock a
  | _ => d.ret stRANGE

/-- Write-pulses whose value is a code. Any other value of GATE_CMD returns STATE (spec R324). -/
def Dev.codePulse (d : Dev) (m : Memory) (k v : Nat) : Option Dev :=
  let i := k / 256
  let within (lo hi : Nat) : Bool := decide (lo ≤ i) && decide (i ≤ hi)
  if k == Reg.DEVCMD.DEV_CMD then some (d.devCmd m v)
  else if k == Reg.COMMIT.STROBE then some ((d.commitNow m v).1.ret stOK)
  else if k == Reg.STN.CLOSE_ARM then some (d.closeArmWrite v)
  else if within 0x2600 0x2605 then some (d.armCmd (i - 0x2600) v)
  else if k == Reg.SPARE.SPARE_IN then some (d.spareIn v)
  else if within 0x3000 0x3FFF && k == Reg.NODE.GATE_CMD (i - 0x3000) then
    some (if v == 1 then d.gateOpenCmd (i - 0x3000) else if v == 2 then d.gateCloseCmd (i - 0x3000) else d.ret stSTATE)
  else if within 0x8000 0x8BFF then
    some (if v == 1 then d.cellRetire (i - 0x8000) else if v == 2 then d.cellRelease (i - 0x8000) else d.ret stSTATE)
  else if within 0x9E00 0x9E3F && k == Reg.STRANGER.IDENTIFY (i - 0x9E00) then
    some (if v == 0 then d.ret stOK else if v ≤ 2 then d.strangerIdentify (i - 0x9E00) v else d.ret stRANGE)
  else none

/-- A write of 1 to START of a slot: an accepted offline activity ends READY (spec R385). -/
def Dev.maStartWrite (d : Dev) (s : Nat) : Dev :=
  let e := d.maStart s false
  e.readyCheck.ret e.status

/-- Write-pulses on which a 1 acts. -/
def Dev.onePulse (d : Dev) (m : Memory) (k : Nat) (x : Meet) : Dev :=
  let i := k / 256
  let s := k % 256
  let within (lo hi : Nat) : Bool := decide (lo ≤ i) && decide (i ≤ hi)
  if k == Reg.COMMIT.TIME_ARM then d.timeArm m
  else if k == Reg.IMAGE.VERIFY then d.imageVerify x.net
  else if k == Reg.IMAGE.ERASE then d.imageErase m
  else if k == Reg.TB.LATCH then d.latch.ret stOK
  else if k == Reg.CONVT.CONVERT then d.convert.ret stOK
  else if within 0x2110 0x211F then if s == 4 then d.compareArm (i - 0x2110) else d.compareDisarm (i - 0x2110)
  else if k == Reg.MBX.START then d.mbxStart m
  else if k == Reg.MODE.START then d.modeStart
  else if k == Reg.MODE.ABORT then d.modeAbortWrite
  else if within 0x9E00 0x9E3F then d.strangerClear (i - 0x9E00)
  else if k == Reg.MEAS.CAL_ALL then d.calAll
  else if within 0x2401 0x2412 then if s == 9 then d.urgentWrite (i - 0x2401) else d.maCal (i - 0x2401)
  else if within 0x2481 0x2482 then if s == 0x10 then d.angleArm (i - 0x2481) else d.angleDisarm (i - 0x2481)
  else if k == Reg.KILN.CHECK then d.graphCheck
  else if k == Reg.KILN.STAT_CLEAR then d.statClear
  else if k == Reg.TRACE.RESTART then d.traceRestart
  else if within 0x3000 0x3FFF then d.nodeCancel (i - 0x3000)
  else if within 0x2A10 0x2A15 then d.pwClear (i - 0x2A10)
  else if k == Reg.DAMP.CLEAR_ALL then d.faultClearAll
  else if within 0x4000 0x40FF then if s == 9 then d.faultClear (i - 0x4000) else d.faultForce (i - 0x4000)
  else if k == Reg.ACQ.ARM then d.acqArm
  else if k == Reg.ACQ.ABORT then d.acqAbort
  else if k == Reg.TRIG.FORCE then d.trigForce
  else if within 0x2D40 0x2D4F then d.segRelease (i - 0x2D40)
  else if k == Reg.ASH.ASH_ARM then d.ashStart
  else if k == Reg.ASH.ASH_STOP then d.ashRows.ashStop
  else if k == Reg.EC.SNAP then d.snap.ret stOK
  else if within 0x2E10 0x2E13 then
    if s == 3 then d.maStartWrite (i - 0x2E10) else d.maAbort (i - 0x2E10) x.done
  else d.ret stOK

/-- URGENT of a pair's member accepts only its default (spec R229). -/
def urgentOfPair (k : Nat) : Bool := decide (0x2401 ≤ k / 256) && decide (k / 256 ≤ 0x240C) && k % 256 == 9

/-- A write to a write-pulse; a value without a meaning does nothing (spec R6). -/
def Dev.pulse (d : Dev) (m : Memory) (k v : Nat) (x : Meet) : Dev :=
  match ackOf k with
  | some (leaves, events) => (d.ackWrite k leaves events v x.again).ret stOK
  | none =>
    match d.codePulse m k v with
    | some d => d
    | none => if v == 1 then d.onePulse m k x else d.ret (if urgentOfPair k && v != 0 then stRANGE else stOK)

/-! Accesses. -/

/-- Whether a lock refuses a write. -/
def Dev.lockHolds (d : Dev) (k : Nat) : Bool := d.imageLocked k || d.locked k

/-- One plain write (spec R31, R36, R41, R62, R95, R480). -/
def Dev.write (d : Dev) (m : Memory) (idx sub : Nat) (bs : List Byte) (x : Meet) : Dev :=
  if !d.serves then d
  else if d.beforeFuses then d.ret stSTATE
  else match d.find idx sub false with
    | .inr st => d.ret st
    | .inl e =>
      let k := subKey idx sub
      if !d.writeState idx bs then d.ret stSTATE
      else if isTestIdx idx then d.testWrite k e bs
      else if d.lockHolds k then d.lockViol k
      else if e.acc == .wp then
        if bs.length != e.size then d.ret stTYPE_LENGTH else d.pulse m k (ofLe bs) x
      else d.writeField k e bs x.coincide

/-- One plain read (spec R31, R62, R95, R480). -/
def Dev.read (d : Dev) (idx sub : Nat) : Dev :=
  if !d.serves then d
  else if d.beforeFuses then Dev.ret { d with data := [] } stSTATE
  else d.readPlain idx sub

/-- One block write. `lenOk` is false where its length field is out of range: RANGE, after index, subindex, form, device state,
lock and access type (spec R63, R69, R480, log 81). -/
def Dev.blockWrite (d : Dev) (m : Memory) (idx sub off : Nat) (bs : List Byte) (lenOk : Bool) : Dev :=
  if !d.serves then d
  else if d.beforeFuses then d.ret stSTATE
  else match d.find idx sub true with
    | .inr st => d.ret st
    | .inl e =>
      let k := subKey idx sub
      if !d.writeState idx bs then d.ret stSTATE
      else if d.lockHolds k then d.lockViol k
      else if e.acc == .rw && !lenOk then d.ret stRANGE
      else
        let d := d.writeDomain m k e off bs
        if k == Reg.IMAGE.WINDOW then d.targetSync m else d

/-- One block read; `lenOk` as for a write. -/
def Dev.blockRead (d : Dev) (m : Memory) (idx sub off n : Nat) (lenOk : Bool) : Dev :=
  if !d.serves then d
  else if d.beforeFuses then Dev.ret { d with data := [] } stSTATE
  else if lenOk then d.readBlock m idx sub off n
  else
    let st := match d.find idx sub true with
      | .inr st => st
      | .inl _ => if d.readState idx then stRANGE else stSTATE
    Dev.ret { d with data := [] } st

/-! The field network (spec R71–R74, R88). -/

/-- Which address objects a port uses: those of NET0 in PRP (spec R72). -/
def Dev.netObj (d : Dev) (n : Nat) : Nat := if d.prp then 0 else n

/-- The link-local address by EUI-64 (spec R73). -/
def Dev.linkLocal (d : Dev) (n : Nat) : Nat :=
  let mac := d.mac n % 2 ^ 48
  0xFE80 * 2 ^ 112 + ((mac / 2 ^ 24 ^^^ 0x020000) * 2 ^ 40 + 0xFFFE * 2 ^ 24 + mac % 2 ^ 24)

def join64 (hi lo : Nat) : Nat := hi * 2 ^ 64 + lo

/-- An IPv4 address that the device answers on a port (spec R73, R74). -/
def Dev.ownsV4 (d : Dev) (n a : Nat) : Bool :=
  let f := d.netObj n
  !d.bootNet && ((d.on (Reg.V4.V4_EN f) && a == d.get (Reg.V4.V4_ADDR f)) ||
    (d.on Reg.CONVIP.V4_EN && d.hasLease && a == d.get Reg.CONVIP.V4_ADDR))

/-- An IPv6 address that the device answers on a port (spec R73, R74, R88). -/
def Dev.ownsV6 (d : Dev) (n a : Nat) : Bool :=
  let f := d.netObj n
  if d.bootNet then a == d.linkLocal n
  else (d.on (Reg.V6.V6_EN f) && (a == join64 (d.get (Reg.V6.V6_ADDR_HI f)) (d.get (Reg.V6.V6_ADDR_LO f)) || a == d.linkLocal n)) ||
    (d.on Reg.CONVIP.V6_EN && d.hasLease && a == join64 (d.get Reg.CONVIP.V6_ADDR_HI) (d.get Reg.CONVIP.V6_ADDR_LO))

def Dev.ownsIp (d : Dev) (n : Nat) : IpAddr → Bool
  | .v4 a => d.ownsV4 n a.toNat
  | .v6 a => d.ownsV6 n a.toNat

/-- The duplicate of a PRP frame that was delivered within the entry-forget time (spec R71). -/
def Dev.seenFrame (d : Dev) (mac seq : Nat) : Bool :=
  d.net.seen.any (fun e => e.1 == mac && e.2.1 == seq && decide (d.now < e.2.2 + d.get Reg.NET.ENTRY_FORGET * 10000000))

/-- A frame arrives: the device, and whether it is delivered. One with FCS or symbol errors counts among the frames received as
well (DESIGN CHOICE, log 82). -/
def Dev.frameIn (d : Dev) (r : NetRx) : Dev × Bool :=
  let n := r.net.val
  if !d.netLive n then (d, false)
  else
    let d := d.count (Reg.NETP.RX_FRAMES n) 64 1
    if !r.good then (d.count (Reg.NETP.RX_ERRORS n) 32 1, false)
    else match r.rct with
      | none => (d, true)
      | some t =>
        if !d.prp then (d, true)
        else
          let d := if t.lan.toNat == lanOf n then d else d.count (Reg.NETP.WRONG_LAN n) 32 1
          let mac := r.srcMac.toNat
          let seq := t.seq.toNat
          if d.seenFrame mac seq then (d.count (Reg.NETP.DUP_DISCARD n) 64 1, false)
          else
            let keep := d.net.seen.filter (fun e => decide (d.now < e.2.2 + d.get Reg.NET.ENTRY_FORGET * 10000000))
            ({ d with net := { d.net with seen := (mac, seq, d.now) :: keep } }, true)

/-- An access has reset the device (spec R97): nothing answers it. -/
def Dev.justReset (d : Dev) : Bool := d.ds == dsKINDLING && d.get Reg.KINDLE.PHASE == 1

/-- What a port's PCS tells of its link gives link: with SGMII only the control word of 1,000 Mbit/s full duplex, with 1000BASE-X
clause 37's full duplex, whose speed is fixed (spec R71, R465). -/
def Dev.linkGood (d : Dev) (n : Nat) (w : LinkWord) : Bool :=
  match w with
  | .down => false
  | .up speed duplex => duplex && (d.netIf n != 0 || speed == .mbps1000)

/-- NET_LINK_CHANGE (spec R53, R72, R88): the first link of network boot starts its 60,000 ms. -/
def Dev.netLink (d : Dev) (n : Nat) (w : LinkWord) : Dev :=
  let up := d.linkGood n w
  if up && !d.netRuns n then d
  else
    let d := d.leaf (Reg.NETP.LINK n) 0 uREG up
    if up && d.kindle.netBoot && d.kindle.netLinkAt.isNone then { d with kindle := { d.kindle with netLinkAt := some d.now } } else d

/-- PRP_SUPERVISION: the life-check interval has ended (spec R71). -/
def Dev.supervision (d : Dev) : Dev :=
  if d.prp && decide (d.net.supervisionAt ≤ d.now) && (d.netRuns 0 || d.netRuns 1) then
    Dev.frameOn { d with net := { d.net with supervisionAt := d.now + d.get Reg.NET.LIFE_CHECK * 10000000 } } [0, 1] .supervision
  else d

/-- ARP, neighbour discovery and echo (spec R73, R74). -/
def Dev.netService (d : Dev) (r : NetRx) (q : NetReq) : Dev :=
  match d.frameIn r with
  | (d, false) => d
  | (d, true) =>
    let n := r.net.val
    match q with
    | .arp a => if d.ownsV4 n a.toNat then d.frameOut n (.arp a.toNat false) else d
    | .neighbour a => if d.ownsV6 n a.toNat then d.frameOut n (.neighbour a.toNat false) else d
    | .echo src dst p => if d.ownsIp n dst then d.frameOut n (.echo dst src p) else d

/-! IOP (spec R59–R66). -/

/-- A message of IOP: TYPE, SEQ, STATUS, COUNT and body. -/
def iopMessage (ty seq st count : Nat) (body : List Byte) : List Byte :=
  [1, BitVec.ofNat 8 ty] ++ leBytes 2 seq ++ leBytes 2 body.length ++ [BitVec.ofNat 8 st, BitVec.ofNat 8 count] ++ body

/-- The first item of a body of a type, with the rest of the body; none where it does not have its form. -/
def iopItem (ty : Nat) (b : List Byte) : Option (IopItem × List Byte) :=
  let idx := ofLe (b.take 2)
  let sub := (b.getD 2 0).toNat
  let off := ofLe ((b.drop 4).take 4)
  let len := ofLe ((b.drop 8).take 2)
  if b.length < 4 then none
  else if ty == 5 then if b.drop 1 |>.take 3 |>.all (· == 0) then some (.commit (b.getD 0 0).toNat, b.drop 4) else none
  else if b.getD 3 0 != 0 then none
  else match ty with
    | 1 => some (.read idx sub, b.drop 4)
    | 2 =>
      let n := ofLe ((b.drop 4).take 2)
      if b.length < 6 + n then none else some (.write idx sub ((b.drop 6).take n), b.drop (6 + n))
    | 3 => if b.length < 12 || ofLe ((b.drop 10).take 2) != 0 then none else some (.readBlock (b.take 12) idx sub off len, b.drop 12)
    | _ =>
      if b.length < 12 + len || ofLe ((b.drop 10).take 2) != 0 then none
      else some (.writeBlock (b.take 12) idx sub off len ((b.drop 12).take len), b.drop (12 + len))

/-- Exactly `count` items, nothing left over. -/
def iopItems (ty : Nat) : Nat → List Byte → Option (List IopItem)
  | 0, b => if b.isEmpty then some [] else none
  | n + 1, b =>
    match iopItem ty b with
    | none => none
    | some (i, rest) => (iopItems ty n rest).map (i :: ·)

/-- Header and body of a request; none where the answer is BAD_HEADER (spec R61). The STATUS byte of a request is not looked at
(DESIGN CHOICE, log 83). -/
def iopParse (p : List Byte) : Option (List IopItem) :=
  let ty := (p.getD 1 0).toNat
  let count := (p.getD 7 0).toNat
  let countOk := if ty ≤ 2 then decide (1 ≤ count) && decide (count ≤ 64) else count == 1
  if p.getD 0 0 != 1 || ty == 0 || decide (5 < ty) || !countOk then none else iopItems ty count (p.drop 8)

/-- A block item's head with its status in byte 3. -/
def blockHead (head : List Byte) (st : Nat) : List Byte := head.take 3 ++ [BitVec.ofNat 8 st] ++ head.drop 4

/-- Execute one item: the device and its bytes in the response (spec R63). -/
def Dev.iopExec (m : Memory) (d : Dev) (i : IopItem) : Dev × List Byte :=
  let head (idx sub st : Nat) : List Byte := leBytes 2 idx ++ [BitVec.ofNat 8 sub, BitVec.ofNat 8 st]
  let badLen (n : Nat) : Bool := n == 0 || decide (1400 < n)
  match i with
  | .read idx sub =>
    let d := d.read idx sub
    let data := if d.status == stOK then d.data else []
    (d, head idx sub d.status ++ leBytes 2 data.length ++ data)
  | .write idx sub data =>
    let d := d.write m idx sub data { net := some true }
    (d, head idx sub d.status)
  | .readBlock h idx sub off n =>
    let d := d.blockRead m idx sub off n (!badLen n)
    (d, blockHead h d.status ++ (if d.status == stOK then d.data else []))
  | .writeBlock h idx sub off n data =>
    let d := d.blockWrite m idx sub off data (!badLen n)
    (d, blockHead h d.status)
  | .commit mask =>
    let K := applyIndex d.tt
    let d := d.write m 0x2002 1 [BitVec.ofNat 8 mask] {}
    let k := if d.status == stOK then (K, d) else (d.fresh.1.toNat, d.fresh.2)
    (k.2, [BitVec.ofNat 8 mask, BitVec.ofNat 8 d.status, 0, 0] ++ leBytes 8 k.1)

/-- The arm whose sample an access waits for: it wrote ARM_CMD and was accepted (spec R256). -/
def Dev.writeWaits (d : Dev) (idx sub : Nat) : Option Nat :=
  let a := idx - 0x2600
  if d.status == stOK && decide (0x2600 ≤ idx) && decide (idx ≤ 0x2605) && idx * 256 + sub == Reg.ARM.ARM_CMD a &&
      (d.arm a).asks.any ArmAsk.access then some a else none

/-- The arm whose sample an item waits for. -/
def Dev.itemWaits (d : Dev) (i : IopItem) : Option Nat :=
  match i with
  | .write idx sub _ => d.writeWaits idx sub
  | _ => none

/-- Execute a request's items in order, up to one that waits for an arm's sample: the device, the bytes, and the arm with the
items that follow. The bytes of the item that waits are not among them. -/
def Dev.iopRun (m : Memory) (d : Dev) : List IopItem → Dev × List Byte × Option (Nat × List IopItem)
  | [] => (d, [], none)
  | i :: is =>
    let x := Dev.iopExec m d i
    match x.1.itemWaits i with
    | some a => (x.1, x.2.take 3, some (a, is))
    | none =>
      let r := Dev.iopRun m x.1 is
      (r.1, x.2 ++ r.2.1, r.2.2)

/-- The body that a request's response would have, for the test of TOO_LARGE: reads alone can make it so (spec R61). -/
def Dev.iopSize (m : Memory) (d : Dev) (is : List IopItem) : Nat :=
  match is with
  | .read _ _ :: _ => (d.iopRun m is).2.1.length
  | .readBlock _ _ _ _ n :: _ => 12 + (if n == 0 || decide (1400 < n) then 0 else n)
  | .writeBlock _ _ _ _ _ _ :: _ => 12
  | .commit _ :: _ => 12
  | _ => 4 * is.length

/-- IOP is served (spec R70, R88, R90, R95). -/
def Dev.iopServes (d : Dev) : Bool := d.live || d.bootNet

/-- The first `n` bits of two addresses of `w` bits agree. -/
def prefixEq (w n a b : Nat) : Bool := a / 2 ^ (w - n) == b / 2 ^ (w - n)

/-- An allowlist entry accepts a source (spec R65, R66). -/
def Dev.allows (d : Dev) (i : Nat) : IpAddr → Bool
  | .v4 a => d.on (Reg.ALLOW.ENABLE i) && d.get (Reg.ALLOW.FAMILY i) == 4 &&
      prefixEq 32 (min 32 (d.get (Reg.ALLOW.PREFIX_LEN i))) a.toNat (d.get (Reg.ALLOW.ADDR_LO i) % 2 ^ 32)
  | .v6 a => d.on (Reg.ALLOW.ENABLE i) && d.get (Reg.ALLOW.FAMILY i) == 6 &&
      prefixEq 128 (min 128 (d.get (Reg.ALLOW.PREFIX_LEN i))) a.toNat (join64 (d.get (Reg.ALLOW.ADDR_HI i)) (d.get (Reg.ALLOW.ADDR_LO i)))

def Dev.allowed (d : Dev) (src : IpAddr) : Bool := !d.on Reg.IOP.ALLOW_EN || (List.range 16).any (fun i => d.allows i src)

/-- Kept requests still within DUP_CACHE (spec R64). -/
def Dev.keptNow (d : Dev) : List Kept :=
  d.net.kept.filter (fun k => decide (d.now < k.at_ + d.get Reg.IOP.DUP_CACHE * 10000000))

/-- Keep a request with its response: it replaces one with its SEQ, and 16 are kept for each source address and port. -/
def Dev.keep (d : Dev) (k : Kept) : Dev :=
  let others := d.keptNow.filter (fun o => !(o.src == k.src && o.port == k.port && o.seq == k.seq))
  let mine (o : Kept) : Bool := o.src == k.src && o.port == k.port
  let extra := (others.filter mine).length - 15
  let r := others.foldl (fun (r : Nat × List Kept) o =>
    if mine o && decide (0 < r.1) then (r.1 - 1, r.2) else (r.1, r.2 ++ [o])) (extra, [])
  { d with net := { d.net with kept := r.2 ++ [k] } }

/-- The response leaves and is kept (spec R61, R64). -/
def Dev.iopReply (d : Dev) (u : Udp) (ps : List Nat) (st count : Nat) (body : List Byte) : Dev :=
  let p := u.payload
  let seq := ofLe ((p.drop 2).take 2)
  let r := iopMessage ((p.getD 1 0).toNat + 0x80) seq st count body
  let d := if st == stOK then d.event 0x1C2 else d
  let d := d.keep { src := u.src, port := u.srcPort.toNat, seq := seq, content := p, response := r, dst := u.dst, at_ := d.now }
  d.frameOn ps (.udp u.dst u.src u.dstPort.toNat u.srcPort.toNat r)

/-- Items run; the request is answered unless one of them waits for an arm or has reset the device (spec R63, R97, R256). -/
def Dev.iopItemsRun (d : Dev) (m : Memory) (u : Udp) (ps : List Nat) (count : Nat) (body : List Byte) (is : List IopItem) : Dev :=
  let r := Dev.iopRun m d is
  let body := body ++ r.2.1
  match r.2.2 with
  | some (a, left) =>
    let w : IopWait := { udp := u, ports := ps, arm := a, count := count, body := body, left := left, result := none }
    { r.1 with net := { r.1.net with wait := some w } }
  | none => if r.1.justReset then r.1 else r.1.iopReply u ps stOK count body

/-- A request that is accepted (spec R61, R63, R64): one that is kept is answered from its response. The 1,440 bytes of
TOO_LARGE are those of a body (DESIGN CHOICE, log 83). -/
def Dev.iopAnswer (d : Dev) (m : Memory) (u : Udp) (ps : List Nat) : Dev :=
  let p := u.payload
  let seq := ofLe ((p.drop 2).take 2)
  match d.keptNow.find? (fun k => k.src == u.src && k.port == u.srcPort.toNat && k.seq == seq && k.content == p) with
  | some k => (d.count Reg.IOP.DUP_HITS 32 1).frameOn ps (.udp u.dst u.src u.dstPort.toNat u.srcPort.toNat k.response)
  | none =>
    match iopParse p with
    | none => d.iopReply u ps stBAD_HEADER 0 []
    | some is =>
      if 1440 < d.iopSize m is then d.iopReply u ps stTOO_LARGE 0 [] else d.iopItemsRun m u ps is.length [] is

/-- An access waits for its arm's sample, and the fabric's one port with it (spec R38, R256). -/
def Dev.portBusy (d : Dev) : Bool :=
  (match d.net.wait with
   | some w => w.result.isNone
   | none => false) ||
  (match d.net.spiWait with
   | some w => w.result.isNone
   | none => false)

/-- A datagram is dropped as malformed (spec R61). -/
def iopMalformed (p : List Byte) : Bool :=
  decide (p.length < 8) || ofLe ((p.drop 4).take 2) + 8 != p.length || p.getD 1 0 == 6 || (p.getD 1 0).toNat.testBit 7

/-- An IOP datagram arrives (spec R59–R66). A body beyond 1,440 bytes is no case of R61 and is served as any other, and the
allowlist judges only what is well formed (DESIGN CHOICE, log 83). -/
def Dev.iopIn (d : Dev) (m : Memory) (u : Udp) : Dev :=
  match d.frameIn u.rx with
  | (d, false) => d
  | (d, true) =>
    let n := u.rx.net.val
    let ps := d.txPorts n
    if !d.iopServes || !d.ownsIp n u.dst || u.dstPort.toNat != d.get Reg.IOP.UDP_PORT then d
    else if iopMalformed u.payload then d.count Reg.REGST.IOP_BAD_COUNT 32 1
    else if !d.allowed u.src then d.count Reg.IOP.ALLOW_DROPS 32 1
    else if d.net.wait.isSome || d.portBusy then { d with net := { d.net with queue := d.net.queue ++ [(u, ps)] } }
    else d.iopAnswer m u ps

/-- DUP_CACHE_EXPIRY: requests older than DUP_CACHE are forgotten (spec R64). -/
def Dev.dupExpire (d : Dev) : Dev := { d with net := { d.net with kept := d.keptNow } }

/-! NOTIFY (spec R58, R63). -/

/-- The port and source address for a destination: its own subnet first, then a gateway, NET0 before NET1. -/
def Dev.route (d : Dev) (dst : IpAddr) : Option (Nat × IpAddr) :=
  let ifs := if d.prp then [0] else [0, 1]
  let up (n : Nat) : Bool := d.netLive n || (d.prp && d.netLive 1)
  match dst with
  | .v4 a =>
    let on_ := ifs.filter (fun n => up n && d.on (Reg.V4.V4_EN n))
    let near := on_.filter (fun n => prefixEq 32 (min 32 (d.get (Reg.V4.V4_PREFIX n))) a.toNat (d.get (Reg.V4.V4_ADDR n)))
    let far := on_.filter (fun n => d.get (Reg.V4.V4_GATEWAY n) != 0)
    (near ++ far).head?.map (fun n => (n, .v4 (BitVec.ofNat 32 (d.get (Reg.V4.V4_ADDR n)))))
  | .v6 a =>
    let addr (n : Nat) : Nat := join64 (d.get (Reg.V6.V6_ADDR_HI n)) (d.get (Reg.V6.V6_ADDR_LO n))
    let on_ := ifs.filter (fun n => up n && d.on (Reg.V6.V6_EN n))
    let near := on_.filter (fun n => prefixEq 128 (min 128 (d.get (Reg.V6.V6_PREFIX n))) a.toNat (addr n))
    let far := on_.filter (fun n => join64 (d.get (Reg.V6.V6_GW_HI n)) (d.get (Reg.V6.V6_GW_LO n)) != 0)
    (near ++ far).head?.map (fun n => (n, .v6 (BitVec.ofNat 128 (addr n))))

/-- Where destination 1 or 2 lies. -/
def Dev.notifyDst (d : Dev) (i : Nat) : IpAddr :=
  if d.get (Reg.NDEST.FAMILY i) == 6 then
    .v6 (BitVec.ofNat 128 (join64 (d.get (Reg.NDEST.ADDR_HI i)) (d.get (Reg.NDEST.ADDR_LO i))))
  else .v4 (BitVec.ofNat 32 (d.get (Reg.NDEST.ADDR_LO i)))

/-- NOTIFY: one that waits leaves once NOTIFY_GAP has passed since the last. -/
def Dev.notifySend (d : Dev) (i : Nat) : Dev :=
  let x := d.net.notify.get i {}
  let due := match x.last with
    | none => true
    | some t => decide (t + d.get Reg.IOP.NOTIFY_GAP * 10000 ≤ d.now)
  if !x.queued || !due || !d.live || d.bootNet then d
  else if !d.on (Reg.NDEST.ENABLE i) then { d with net := { d.net with notify := d.net.notify.put i { x with queued := false } } }
  else
    let dst := d.notifyDst i
    match d.route dst with
    | none => d
    | some (n, src) =>
      let body := leBytes 4 x.bits ++ leBytes 1 (d.get Reg.ERRSUM.ERROR_SUMMARY) ++ [0, 0, 0] ++ leBytes 8 d.tt
      let d := d.frameOut n (.udp src dst (d.get Reg.IOP.UDP_PORT) (d.get (Reg.NDEST.PORT i)) (iopMessage 6 x.seq 0 1 body))
      { d with net := { d.net with notify := d.net.notify.put i { bits := 0, queued := false, last := some d.now, seq := (x.seq + 1) % 65536 } } }

/-! Service SPI (spec R67–R70). -/

/-- The answer after START: STATUS, LEN and data of a read, CRC. -/
def Dev.spiAnswer (d : Dev) (st : Nat) (reads : Bool) (data : List Byte) : Dev :=
  let body := BitVec.ofNat 8 st :: (if reads then BitVec.ofNat 8 data.length :: data else [])
  d.send (.spi (0x5A :: body ++ [BitVec.ofNat 8 (crc8 body)]))

/-- Bytes of a request before its CRC. -/
def spiLength (cmd len : Nat) : Nat :=
  match cmd with
  | 1 => 5
  | 2 => 5 + len
  | 3 => 9
  | _ => 9 + len

/-- The access of a transaction completes with a status; `heard`: its pins still wait for the answer. -/
def Dev.spiDone (d : Dev) (st : Nat) (reads heard : Bool) : Dev :=
  let d := d.event 0x1C3
  if d.justReset || !heard then d else d.spiAnswer st reads (if st == stOK then d.data else [])

/-- A request with a good CRC is executed (spec R67–R69). One that wrote ARM_CMD waits for its arm's sample (spec R68, R256). -/
def Dev.spiExec (d : Dev) (m : Memory) (bs : List Byte) (heard : Bool) : Dev :=
  let cmd := (bs.getD 0 0).toNat
  let idx := ofLe ((bs.drop 1).take 2)
  let sub := (bs.getD 3 0).toNat
  let len := (bs.getD 4 0).toNat
  let off := ofLe ((bs.drop 5).take 4)
  let d : Dev :=
    match cmd with
    | 1 => d.read idx sub
    | 2 => d.write m idx sub ((bs.drop 5).take len) { net := some false }
    | 3 => d.blockRead m idx sub off len (len != 0)
    | _ => d.blockWrite m idx sub off ((bs.drop 9).take len) (len != 0)
  match (if cmd == 2 then d.writeWaits idx sub else none) with
  | some a => { d with net := { d.net with spiWait := some { arm := a, heard := heard } } }
  | none => d.spiDone d.status (cmd == 1 || cmd == 3) heard

/-- A transaction; one that ends before its CRC byte is no request. Its answer alone is still heard from then on. -/
def Dev.spiIn (d : Dev) (m : Memory) (bs : List Byte) : Dev :=
  let cmd := (bs.getD 0 0).toNat
  let n := spiLength cmd (bs.getD 4 0).toNat
  let unheard (w : SpiWait) : SpiWait := { w with heard := false }
  if !d.serves then d
  else
    let d : Dev := { d with net := { d.net with spiWait := d.net.spiWait.map unheard } }
    if bs.length ≤ n then d
    else if d.beforeFuses then (d.ret stSTATE).spiAnswer stSTATE (cmd == 1 || cmd == 3) []
    else if crc8 (bs.take n) != (bs.getD n 0).toNat then
      let d := ((d.rise Reg.REGST.LEAVES 4 uREG).count Reg.REGST.SPI_CRC_COUNT 32 1).raise 227 0
      (d.ret stCRC_ERROR).spiAnswer stCRC_ERROR false []
    else if d.portBusy then { d with net := { d.net with spiQueue := d.net.spiQueue ++ [bs] } }
    else d.spiExec m bs true

/-! The fabric's port after an arm's sample (spec R38, R256). -/

/-- Service SPI requests that waited, in order, until one waits again; the last of them alone is still heard. -/
def Dev.spiDrain (m : Memory) : List (List Byte) → Dev → Dev
  | [], d => d
  | bs :: rest, d =>
    if d.portBusy then { d with net := { d.net with spiQueue := d.net.spiQueue ++ (bs :: rest) } }
    else Dev.spiDrain m rest (d.spiExec m bs rest.isEmpty)

/-- The service SPI first: the access that has completed, then the requests that came meanwhile. -/
def Dev.spiResume (d : Dev) (m : Memory) : Dev :=
  let d := match d.net.spiWait with
    | some w =>
      match w.result with
      | some st => Dev.spiDone { d with net := { d.net with spiWait := none } } st false w.heard
      | none => d
    | none => d
  if d.portBusy then d else Dev.spiDrain m d.net.spiQueue { d with net := { d.net with spiQueue := [] } }

/-- IOP next: the rest of the request whose access has completed, then the requests that came meanwhile. -/
def Dev.iopResume (d : Dev) (m : Memory) : Dev :=
  if d.portBusy then d
  else
    let d := match d.net.wait with
      | some w =>
        match w.result with
        | some st =>
          Dev.iopItemsRun { d with net := { d.net with wait := none } } m w.udp w.ports w.count (w.body ++ [BitVec.ofNat 8 st]) w.left
        | none => d
      | none => d
    d.net.queue.foldl (fun d (q : Udp × List Nat) =>
      if d.net.wait.isSome then { d with net := { d.net with queue := d.net.queue ++ [q] } } else d.iopAnswer m q.1 q.2)
      { d with net := { d.net with queue := [] } }

/-- What the end of a waiting access sets going. -/
def Dev.portResume (d : Dev) (m : Memory) : Dev :=
  if d.portBusy || (d.net.wait.isNone && d.net.spiWait.isNone) then d else (d.spiResume m).iopResume m

end Sys2Proof.Machine
end

