-- ==== Sys2Proof/Machine/Commands.lean ====
section
/-!
DEFINITION. What the commands say over the units' operations: writes of whole numbers, acknowledges, and the ends that an
engine reports.
-/
namespace Sys2Proof.Machine

/-- A register access that writes a number of `n` bytes at a sub-entry. -/
def Dev.writeAt (d : Dev) (m : Memory) (k : Nat) (n v : Nat) (x : Meet) : Dev :=
  d.write m (k / 256) (k % 256) (leBytes n v) x

/-- The ACK sub-entry of a leaf object and its size in bytes (spec R44, R103, R112, R133, R161, R209, R226, R233, R242, R272,
R273, R296, R297, R337, R355, R356, R374, R388, R416, R441). -/
def leafAckOf : LeafReg → Nat × Nat
  | .regStatus => (0x200602, 1)
  | .station => (0x200B1F, 1)
  | .timeBase => (Reg.TB.ACK, 2)
  | .compare tc => (0x211009 + 256 * tc.val, 1)
  | .linkCmd => (0x221202, 2)
  | .port p => (0x23000B + 256 * p.val, 2)
  | .meas => (0x240002, 2)
  | .comparator k => (0x242007 + 256 * k.val, 1)
  | .gau u => (0x24810A + 256 * u.val, 1)
  | .armGlobal => (0x250002, 1)
  | .arm n => (0x26001F + 256 * n.val, 2)
  | .stack => (0x270002, 1)
  | .lane n => (0x280002 + 256 * n.val, 2)
  | .kiln => (Reg.KILN.ACK, 2)
  | .pwmGlobal => (0x2A0002, 1)
  | .pwm n => (0x2A1012 + 256 * n.val, 1)
  | .damper => (0x2B0002, 1)
  | .twin => (0x2C000F, 2)
  | .acq => (Reg.ACQ.ACK, 1)
  | .maint => (0x2E0002, 1)

/-- LEAF_ACK (spec R43): `again` are the leaves whose event arrives at the same instant. -/
def Dev.ackLeaf (d : Dev) (m : Memory) (leaf : LeafReg) (mask again : Nat) : Dev :=
  d.writeAt m (leafAckOf leaf).1 (leafAckOf leaf).2 mask { again := again }

/-- What happens on the link happens while frames run. -/
def Dev.framed (d : Dev) (f : Dev → Dev) : Dev := if d.frame.run then f d else d

/-- SERVO_MEASUREMENT: the servo uses the offset measurement that waits (spec R114). -/
def Dev.servoNow (d : Dev) : Dev :=
  match d.time.measure with
  | some mm => Dev.servo { d with time := { d.time with measure := none } } mm
  | none => d

/-- CAL_DONE: the end of a calibration closes the activity that started it (spec R225, R383). -/
def Dev.calEnd (d : Dev) (cv : Nat) (ok : Bool) : Dev :=
  if d.calibrating cv then (d.calDone cv ok).maReported maADC_CAL cv ok 0 else d

/-- SPARE_LOAD_DONE: the end of a spare-in closes the activity that started it (spec R300, R383). -/
def Dev.spareEnd (d : Dev) (ok : Bool) : Dev :=
  if d.get Reg.SPARE.SPARE_STATE == 1 then
    let d' := d.spareLoaded ok
    (d'.maReported maLANE_SPARE (d.spare.arm - 1) ok (d'.get Reg.SPARE.SPARE_STATE)).maintSpares
  else d

/-- TRIGGER_RESOLVE: once the SI of the earliest condition has passed, the trigger is known (spec R335, R432). -/
def Dev.resolveTrigger (d : Dev) : Dev :=
  match triggerOf d.acq.conds with
  | some (si, word, tt) =>
    if d.acq.engineOpen && decide ((si + 1) * 1000 ≤ d.tt) then (d.trigger si word tt).traceTrigger else d
  | none => d

end Sys2Proof.Machine
end

