-- ==== Sys2Proof/Machine/CmdAcq.lean ====
section
/-!
DEFINITION. Acquisition, the trigger engine, ash and event counters (spec R419–R447).
-/
namespace Sys2Proof.Machine

/-- A write to ARM admits a record, or refuses it, and takes a segment (spec R423). -/
def execAcqArm (dt : Nat) (v : Byte) (s : State) :
    Host.Outcome State Fault Refusal :=
  s.nextMem dt (fun m d => d.writeAt m Reg.ACQ.ARM 1 v.toNat {})

/-- A write to ABORT aborts a record, or is ignored as late after end TT (spec R426). -/
def execAcqAbort (dt : Nat) (v : Byte) (s : State) :
    Host.Outcome State Fault Refusal :=
  s.nextMem dt (fun m d => d.writeAt m Reg.ACQ.ABORT 1 v.toNat {})

/-- PRE_TIME elapses and the record goes from FILLING to ARMED (spec R426). -/
def execAcqPretimeElapsed (dt : Nat) (s : State) :
    Host.Outcome State Fault Refusal :=
  s.next dt (fun d => d.acqPretime)

/-- All entries up to end TT are written and the record is DONE (spec R426). -/
def execAcqRecordDone (dt : Nat) (s : State) :
    Host.Outcome State Fault Refusal :=
  s.next dt (fun d => d.recordDone)

/-- A write to RELEASE empties a DONE or ABORTED segment (spec R425). -/
def execSegmentRelease (dt : Nat) (seg : Fin 16) (v : Byte) (s : State) :
    Host.Outcome State Fault Refusal :=
  s.nextMem dt (fun m d => d.writeAt m (Reg.SEG.RELEASE seg.val) 1 v.toNat {})

/-- A filtered TRIG_IN edge is a trigger condition (spec R431). -/
def execTrigInEdge (dt : Nat) (pin : Fin 2) (rising : Bool) (s : State) :
    Host.Outcome State Fault Refusal :=
  s.next dt (fun d => d.trigIn pin.val rising)

/-- A falling XTRIG edge not caused by the device is a trigger condition (spec R433). -/
def execXtrigEdge (dt : Nat) (s : State) :
    Host.Outcome State Fault Refusal :=
  s.next dt (fun d => d.xFall)

/-- XTRIG held low beyond XTRIG_STUCK sets the leaf and raises F254 (spec R433). -/
def execXtrigStuck (dt : Nat) (s : State) :
    Host.Outcome State Fault Refusal :=
  s.next dt (fun d => d.xStuck)

/-- The shared XTRIG line rises again, which clears live leaf XTRIG_STUCK and re-admits XTRIG conditions once it has been high for 1,000 ns (spec R433). -/
def execXtrigReleased (dt : Nat) (s : State) :
    Host.Outcome State Fault Refusal :=
  s.next dt (fun d => d.xRise)

/-- XTRIG_WIDTH elapses and the device releases XTRIG (spec R432). -/
def execXtrigDriveEnd (dt : Nat) (s : State) :
    Host.Outcome State Fault Refusal :=
  s.next dt (fun d => d.xDriveEnd)

/-- A write to FORCE is a trigger condition while the engine is open (spec R442). -/
def execTriggerForce (dt : Nat) (v : Byte) (s : State) :
    Host.Outcome State Fault Refusal :=
  s.nextMem dt (fun m d => d.writeAt m Reg.TRIG.FORCE 1 v.toNat {})

/-- The trigger point is resolved and delivered to every consumer, with TRIG_OUT and XTRIG driven (spec R432). -/
def execTriggerResolve (dt : Nat) (s : State) :
    Host.Outcome State Fault Refusal :=
  s.next dt (fun d => d.ashRows.resolveTrigger)

/-- A write to ASH_ARM starts ash from the next SI (spec R437). -/
def execAshArm (dt : Nat) (v : Byte) (s : State) :
    Host.Outcome State Fault Refusal :=
  s.nextMem dt (fun m d => d.writeAt m Reg.ASH.ASH_ARM 1 v.toNat {})

/-- A write to ASH_STOP stops ash and records its rows (spec R437). -/
def execAshStop (dt : Nat) (v : Byte) (s : State) :
    Host.Outcome State Fault Refusal :=
  s.nextMem dt (fun m d => d.writeAt m Reg.ASH.ASH_STOP 1 v.toNat {})

/-- After POST rows past a trigger, ash stops (spec R437). -/
def execAshPostDone (dt : Nat) (s : State) :
    Host.Outcome State Fault Refusal :=
  s.next dt (fun d => d.ashRows.ashPostDone)

/-- A snapshot copies all event counters at one tick (spec R439). -/
def execEcSnap (dt : Nat) (v : Byte) (s : State) :
    Host.Outcome State Fault Refusal :=
  s.nextMem dt (fun m d => d.writeAt m Reg.EC.SNAP 1 v.toNat {})

end Sys2Proof.Machine
end

