-- ==== Sys2Proof/Machine/CmdArm.lean ====
section
/-!
DEFINITION. Arm control and the stack (spec R244–R301).
-/
namespace Sys2Proof.Machine

/-- An arm loop processes one sample: error, feed-forward, feedback step and selection requests (spec R248). -/
def execArmSample (dt : Nat) (arm : Arm) (s : State) :
    Host.Outcome State Fault Refusal :=
  s.nextMem dt (fun m d => ((d.armSample arm.val).takeArm arm.val).portResume m)

/-- The lane answers a selection request with one cell and its command, or none (spec R285). -/
def execLaneSelection (dt : Nat) (arm : Arm) (s : State) :
    Host.Outcome State Fault Refusal :=
  s.next dt (fun d => d.selectOne arm.val)

/-- ARM_CMD OPEN moves a CLOSED or HOLD arm to OPEN (spec R256). -/
def execArmOpen (dt : Nat) (arm : Arm) (s : State) :
    Host.Outcome State Fault Refusal :=
  s.nextMem dt (fun m d => d.writeAt m (Reg.ARM.ARM_CMD arm.val) 1 1 {})

/-- ARM_CMD CLOSE moves an OPEN arm to CLOSED (spec R256). -/
def execArmClose (dt : Nat) (arm : Arm) (s : State) :
    Host.Outcome State Fault Refusal :=
  s.nextMem dt (fun m d => d.writeAt m (Reg.ARM.ARM_CMD arm.val) 1 2 {})

/-- ARM_CMD HOLD freezes the arm's count (spec R256). -/
def execArmHold (dt : Nat) (arm : Arm) (s : State) :
    Host.Outcome State Fault Refusal :=
  s.nextMem dt (fun m d => d.writeAt m (Reg.ARM.ARM_CMD arm.val) 1 3 {})

/-- ARM_CMD BLOCK blocks the arm with BLOCK to group 0 on its ports (spec R256). -/
def execArmBlock (dt : Nat) (arm : Arm) (s : State) :
    Host.Outcome State Fault Refusal :=
  s.nextMem dt (fun m d => d.writeAt m (Reg.ARM.ARM_CMD arm.val) 1 4 {})

/-- ARM_CMD DEBLOCK takes a BLOCKED arm to OPEN with a deblock burst (spec R256). -/
def execArmDeblock (dt : Nat) (arm : Arm) (s : State) :
    Host.Outcome State Fault Refusal :=
  s.nextMem dt (fun m d => d.writeAt m (Reg.ARM.ARM_CMD arm.val) 1 5 {})

/-- T_OPEN_MAX in OPEN elapses and the arm goes to HOLD with F120 (spec R259). -/
def execArmWatchdogExpiry (dt : Nat) (arm : Arm) (s : State) :
    Host.Outcome State Fault Refusal :=
  s.next dt (fun d => d.armWatchdog arm.val)

/-- The new ranking built since B(n) replaces the old one for every cell at once (spec R279). -/
def execRankingSwitch (dt : Nat) (arm : Arm) (s : State) :
    Host.Outcome State Fault Refusal :=
  s.next dt (fun d => d.rankingSwitch arm.val)

/-- RETIRE 1 makes a cell RETIRED and bypassed (spec R290). -/
def execCellRetire (dt : Nat) (slot : Slot) (s : State) :
    Host.Outcome State Fault Refusal :=
  s.nextMem dt (fun m d => d.writeAt m (Reg.CELL.RETIRE slot.val) 1 1 {})

/-- RETIRE 2 releases a RETIRED cell to ABSENT with DEADMIT (spec R290). -/
def execCellRelease (dt : Nat) (slot : Slot) (s : State) :
    Host.Outcome State Fault Refusal :=
  s.nextMem dt (fun m d => d.writeAt m (Reg.CELL.RETIRE slot.val) 1 2 {})

/-- A GROUPS write sends GROUP_SET commands for changed places (spec R295). -/
def execGroupsWrite (dt : Nat) (slot : Slot) (v : BitVec 64) (s : State) :
    Host.Outcome State Fault Refusal :=
  s.nextMem dt (fun m d => d.writeAt m (Reg.CELL.GROUPS slot.val) 8 v.toNat {})

/-- Each lane is checked against the cell table at least every 1,000 µs, and a mismatch raises F153 (spec R299). -/
def execLaneAudit (dt : Nat) (lane : Fin 7) (agree : Bool) (s : State) :
    Host.Outcome State Fault Refusal :=
  s.next dt (fun d => if d.live then (d.laneAudit lane.val agree).maintSpares else d)

/-- A write to SPARE_IN starts loading spare lane L6 for an arm (spec R300). -/
def execSpareIn (dt : Nat) (v : Byte) (s : State) :
    Host.Outcome State Fault Refusal :=
  s.nextMem dt (fun m d => d.writeAt m Reg.SPARE.SPARE_IN 1 v.toNat {})

/-- The spare lane finishes building and checking and takes the arm, or fails with F155 (spec R300). -/
def execSpareLoadDone (dt : Nat) (ok : Bool) (s : State) :
    Host.Outcome State Fault Refusal :=
  s.next dt (fun d => d.spareEnd ok)

end Sys2Proof.Machine
end

