-- ==== Sys2Proof/WellFormed.lean ====
section
/-!
DEFINITION. Which commands are well formed: the bounds that the types of their operands do not say.
-/
namespace Sys2Proof

/-- The reserve has 1,024 spare rows; more rows than that are no repair map's (spec R81). -/
def rowsOk (rows : Nat) : Bool := decide (rows ≤ 1024)

/-- 0 no uncorrectable MRAM error, 1 one inside an image slot, 2 one outside them (spec R82). -/
def mramOk (bad : Nat) : Bool := decide (bad ≤ 2)

/-- Tests 2 and 3 belong to the memory phase; failed lanes and cores are named exactly where tests 5 and 6 fail (spec R82). -/
def testsOk (fail : BitVec 12) (lanes : BitVec 7) (cores : BitVec 18) : Bool :=
  !fail.getLsbD 2 && !fail.getLsbD 3 && (lanes != 0) == fail.getLsbD 5 && (cores != 0) == fail.getLsbD 6

/-- The datagram of an IOP command carries its TYPE; one whose TYPE is none of the five comes as any of them (spec R60, R63). -/
def iopOk (ty : Nat) (u : Udp) : Bool :=
  match u.payload[1]? with
  | some b => b.toNat == ty || !(decide (1 ≤ b.toNat) && decide (b.toNat ≤ 5))
  | none => true

/-- The transaction of a service SPI command carries its CMD (spec R67); no command carries another CMD byte (log 111). -/
def spiOk (cmd : Nat) (bytes : List Byte) : Bool :=
  match bytes with
  | b :: _ => b.toNat == cmd
  | [] => false

/-- An EMBER frame carries 384 bytes (spec R396). -/
def emberOk (bytes : List Byte) : Bool := decide (bytes.length = 384)

/-- The test space (spec R39). -/
def testIdxOk (idx : BitVec 16) : Bool := decide (0x2F00 ≤ idx.toNat) && decide (idx.toNat ≤ 0x2FFF)

/-- The commands that are well formed. -/
def Instr.wf : Instr → Bool
  | .poresetAssert _ _ => true
  | .poresetRelease _ _ => true
  | .vddCoreLow _ _ => true
  | .vddCoreRecovered _ _ => true
  | .clocksPhaseDone _ => true
  | .fusePhaseDone _ _ rows => rowsOk rows
  | .memoryPhaseDone _ _ _ mramBad => mramOk mramBad
  | .selfTestDone _ fail lanes cores => testsOk fail lanes cores
  | .imagePhaseDone _ _ => true
  | .networkBootTimeout _ => true
  | .twinStartWindowEnd _ => true
  | .deblock _ => true
  | .block _ => true
  | .swap _ => true
  | .reset _ => true
  | .reload _ => true
  | .frameBoundary _ => true
  | .stnInChange _ _ _ => true
  | .closeArm _ _ => true
  | .closePulseEnd _ _ => true
  | .leafAck _ _ _ _ => true
  | .registerWrite _ _ _ _ _ => true
  | .testSpaceWrite _ idx _ _ => testIdxOk idx
  | .lockSet _ _ => true
  | .commitMapWrite _ _ _ => true
  | .summaryRead _ _ => true
  | .commitStrobe _ _ => true
  | .commitInEdge _ _ => true
  | .commitTimeArm _ _ => true
  | .commitTimeFire _ => true
  | .iopRead _ u => iopOk 1 u
  | .iopWrite _ u => iopOk 2 u
  | .iopReadBlock _ u => iopOk 3 u
  | .iopWriteBlock _ u => iopOk 4 u
  | .iopCommit _ u => iopOk 5 u
  | .dupCacheExpiry _ => true
  | .notify _ _ => true
  | .spiRead _ bytes => spiOk 1 bytes
  | .spiWrite _ bytes => spiOk 2 bytes
  | .spiReadBlock _ bytes => spiOk 3 bytes
  | .spiWriteBlock _ bytes => spiOk 4 bytes
  | .netLinkChange _ _ _ => true
  | .prpSupervision _ => true
  | .netServiceRequest _ _ _ => true
  | .imageWindowWrite _ _ _ => true
  | .imageVerify _ _ => true
  | .imageVerifyDone _ => true
  | .imageErase _ _ => true
  | .rateWrite _ _ _ => true
  | .timeLatch _ _ => true
  | .stToTtConvert _ _ => true
  | .servoMeasurement _ => true
  | .servoSourceLost _ => true
  | .ptpSync _ _ _ _ => true
  | .ptpFollowUp _ _ _ => true
  | .ptpAnnounce _ _ _ => true
  | .ptpAnnounceTimeout _ _ _ => true
  | .ptpPdelayReq _ _ => true
  | .ptpPdelayResp _ _ _ _ => true
  | .pdelayInterval _ _ => true
  | .ppsInEdge _ _ => true
  | .ppsMissing _ => true
  | .ppsOutRise _ => true
  | .ppsOutFall _ => true
  | .compareArm _ _ _ => true
  | .compareDisarm _ _ _ => true
  | .farCompareScan _ => true
  | .compareFire _ _ => true
  | .trigOutPulseEnd _ _ => true
  | .ttXcheck _ _ => true
  | .pllUnlock _ => true
  | .refclkLoss _ => true
  | .downlinkSlot _ _ => true
  | .sodReceive _ _ _ _ _ => true
  | .sodSlotMissed _ _ _ _ => true
  | .announceReceive _ _ _ => true
  | .tinderCollision _ _ _ => true
  | .rangingWindowEnd _ _ _ => true
  | .admitTimeout _ _ => true
  | .absentAfterExpiry _ _ => true
  | .unexpectedBurst _ _ => true
  | .mgmtResponseReceive _ _ _ _ => true
  | .mgmtResponseTimeout _ _ _ => true
  | .cellMgmtStart _ _ => true
  | .strangerIdentify _ _ _ => true
  | .strangerClear _ _ _ => true
  | .turfSerialWrite _ _ _ => true
  | .modeChangeStart _ _ => true
  | .modeChangeAbort _ _ => true
  | .modeChangeDecision _ => true
  | .modeForceTimeout _ => true
  | .modeChangeCommit _ => true
  | .conversionStart _ _ => true
  | .conversionDone _ _ _ _ _ _ => true
  | .urgentWrite _ _ _ => true
  | .calRequest _ _ _ => true
  | .calAll _ _ => true
  | .calDone _ _ _ => true
  | .vrefFault _ => true
  | .ocCrossing _ _ _ => true
  | .ocRelease _ _ => true
  | .ocReadback _ _ _ _ => true
  | .gauEdge _ _ _ => true
  | .gauStandstill _ _ => true
  | .gauConversion _ _ _ _ => true
  | .angleCompareArm _ _ _ => true
  | .angleCompareDisarm _ _ _ => true
  | .angleCompareFire _ _ => true
  | .flueDatFrame _ => true
  | .armSample _ _ => true
  | .laneSelection _ _ => true
  | .armOpen _ _ => true
  | .armClose _ _ => true
  | .armHold _ _ => true
  | .armBlock _ _ => true
  | .armDeblock _ _ => true
  | .armWatchdogExpiry _ _ => true
  | .rankingSwitch _ _ => true
  | .cellRetire _ _ => true
  | .cellRelease _ _ => true
  | .groupsWrite _ _ _ => true
  | .laneAudit _ _ _ => true
  | .spareIn _ _ => true
  | .spareLoadDone _ _ => true
  | .kilnGrant _ _ => true
  | .nodeComplete _ _ _ => true
  | .rgDeadline _ _ => true
  | .nodeCancel _ _ _ => true
  | .gateOpen _ _ => true
  | .gateClose _ _ => true
  | .graphCheck _ _ => true
  | .graphCheckDone _ => true
  | .debugHalt _ => true
  | .debugResume _ => true
  | .statClear _ _ => true
  | .traceRestart _ _ => true
  | .statsWindowEnd _ => true
  | .pwmPeriodStart _ _ => true
  | .pwmCompareEvent _ _ => true
  | .deadTimeExpiry _ _ _ => true
  | .pwmTrip _ _ _ => true
  | .pwmCompareWrite _ _ _ => true
  | .pwmCompareArrival _ _ => true
  | .pwmClear _ _ _ => true
  | .damperEvent _ => true
  | .damperWindowEnd _ _ => true
  | .faultForce _ _ _ => true
  | .faultClear _ _ _ => true
  | .faultClearAll _ _ => true
  | .coreStall _ _ => true
  | .invalidDualRail _ => true
  | .parityError _ => true
  | .memoryReadError _ _ _ => true
  | .scrubPass _ => true
  | .maintStart _ _ _ => true
  | .maintAbort _ _ _ _ => true
  | .maintActivityDone _ _ _ _ => true
  | .maintAutoStart _ => true
  | .proofDue _ => true
  | .heartbeatSend _ => true
  | .heartbeatReceive _ _ _ => true
  | .emberFrameReceive _ _ _ _ bytes _ => emberOk bytes
  | .statusFrameReceive _ _ _ => true
  | .hbInEdge _ => true
  | .twinPathLost _ _ => true
  | .actInToggle _ => true
  | .actInQuiet _ => true
  | .coreWakeDone _ _ => true
  | .emberLoadDone _ => true
  | .takeoverResume _ => true
  | .leaseExpiry _ => true
  | .identityAnnounce _ => true
  | .emberStreamDone _ => true
  | .slowCopy _ => true
  | .acqArm _ _ => true
  | .acqAbort _ _ => true
  | .acqPretimeElapsed _ => true
  | .acqRecordDone _ => true
  | .segmentRelease _ _ _ => true
  | .trigInEdge _ _ _ => true
  | .xtrigEdge _ => true
  | .xtrigStuck _ => true
  | .xtrigDriveEnd _ => true
  | .triggerForce _ _ => true
  | .triggerResolve _ => true
  | .ashArm _ _ => true
  | .ashStop _ _ => true
  | .ashPostDone _ => true
  | .ecSnap _ _ => true
  | .pllRelock _ => true
  | .vrefRestored _ => true
  | .xtrigReleased _ => true

end Sys2Proof
end

