-- ==== Sys2Proof/Machine/CmdFabric.lean ====
section
/-!
DEFINITION. Accesses, commit strobes, IOP, the service SPI, the field network and image delivery (spec R29–R74, R93, R94).
-/
namespace Sys2Proof.Machine

/-- A write of 1 to a leaf ACK bit clears that event leaf, unless an event of the same kind arrives at the same instant (spec R43). -/
def execLeafAck (dt : Nat) (leaf : LeafReg) (mask : BitVec 32) (again : BitVec 32) (s : State) :
    Host.Outcome State Fault Refusal :=
  s.nextMem dt (fun m d => d.ackLeaf m leaf mask.toNat again.toNat)

/-- A write to a sub-entry without its own row is judged and applied, or buffered, by its access type and commit column (spec R36). -/
def execRegisterWrite (dt : Nat) (idx : BitVec 16) (sub : Byte) (data : List Byte) (coincide : Bool) (s : State) :
    Host.Outcome State Fault Refusal :=
  s.nextMem dt (fun m d => d.write m idx.toNat sub.toNat data { coincide := coincide })

/-- A write into 0x2F00–0x2FFF is executed or refused according to the device state, with F225 in RUNNING and TAKEOVER (spec R39). -/
def execTestSpaceWrite (dt : Nat) (idx : BitVec 16) (sub : Byte) (data : List Byte) (s : State) :
    Host.Outcome State Fault Refusal :=
  if testIdxOk idx then s.nextMem dt (fun m d => d.write m idx.toNat sub.toNat data {})
  else .fault .illFormed

/-- Setting a lock bit discards the pending buffered writes of its domain (spec R42). -/
def execLockSet (dt : Nat) (v : Byte) (s : State) :
    Host.Outcome State Fault Refusal :=
  s.nextMem dt (fun m d => d.writeAt m Reg.LOCK.LOCK 1 v.toNat {})

/-- A write to COMMIT_MAP reassigns a domain to a group, or returns BUSY with MAP_BUSY while a group is pending (spec R47). -/
def execCommitMapWrite (dt : Nat) (dom : Fin 10) (v : Byte) (s : State) :
    Host.Outcome State Fault Refusal :=
  s.nextMem dt (fun m d => d.writeAt m (Reg.CMAP.GROUP dom.val) 1 v.toNat {})

/-- A read of 0x2004 or 0x1001 returns and clears the latched summary bits and can release IRQ_N (spec R55). -/
def execSummaryRead (dt : Nat) (device : Bool) (s : State) :
    Host.Outcome State Fault Refusal :=
  s.next dt (fun d => if device then d.read 0x1001 0 else d.read 0x2004 0)

/-- A software write to STROBE applies the selected groups from apply index K (spec R50). -/
def execCommitStrobe (dt : Nat) (mask : Byte) (s : State) :
    Host.Outcome State Fault Refusal :=
  s.nextMem dt (fun m d => d.writeAt m Reg.COMMIT.STROBE 1 mask.toNat {})

/-- A selected COMMIT_IN edge strobes the groups in SRC_PIN (spec R49). -/
def execCommitInEdge (dt : Nat) (rising : Bool) (s : State) :
    Host.Outcome State Fault Refusal :=
  s.nextMem dt (fun m d => d.commitIn m rising)

/-- A write to TIME_ARM arms the commit time compare for one firing (spec R48). -/
def execCommitTimeArm (dt : Nat) (v : Byte) (s : State) :
    Host.Outcome State Fault Refusal :=
  s.nextMem dt (fun m d => d.writeAt m Reg.COMMIT.TIME_ARM 1 v.toNat {})

/-- The commit time compare fires and strobes the groups in SRC_TIME, setting COMMIT_LATE if it fires late (spec R49). -/
def execCommitTimeFire (dt : Nat) (s : State) :
    Host.Outcome State Fault Refusal :=
  s.nextMem dt (fun m d => d.timeFire m)

/-- An IOP READ request reads its items in order and is answered with their data and status (spec R63). -/
def execIopRead (dt : Nat) (u : Udp) (s : State) :
    Host.Outcome State Fault Refusal :=
  if iopOk 1 u then s.nextMem dt (fun m d => d.iopIn m u)
  else .fault .illFormed

/-- An IOP WRITE request executes its item writes in order and answers each with its status (spec R63). -/
def execIopWrite (dt : Nat) (u : Udp) (s : State) :
    Host.Outcome State Fault Refusal :=
  if iopOk 2 u then s.nextMem dt (fun m d => d.iopIn m u)
  else .fault .illFormed

/-- An IOP READ_BLOCK request reads a range of a DOMAIN sub-entry (spec R63). -/
def execIopReadBlock (dt : Nat) (u : Udp) (s : State) :
    Host.Outcome State Fault Refusal :=
  if iopOk 3 u then s.nextMem dt (fun m d => d.iopIn m u)
  else .fault .illFormed

/-- An IOP WRITE_BLOCK request writes a range of a DOMAIN sub-entry (spec R63). -/
def execIopWriteBlock (dt : Nat) (u : Udp) (s : State) :
    Host.Outcome State Fault Refusal :=
  if iopOk 4 u then s.nextMem dt (fun m d => d.iopIn m u)
  else .fault .illFormed

/-- An IOP COMMIT strobes the groups in its mask and returns the apply index K (spec R63). -/
def execIopCommit (dt : Nat) (u : Udp) (s : State) :
    Host.Outcome State Fault Refusal :=
  if iopOk 5 u then s.nextMem dt (fun m d => d.iopIn m u)
  else .fault .illFormed

/-- A kept request and its response expire after DUP_CACHE (spec R64). -/
def execDupCacheExpiry (dt : Nat) (s : State) :
    Host.Outcome State Fault Refusal :=
  s.next dt (fun d => d.dupExpire)

/-- A queued or merged NOTIFY is sent to a destination once its NOTIFY_GAP interval has ended (spec R58). -/
def execNotify (dt : Nat) (dest : Fin 2) (s : State) :
    Host.Outcome State Fault Refusal :=
  s.next dt (fun d => d.notifySend dest.val)

/-- A service SPI READ transaction reads one sub-entry (spec R67). -/
def execSpiRead (dt : Nat) (bytes : List Byte) (s : State) :
    Host.Outcome State Fault Refusal :=
  if spiOk 1 bytes then s.nextMem dt (fun m d => d.spiIn m bytes)
  else .fault .illFormed

/-- A service SPI WRITE transaction writes one sub-entry (spec R67). -/
def execSpiWrite (dt : Nat) (bytes : List Byte) (s : State) :
    Host.Outcome State Fault Refusal :=
  if spiOk 2 bytes then s.nextMem dt (fun m d => d.spiIn m bytes)
  else .fault .illFormed

/-- A service SPI READ_BLOCK transaction reads a range of a DOMAIN sub-entry (spec R67). -/
def execSpiReadBlock (dt : Nat) (bytes : List Byte) (s : State) :
    Host.Outcome State Fault Refusal :=
  if spiOk 3 bytes then s.nextMem dt (fun m d => d.spiIn m bytes)
  else .fault .illFormed

/-- A service SPI WRITE_BLOCK transaction writes a range of a DOMAIN sub-entry (spec R67). -/
def execSpiWriteBlock (dt : Nat) (bytes : List Byte) (s : State) :
    Host.Outcome State Fault Refusal :=
  if spiOk 4 bytes then s.nextMem dt (fun m d => d.spiIn m bytes)
  else .fault .illFormed

/-- A field-network port link goes up or down (spec R71). -/
def execNetLinkChange (dt : Nat) (net : Fin 2) (up : LinkWord) (s : State) :
    Host.Outcome State Fault Refusal :=
  s.next dt (fun d => d.netLink net.val up)

/-- The PRP life-check interval expires and a supervision frame is sent (spec R71). -/
def execPrpSupervision (dt : Nat) (s : State) :
    Host.Outcome State Fault Refusal :=
  s.next dt (fun d => d.supervision)

/-- An ARP, neighbour discovery or ICMP echo request is answered (spec R73). -/
def execNetServiceRequest (dt : Nat) (rx : NetRx) (req : NetReq) (s : State) :
    Host.Outcome State Fault Refusal :=
  s.next dt (fun d => d.netService rx req)

/-- A write to the image WINDOW writes the target slot and marks it WRITING (spec R94). -/
def execImageWindowWrite (dt : Nat) (off : BitVec 32) (data : List Byte) (s : State) :
    Host.Outcome State Fault Refusal :=
  s.nextMem dt (fun m d => d.blockWrite m 0x200A 1 off.toNat data true)

/-- A write to VERIFY starts a check of the target slot (spec R93). -/
def execImageVerify (dt : Nat) (v : Byte) (s : State) :
    Host.Outcome State Fault Refusal :=
  s.nextMem dt (fun m d => d.writeAt m Reg.IMAGE.VERIFY 1 v.toNat {})

/-- The slot check completes and stores the slot status; in network boot a VALID image is loaded at once (spec R92). -/
def execImageVerifyDone (dt : Nat) (s : State) :
    Host.Outcome State Fault Refusal :=
  s.nextMem dt (fun m d => d.verifyDone m)

/-- A write to ERASE clears MAGIC of the target slot (spec R93). -/
def execImageErase (dt : Nat) (v : Byte) (s : State) :
    Host.Outcome State Fault Refusal :=
  s.nextMem dt (fun m d => d.writeAt m Reg.IMAGE.ERASE 1 v.toNat {})

end Sys2Proof.Machine
end

