-- ==== Sys2Proof/Machine/CmdKiln.lean ====
section
/-!
DEFINITION. The kiln (spec R302–R340).
-/
namespace Sys2Proof.Machine

/-- The scheduler grants a ready node to a waiting core (spec R319). -/
def execKilnGrant (dt : Nat) (core : Fin 18) (s : State) :
    Host.Outcome State Fault Refusal :=
  s.next dt (fun d => d.kilnGrant core.val)

/-- A core completes a node, writing its outputs or handing it to a second DUP copy (spec R320). -/
def execNodeComplete (dt : Nat) (core : Fin 18) (same : Bool) (s : State) :
    Host.Outcome State Fault Refusal :=
  s.next dt (fun d => d.nodeComplete core.val same)

/-- A rate-group deadline passes with the period incomplete, which cancels nodes and raises overrun F160 + k (spec R318). -/
def execRgDeadline (dt : Nat) (rg : Fin 4) (s : State) :
    Host.Outcome State Fault Refusal :=
  s.next dt (fun d => d.rgDeadline rg.val)

/-- A write to CANCEL cancels a WAITING or READY node (spec R321). -/
def execNodeCancel (dt : Nat) (node : Fin 4096) (v : Byte) (s : State) :
    Host.Outcome State Fault Refusal :=
  s.nextMem dt (fun m d => d.writeAt m (Reg.NODE.CANCEL node.val) 1 v.toNat {})

/-- GATE_CMD OPEN opens a PI or PID gate from the node's next period (spec R324). -/
def execGateOpen (dt : Nat) (node : Fin 4096) (s : State) :
    Host.Outcome State Fault Refusal :=
  s.nextMem dt (fun m d => d.writeAt m (Reg.NODE.GATE_CMD node.val) 1 1 {})

/-- GATE_CMD CLOSE closes a gate with a bumpless re-initialization (spec R324). -/
def execGateClose (dt : Nat) (node : Fin 4096) (s : State) :
    Host.Outcome State Fault Refusal :=
  s.nextMem dt (fun m d => d.writeAt m (Reg.NODE.GATE_CMD node.val) 1 2 {})

/-- A write to CHECK starts checking the structural shadows (spec R329). -/
def execGraphCheck (dt : Nat) (v : Byte) (s : State) :
    Host.Outcome State Fault Refusal :=
  s.nextMem dt (fun m d => d.writeAt m Reg.KILN.CHECK 1 v.toNat {})

/-- The graph check ends PASSED or FAILED and sets CHECK_DONE (spec R329). -/
def execGraphCheckDone (dt : Nat) (s : State) :
    Host.Outcome State Fault Refusal :=
  s.next dt (fun d => d.graphCheckDone)

/-- A JTAG debug halt stops grants, periods and the PWM unit (spec R333). -/
def execDebugHalt (dt : Nat) (s : State) :
    Host.Outcome State Fault Refusal :=
  s.next dt (fun d => d.debugHalt)

/-- Resume abandons the interrupted periods and restarts the groups at their next boundary (spec R333). -/
def execDebugResume (dt : Nat) (s : State) :
    Host.Outcome State Fault Refusal :=
  s.next dt (fun d => d.debugResume)

/-- A write to STAT_CLEAR resets MAX_SPAN of every group (spec R337). -/
def execStatClear (dt : Nat) (v : Byte) (s : State) :
    Host.Outcome State Fault Refusal :=
  s.nextMem dt (fun m d => d.writeAt m Reg.KILN.STAT_CLEAR 1 v.toNat {})

/-- A write to RESTART resets the scheduling trace index and its flags (spec R335). -/
def execTraceRestart (dt : Nat) (v : Byte) (s : State) :
    Host.Outcome State Fault Refusal :=
  s.nextMem dt (fun m d => d.writeAt m Reg.TRACE.RESTART 1 v.toNat {})

/-- A statistics window ends and its TN1536-compatible values are published (spec R336). -/
def execStatsWindowEnd (dt : Nat) (s : State) :
    Host.Outcome State Fault Refusal :=
  s.next dt (fun d => d.statsWindow)

end Sys2Proof.Machine
end

