-- ==== Sys2Proof/Machine/CmdKindling.lean ====
section
/-!
DEFINITION. Reset, kindling, device states and station I/O (spec R76–R106).
-/
namespace Sys2Proof.Machine

/-- PORESET_N held low for 1 µs puts the device into RESET; in RUNNING it first sends BLOCK to group 0 on every enabled port (spec R76). -/
def execPoresetAssert (dt : Nat) (lowFor : Nat) (s : State) :
    Host.Outcome State Fault Refusal :=
  s.next dt (fun d => d.poresetAssert lowFor)

/-- The rising edge of PORESET_N samples the straps (bits 3 to 0) and TEST_EN (bit 4) and starts KINDLING (spec R76). -/
def execPoresetRelease (dt : Nat) (straps : BitVec 5) (s : State) :
    Host.Outcome State Fault Refusal :=
  s.next dt (fun d => d.poresetRelease straps.toNat)

/-- VDD_CORE below 0.70 V for more than 1 µs forces RESET in every state except BANKED (spec R77). -/
def execVddCoreLow (dt : Nat) (belowFor : Nat) (s : State) :
    Host.Outcome State Fault Refusal :=
  s.next dt (fun d => d.vddCoreLow belowFor)

/-- VDD_CORE back above 0.72 V for 100 µs starts kindling again and records the reset cause (spec R77). -/
def execVddCoreRecovered (dt : Nat) (aboveFor : Nat) (s : State) :
    Host.Outcome State Fault Refusal :=
  s.next dt (fun d => d.vddCoreRecovered aboveFor)

/-- PLL lock and SOSC start complete, which ends the clocks phase of kindling (spec R80). -/
def execClocksPhaseDone (dt : Nat) (s : State) :
    Host.Outcome State Fault Refusal :=
  s.next dt (fun d => d.clocksDone)

/-- The fuse read, its CRC check and the repair map complete; a CRC failure enters SAFE with F239 (spec R81). -/
def execFusePhaseDone (dt : Nat) (crcOk : Bool) (rows : Nat) (s : State) :
    Host.Outcome State Fault Refusal :=
  if rowsOk rows then s.nextMem dt (fun m d => d.fuseDone m crcOk rows)
  else .fault .illFormed

/-- The SRAM march test with repair and the MRAM scan complete; an exhausted repair reserve enters SAFE with F255 (spec R81). -/
def execMemoryPhaseDone (dt : Nat) (rows : Nat) (exhausted : Bool) (mramBad : Nat) (s : State) :
    Host.Outcome State Fault Refusal :=
  if mramOk mramBad then s.next dt (fun d => d.memoryDone rows exhausted mramBad)
  else .fault .illFormed

/-- The logic, analogue and link self-tests complete; failures are logged, absorbed by spares, or take the device to SAFE (spec R82). -/
def execSelfTestDone (dt : Nat) (fail : BitVec 12) (lanes : BitVec 7) (cores : BitVec 18) (s : State) :
    Host.Outcome State Fault Refusal :=
  if testsOk fail lanes cores then s.nextMem dt (fun m d => d.selfTestDone m fail.toNat lanes.toNat cores.toNat)
  else .fault .illFormed

/-- Image selection, verification and record application complete, followed by one strobe of CG0–CG7, the LOCKS write and the entry into CONFIGURED (spec R89). -/
def execImagePhaseDone (dt : Nat) (qspi : List Byte) (s : State) :
    Host.Outcome State Fault Refusal :=
  s.nextMem dt (fun m d => d.imagePhaseDone m qspi)

/-- 60,000 ms of network boot pass without an image, and the device falls back to the MRAM images (spec R87). -/
def execNetworkBootTimeout (dt : Nat) (s : State) :
    Host.Outcome State Fault Refusal :=
  s.nextMem dt (fun m d => d.netBootTimeout m)

/-- The 1 ms or 2 ms ACT_IN watch window of CONFIGURED ends, and the device goes to LINKS_UP or BANKED (spec R100). -/
def execTwinStartWindowEnd (dt : Nat) (s : State) :
    Host.Outcome State Fault Refusal :=
  s.next dt (fun d => d.windowEnd)

/-- DEV_CMD DEBLOCK is accepted in READY and takes effect at the next frame boundary if the READY conditions still hold (spec R99). -/
def execDeblock (dt : Nat) (s : State) :
    Host.Outcome State Fault Refusal :=
  s.nextMem dt (fun m d => d.writeAt m Reg.DEVCMD.DEV_CMD 1 0x10 {})

/-- DEV_CMD BLOCK blocks every arm with BLOCK to group 0 and returns the device to READY, or cancels a waiting deblock (spec R97). -/
def execBlock (dt : Nat) (s : State) :
    Host.Outcome State Fault Refusal :=
  s.nextMem dt (fun m d => d.writeAt m Reg.DEVCMD.DEV_CMD 1 0x11 {})

/-- DEV_CMD SWAP starts a planned handover to a BANKED partner whose heartbeat paths are both good (spec R414). -/
def execSwap (dt : Nat) (s : State) :
    Host.Outcome State Fault Refusal :=
  s.nextMem dt (fun m d => d.writeAt m Reg.DEVCMD.DEV_CMD 1 0x20 {})

/-- DEV_CMD RESET resets the device as PORESET_N does (spec R97). -/
def execReset (dt : Nat) (s : State) :
    Host.Outcome State Fault Refusal :=
  s.nextMem dt (fun m d => d.writeAt m Reg.DEVCMD.DEV_CMD 1 0x30 {})

/-- DEV_CMD RELOAD discards pending shadows, asserts TX_DIS and reruns the image phase while TT and the frame count continue (spec R89). -/
def execReload (dt : Nat) (s : State) :
    Host.Outcome State Fault Refusal :=
  s.nextMem dt (fun m d => d.writeAt m Reg.DEVCMD.DEV_CMD 1 0x40 {})

/-- At B(n) the device activates sinks, applies frame-boundary strobes, takes the RG0 snapshot, grants RG0 work and sends beacons (spec R16). -/
def execFrameBoundary (dt : Nat) (s : State) :
    Host.Outcome State Fault Refusal :=
  s.nextMem dt (fun m d => d.frameBoundary m)

/-- A station input level that has held for IN_FILTER becomes its filtered level (spec R103). -/
def execStnInChange (dt : Nat) (pin : Fin 8) (level : Bool) (s : State) :
    Host.Outcome State Fault Refusal :=
  s.next dt (fun d => d.stnChange pin.val level)

/-- A write to CLOSE_ARM arms one close pulse on the angle compare of GAU0 or GAU1 (spec R105). -/
def execCloseArm (dt : Nat) (v : Byte) (s : State) :
    Host.Outcome State Fault Refusal :=
  s.nextMem dt (fun m d => d.writeAt m Reg.STN.CLOSE_ARM 1 v.toNat {})

/-- CLOSE_WIDTH elapses and the CLOSE_PULSE output is released (spec R105). -/
def execClosePulseEnd (dt : Nat) (gau : Gau) (s : State) :
    Host.Outcome State Fault Refusal :=
  s.next dt (fun d => d.closeEnd gau.val)

end Sys2Proof.Machine
end

