-- ==== Sys2Proof/Machine/CmdLink.lean ====
section
/-!
DEFINITION. The Septef link: slots, uplink bursts, admission, cell management and profile changes (spec R135–R210).
-/
namespace Sys2Proof.Machine

/-- At each 18 ns slot boundary a port sends the highest-priority pending content: BLOCK, stack command, other command, beacon, management or idle (spec R139). -/
def execDownlinkSlot (dt : Nat) (port : Port) (s : State) :
    Host.Outcome State Fault Refusal :=
  s.next dt (fun d => d.framed (fun d => d.downlinkSlot port.val))

/-- A sod burst is received and decoded, then checked, used for the echo check, drift tracking and the lane update (spec R181). -/
def execSodReceive (dt : Nat) (port : Port) (addr : Fin 128) (burst : Burst) (los : Bool) (s : State) :
    Host.Outcome State Fault Refusal :=
  s.next dt (fun d => d.framed (fun d => d.sodReceive port.val addr.val burst los))

/-- An expected sod slot passes without a good sod; the miss is counted and can make the cell STALE (spec R289). -/
def execSodSlotMissed (dt : Nat) (port : Port) (addr : Fin 128) (los : Bool) (s : State) :
    Host.Outcome State Fault Refusal :=
  s.next dt (fun d => d.framed (fun d => d.sodMissed port.val addr.val los))

/-- A heard announce is matched against the turf and answered with ANNOUNCE_ACK QUEUED or QUIET (spec R154). -/
def execAnnounceReceive (dt : Nat) (port : Port) (burst : Burst) (s : State) :
    Host.Outcome State Fault Refusal :=
  s.next dt (fun d => d.framed (fun d => d.announceReceive port.val burst))

/-- Overlapping bursts or a lone bad burst in the tinder region count as one collision (spec R151). -/
def execTinderCollision (dt : Nat) (port : Port) (bursts : List Burst) (s : State) :
    Host.Outcome State Fault Refusal :=
  s.next dt (fun d => d.framed (fun d => d.collision port.val bursts))

/-- The ranging window closes and the ranging is judged a success or a failure (spec R147). -/
def execRangingWindowEnd (dt : Nat) (port : Port) (bursts : List Burst) (s : State) :
    Host.Outcome State Fault Refusal :=
  s.next dt (fun d => d.framed (fun d => d.rangingEnd port.val bursts))

/-- No sod with the admit echo arrives within 4 frames after ADMIT, so the admission counts as a ranging failure (spec R154). -/
def execAdmitTimeout (dt : Nat) (slot : Slot) (s : State) :
    Host.Outcome State Fault Refusal :=
  s.next dt (fun d => d.framed (fun d => d.admitTimeout slot.val))

/-- A slot STALE for ABSENT_AFTER frames goes ABSENT and is sent DEADMIT (spec R154). -/
def execAbsentAfterExpiry (dt : Nat) (slot : Slot) (s : State) :
    Host.Outcome State Fault Refusal :=
  s.next dt (fun d => d.framed (fun d => d.absentAfter slot.val))

/-- A burst in the idle part increments UNEXPECTED; one with a code violation is an error of its port as well (spec R163, R164). -/
def execUnexpectedBurst (dt : Nat) (burst : IdleBurst) (s : State) :
    Host.Outcome State Fault Refusal :=
  s.next dt (fun d => d.framed (fun d => d.idleBurst burst.port.val burst.codeOk))

/-- A management response arrives in its expected slot and completes the transaction (spec R196). -/
def execMgmtResponseReceive (dt : Nat) (port : Port) (rsp : Nat) (burst : Burst) (s : State) :
    Host.Outcome State Fault Refusal :=
  s.next dt (fun d => d.framed (fun d => d.mgmtReceive port.val rsp burst))

/-- The expected response slot passes without a good response, and the request is resent or the transaction ends (spec R196). -/
def execMgmtResponseTimeout (dt : Nat) (port : Port) (rsp : Nat) (s : State) :
    Host.Outcome State Fault Refusal :=
  s.next dt (fun d => d.framed (fun d => d.mgmtTimeout port.val rsp))

/-- A write to START of the mailbox starts a PARAM_READ or PARAM_WRITE transaction (spec R201). -/
def execCellMgmtStart (dt : Nat) (v : Byte) (s : State) :
    Host.Outcome State Fault Refusal :=
  s.nextMem dt (fun m d => d.writeAt m Reg.MBX.START 1 v.toNat {})

/-- A write to IDENTIFY sends IDENTIFY to a stranger by serial, repeated in the next 3 frames (spec R156). -/
def execStrangerIdentify (dt : Nat) (n : Fin 64) (v : Byte) (s : State) :
    Host.Outcome State Fault Refusal :=
  s.nextMem dt (fun m d => d.writeAt m (Reg.STRANGER.IDENTIFY n.val) 1 v.toNat {})

/-- A write to CLEAR empties a stranger-list entry (spec R156). -/
def execStrangerClear (dt : Nat) (n : Fin 64) (v : Byte) (s : State) :
    Host.Outcome State Fault Refusal :=
  s.nextMem dt (fun m d => d.writeAt m (Reg.STRANGER.CLEAR n.val) 1 v.toNat {})

/-- A turf SERIAL write is judged by the lock, the lease, the slot state and uniqueness (spec R157). -/
def execTurfSerialWrite (dt : Nat) (slot : Slot) (v : BitVec 64) (s : State) :
    Host.Outcome State Fault Refusal :=
  s.nextMem dt (fun m d => d.writeAt m (Reg.TURF.SERIAL slot.val) 8 v.toNat {})

/-- A write to START begins a profile change with PREPARE broadcasts (spec R203). -/
def execModeChangeStart (dt : Nat) (v : Byte) (s : State) :
    Host.Outcome State Fault Refusal :=
  s.nextMem dt (fun m d => d.writeAt m Reg.MODE.START 1 v.toNat {})

/-- A write to ABORT aborts a profile change with ABORT broadcasts and F054 (spec R205). -/
def execModeChangeAbort (dt : Nat) (v : Byte) (s : State) :
    Host.Outcome State Fault Refusal :=
  s.nextMem dt (fun m d => d.writeAt m Reg.MODE.ABORT 1 v.toNat {})

/-- At full acknowledgement or at B(p + PREP_FRAMES) the change goes to COMMITTING or FORCING, or aborts (spec R203). -/
def execModeChangeDecision (dt : Nat) (s : State) :
    Host.Outcome State Fault Refusal :=
  s.next dt (fun d => d.framed (fun d => d.modeDecide))

/-- FORCING has not ended by B(m − 4), so the change aborts (spec R203). -/
def execModeForceTimeout (dt : Nat) (s : State) :
    Host.Outcome State Fault Refusal :=
  s.next dt (fun d => d.framed (fun d => d.modeForceTimeout))

/-- At B(m) PROFILE_ARMn takes the new profile and the change is DONE (spec R203). -/
def execModeChangeCommit (dt : Nat) (s : State) :
    Host.Outcome State Fault Refusal :=
  s.next dt (fun d => d.framed (fun d => d.modeCommit))

end Sys2Proof.Machine
end

