-- ==== Sys2Proof/Machine/CmdMeas.lean ====
section
/-!
DEFINITION. Converters, comparators, grid angle units and Flue (spec R211–R243).
-/
namespace Sys2Proof.Machine

/-- A converter strobe or start source begins a conversion, or queues or drops the start (spec R215). -/
def execConversionStart (dt : Nat) (cv : Cv) (s : State) :
    Host.Outcome State Fault Refusal :=
  s.next dt (fun d => d.convStart cv.val)

/-- A conversion ends and produces its result word for all consumers, the snapshot of the frame among them (spec R17, R218). -/
def execConversionDone (dt : Nat) (cv : Cv) (raw : BitVec 16) (satHi satLo ok : Bool) (s : State) :
    Host.Outcome State Fault Refusal :=
  s.next dt (fun d => (d.ashRows.convDone cv.val raw.toNat satHi satLo ok).lateTaps)

/-- A write to URGENT requests an urgent conversion on a single converter (spec R217). -/
def execUrgentWrite (dt : Nat) (cv : Cv) (v : Byte) (s : State) :
    Host.Outcome State Fault Refusal :=
  s.nextMem dt (fun m d => d.writeAt m (Reg.CV.URGENT cv.val) 1 v.toNat {})

/-- A write to CAL requests calibration of a converter, judged against pair or redundancy conditions (spec R223). -/
def execCalRequest (dt : Nat) (cv : Cv) (v : Byte) (s : State) :
    Host.Outcome State Fault Refusal :=
  s.nextMem dt (fun m d => d.writeAt m (Reg.CV.CAL cv.val) 1 v.toNat {})

/-- A write to CAL_ALL calibrates all 18 converters together (spec R224). -/
def execCalAll (dt : Nat) (v : Byte) (s : State) :
    Host.Outcome State Fault Refusal :=
  s.nextMem dt (fun m d => d.writeAt m Reg.MEAS.CAL_ALL 1 v.toNat {})

/-- A calibration ends and the converter resumes with one SETTLING word (spec R225). -/
def execCalDone (dt : Nat) (cv : Cv) (ok : Bool) (s : State) :
    Host.Outcome State Fault Refusal :=
  s.next dt (fun d => d.calEnd cv.val ok)

/-- VREF beyond ±1 % invalidates every conversion and raises F095 (spec R228). -/
def execVrefFault (dt : Nat) (s : State) :
    Host.Outcome State Fault Refusal :=
  s.next dt (fun d => d.vref true)

/-- VREF returns within ±1 % of nominal, so the converters give VALID words again and live leaf VREF clears (spec R228). -/
def execVrefRestored (dt : Nat) (s : State) :
    Host.Outcome State Fault Refusal :=
  s.next dt (fun d => d.vref false)

/-- A protection comparator crosses its threshold, sets its leaves and raises F080 + k (spec R231). -/
def execOcCrossing (dt : Nat) (oc : Oc) (above : Bool) (s : State) :
    Host.Outcome State Fault Refusal :=
  s.next dt (fun d => d.ocCross oc.val above)

/-- The input returns inside the window by HYST and ABOVE or BELOW clears (spec R231). -/
def execOcRelease (dt : Nat) (oc : Oc) (s : State) :
    Host.Outcome State Fault Refusal :=
  s.next dt (fun d => d.ocRelease oc.val)

/-- Every 1,000 µs the DAC outputs are measured, and a deviation raises F110 (spec R232). -/
def execOcReadback (dt : Nat) (oc : Oc) (high low : BitVec 16) (s : State) :
    Host.Outcome State Fault Refusal :=
  s.next dt (fun d => d.ocReadback oc.val high.toNat low.toNat)

/-- A grid-angle quadrant edge updates quadrant, CYCLES, FREQ and direction (spec R235). -/
def execGauEdge (dt : Nat) (gau : Gau) (quadrant : Fin 4) (s : State) :
    Host.Outcome State Fault Refusal :=
  s.next dt (fun d => (d.ashAngle gau.val).gauEdge gau.val quadrant.val)

/-- FREQ_TIMEOUT passes without a legal edge, which sets STANDSTILL and invalidates FREQ (spec R237). -/
def execGauStandstill (dt : Nat) (gau : Gau) (s : State) :
    Host.Outcome State Fault Refusal :=
  s.next dt (fun d => (d.ashAngle gau.val).gauStandstill gau.val)

/-- A 500 ns arctangent conversion updates ANGLE and can set an internal time compare (spec R236). -/
def execGauConversion (dt : Nat) (gau : Gau) (theta : BitVec 14) (amp : BitVec 16) (s : State) :
    Host.Outcome State Fault Refusal :=
  s.next dt (fun d => (d.ashAngle gau.val).gauConversion gau.val theta.toNat amp.toNat)

/-- CMP_ARM arms the angle compare, in NEXT mode choosing the target cycle (spec R239). -/
def execAngleCompareArm (dt : Nat) (gau : Gau) (v : Byte) (s : State) :
    Host.Outcome State Fault Refusal :=
  s.nextMem dt (fun m d => d.writeAt m (Reg.GAU.CMP_ARM gau.val) 1 v.toNat {})

/-- CMP_DISARM disarms the angle compare (spec R240). -/
def execAngleCompareDisarm (dt : Nat) (gau : Gau) (v : Byte) (s : State) :
    Host.Outcome State Fault Refusal :=
  s.nextMem dt (fun m d => d.writeAt m (Reg.GAU.CMP_DISARM gau.val) 1 v.toNat {})

/-- The angle compare fires, driving TRIG_OUT or CLOSE_PULSE (spec R239). -/
def execAngleCompareFire (dt : Nat) (gau : Gau) (s : State) :
    Host.Outcome State Fault Refusal :=
  s.next dt (fun d => d.cmpFire gau.val)

/-- A 6-byte FLUE_DAT frame starts at each multiple of DAT_PERIOD (spec R241). -/
def execFlueDatFrame (dt : Nat) (s : State) :
    Host.Outcome State Fault Refusal :=
  s.next dt (fun d => d.flueFrame)

end Sys2Proof.Machine
end

