-- ==== Sys2Proof/Machine/CmdPwm.lean ====
section
/-!
DEFINITION. The PWM unit (spec R341–R357).
-/
namespace Sys2Proof.Machine

/-- A frame boundary that is due at or before `t` comes first: its duty enters the shadow before the captures of its tick (spec R344). -/
def Dev.boundaryFirst (d : Dev) (m : Memory) (t : Nat) : Dev := if d.frame.next ≤ t then d.frameBoundary m else d

/-- A PWM period starts, capturing the compare and releasing or counting trips (spec R342). -/
def execPwmPeriodStart (dt : Nat) (pw : Pw) (s : State) :
    Host.Outcome State Fault Refusal :=
  s.nextMem dt (fun m d => (d.boundaryFirst m (d.pwDueAt pw.val)).pwStart pw.val)

/-- The PWM reference falls at the compare time (spec R343). -/
def execPwmCompareEvent (dt : Nat) (pw : Pw) (s : State) :
    Host.Outcome State Fault Refusal :=
  s.next dt (fun d => d.pwCompare pw.val)

/-- A dead time elapses and the output turns on unless forced (spec R345). -/
def execDeadTimeExpiry (dt : Nat) (pw : Pw) (high : Bool) (s : State) :
    Host.Outcome State Fault Refusal :=
  s.next dt (fun d => d.pwDead pw.val high)

/-- A masked trip input forces both outputs off for the rest of the period and counts the period as tripped (spec R348). -/
def execPwmTrip (dt : Nat) (pin : Pw) (level : Bool) (s : State) :
    Host.Outcome State Fault Refusal :=
  s.nextMem dt (fun m d => (d.boundaryFirst m d.tick).pwTrip pin.val level)

/-- A COMPARE write is sent towards the channel shadow (spec R347). -/
def execPwmCompareWrite (dt : Nat) (pw : Pw) (v : BitVec 32) (s : State) :
    Host.Outcome State Fault Refusal :=
  s.nextMem dt (fun m d => d.writeAt m (Reg.PWM.COMPARE pw.val) 4 v.toNat {})

/-- The written compare reaches the shadow, ordered against the capture (spec R347). -/
def execPwmCompareArrival (dt : Nat) (pw : Pw) (s : State) :
    Host.Outcome State Fault Refusal :=
  s.next dt (fun d => d.pwArrive pw.val)

/-- A write to CLEAR ends a latch and resets TRIP_COUNT, or is refused while a trip is high (spec R351). -/
def execPwmClear (dt : Nat) (pw : Pw) (v : Byte) (s : State) :
    Host.Outcome State Fault Refusal :=
  s.nextMem dt (fun m d => d.writeAt m (Reg.PWM.CLEAR pw.val) 1 v.toNat {})

end Sys2Proof.Machine
end

