-- ==== Sys2Proof/Machine/CmdSafety.lean ====
section
/-!
DEFINITION. The damper, memory errors and the maintenance engine (spec R13–R15, R358–R389).
-/
namespace Sys2Proof.Machine

/-- A raised source is counted, classified and reacted to (spec R358). -/
def execDamperEvent (dt : Nat) (s : State) :
    Host.Outcome State Fault Refusal :=
  s.next dt (fun d => d.damperEvent)

/-- A source's window ends without reaching COUNT_N and IN_WINDOW returns to 0 (spec R361). -/
def execDamperWindowEnd (dt : Nat) (src : Byte) (s : State) :
    Host.Outcome State Fault Refusal :=
  s.next dt (fun d => d.damperWindowEnd src.toNat)

/-- A write to FORCE injects one event of the source (spec R360). -/
def execFaultForce (dt : Nat) (src : Byte) (v : Byte) (s : State) :
    Host.Outcome State Fault Refusal :=
  s.nextMem dt (fun m d => d.writeAt m (Reg.FSRC.FORCE src.toNat) 1 v.toNat {})

/-- A write to CLEAR clears a source whose LIVE is 0 (spec R367). -/
def execFaultClear (dt : Nat) (src : Byte) (v : Byte) (s : State) :
    Host.Outcome State Fault Refusal :=
  s.nextMem dt (fun m d => d.writeAt m (Reg.FSRC.CLEAR src.toNat) 1 v.toNat {})

/-- A write to CLEAR_ALL clears every source whose LIVE is 0 (spec R367). -/
def execFaultClearAll (dt : Nat) (v : Byte) (s : State) :
    Host.Outcome State Fault Refusal :=
  s.nextMem dt (fun m d => d.writeAt m Reg.DAMP.CLEAR_ALL 1 v.toNat {})

/-- A completion monitor detects a stalled core path and raises its source (spec R15). -/
def execCoreStall (dt : Nat) (path : CorePath) (s : State) :
    Host.Outcome State Fault Refusal :=
  s.next dt (fun d => d.coreStall path)

/-- An invalid dual-rail code is detected on a handshake, which raises F019 (spec R15). -/
def execInvalidDualRail (dt : Nat) (s : State) :
    Host.Outcome State Fault Refusal :=
  s.next dt (fun d => d.raise 19 0)

/-- A parity error on a bundled datapath raises F021 (spec R378). -/
def execParityError (dt : Nat) (s : State) :
    Host.Outcome State Fault Refusal :=
  s.next dt (fun d => d.raise 21 0)

/-- SECDED finds a correctable or uncorrectable error on a memory read (spec R378). -/
def execMemoryReadError (dt : Nat) (loc : MemAt) (correctable : Bool) (s : State) :
    Host.Outcome State Fault Refusal :=
  s.next dt (fun d => d.memError loc correctable)

/-- A scrubber pass over SRAM and MRAM completes (spec R378). -/
def execScrubPass (dt : Nat) (s : State) :
    Host.Outcome State Fault Refusal :=
  s.next dt (fun d => if d.live then d.count Reg.MAINT.SCRUB_PASSES 32 1 else d)

/-- A write to a slot's START begins a maintenance activity, or is refused (spec R384). -/
def execMaintStart (dt : Nat) (slot : Fin 4) (v : Byte) (s : State) :
    Host.Outcome State Fault Refusal :=
  s.nextMem dt (fun m d => d.writeAt m (Reg.MSLOT.START slot.val) 1 v.toNat {})

/-- A write to ABORT stops a running activity unless completion came first (spec R386). -/
def execMaintAbort (dt : Nat) (slot : Fin 4) (v : Byte) (done : Option Bool) (s : State) :
    Host.Outcome State Fault Refusal :=
  s.nextMem dt (fun m d => d.writeAt m (Reg.MSLOT.ABORT slot.val) 1 v.toNat { done := done })

/-- A maintenance activity completes or fails, with F249 and F250 on failure (spec R383). -/
def execMaintActivityDone (dt : Nat) (slot : Fin 4) (ok : Bool) (value : BitVec 32) (s : State) :
    Host.Outcome State Fault Refusal :=
  s.next dt (fun d => d.maDone slot.val ok value.toNat)

/-- The engine starts an automatic activity or retries a refused one (spec R387). -/
def execMaintAutoStart (dt : Nat) (s : State) :
    Host.Outcome State Fault Refusal :=
  s.next dt (fun d => d.maAuto)

/-- PROOF_AGE exceeds PROOF_INTERVAL, which sets PROOF_DUE and raises F252 (spec R388). -/
def execProofDue (dt : Nat) (s : State) :
    Host.Outcome State Fault Refusal :=
  s.next dt (fun d => d.proofDue)

end Sys2Proof.Machine
end

