-- ==== Sys2Proof/Machine/CmdTime.lean ====
section
/-!
DEFINITION. Time base, PTP, PPS and time compares (spec R107–R134).
-/
namespace Sys2Proof.Machine

/-- A RATE change adjusts OFFSET so that station time stays continuous (spec R110). -/
def execRateWrite (dt : Nat) (v : BitVec 32) (coincide : Bool) (s : State) :
    Host.Outcome State Fault Refusal :=
  s.nextMem dt (fun m d => d.writeAt m Reg.TB.RATE 4 v.toNat { coincide := coincide })

/-- A write to LATCH captures TT, station time and RATE from one tick (spec R112). -/
def execTimeLatch (dt : Nat) (v : Byte) (s : State) :
    Host.Outcome State Fault Refusal :=
  s.nextMem dt (fun m d => d.writeAt m Reg.TB.LATCH 1 v.toNat {})

/-- A write to CONVERT converts a station time into a TT (spec R113). -/
def execStToTtConvert (dt : Nat) (v : Byte) (s : State) :
    Host.Outcome State Fault Refusal :=
  s.nextMem dt (fun m d => d.writeAt m Reg.CONVT.CONVERT 1 v.toNat {})

/-- An offset measurement updates the servo integrator and RATE and drives the servo state (spec R114). -/
def execServoMeasurement (dt : Nat) (s : State) :
    Host.Outcome State Fault Refusal :=
  s.next dt (fun d => d.servoNow)

/-- Loss of the servo source freezes RATE and enters HOLDOVER with F067 (spec R116). -/
def execServoSourceLost (dt : Nat) (s : State) :
    Host.Outcome State Fault Refusal :=
  s.next dt (fun d => if d.sourceLost then d.servoLost else d)

/-- A Sync message from the selected master is received (spec R118). -/
def execPtpSync (dt : Nat) (hdr : PtpHdr) (twoStep : Bool) (origin : PtpTime) (s : State) :
    Host.Outcome State Fault Refusal :=
  s.next dt (fun d => d.ptpHeard hdr.net.val (fun d => d.ptpSync hdr twoStep origin))

/-- A Follow_Up message completes a two-step Sync (spec R118). -/
def execPtpFollowUp (dt : Nat) (hdr : PtpHdr) (precise : PtpTime) (s : State) :
    Host.Outcome State Fault Refusal :=
  s.next dt (fun d => d.ptpHeard hdr.net.val (fun d => d.ptpFollowUp hdr precise))

/-- An Announce message is received and master selection runs (spec R119). -/
def execPtpAnnounce (dt : Nat) (hdr : PtpHdr) (ann : PtpAnnounce) (s : State) :
    Host.Outcome State Fault Refusal :=
  s.next dt (fun d => d.ptpHeard hdr.net.val (fun d => d.ptpAnnounce hdr ann))

/-- Announce receipt times out, or SYNC_TIMEOUT sync intervals pass without a Sync, and the PTP source is lost (spec R117). -/
def execPtpAnnounceTimeout (dt : Nat) (net : Fin 2) (sync : Bool) (s : State) :
    Host.Outcome State Fault Refusal :=
  s.next dt (fun d => d.ptpLost net.val sync)

/-- A neighbour's Pdelay_Req is received and answered two-step (spec R119). -/
def execPtpPdelayReq (dt : Nat) (hdr : PtpHdr) (s : State) :
    Host.Outcome State Fault Refusal :=
  s.next dt (fun d => d.ptpHeard hdr.net.val (fun d => d.ptpPdelayReq hdr))

/-- A Pdelay_Resp is received and the port's link delay is updated (spec R119). -/
def execPtpPdelayResp (dt : Nat) (hdr : PtpHdr) (receipt : PtpTime) (response : PtpTime) (s : State) :
    Host.Outcome State Fault Refusal :=
  s.next dt (fun d => d.ptpHeard hdr.net.val (fun d => d.ptpPdelayResp hdr receipt response))

/-- The peer-delay interval of a port expires and a Pdelay_Req is sent (spec R119). -/
def execPdelayInterval (dt : Nat) (net : Fin 2) (s : State) :
    Host.Outcome State Fault Refusal :=
  s.next dt (fun d => d.ptpPdelayInterval net.val)

/-- A selected PPS_IN edge is stamped, its error is recorded, and it can raise PPS_ALARM (spec R122). -/
def execPpsInEdge (dt : Nat) (rising : Bool) (s : State) :
    Host.Outcome State Fault Refusal :=
  s.next dt (fun d => d.ppsIn rising)

/-- No PPS_IN edge arrives within 1,100 ms, which sets PPS_MISSING and raises F071 (spec R122). -/
def execPpsMissing (dt : Nat) (s : State) :
    Host.Outcome State Fault Refusal :=
  s.next dt (fun d => d.ppsLost)

/-- PPS_OUT rises at a whole station-time second (spec R123). -/
def execPpsOutRise (dt : Nat) (s : State) :
    Host.Outcome State Fault Refusal :=
  s.next dt (fun d => d.ppsRise)

/-- OUT_WIDTH elapses and PPS_OUT falls (spec R124). -/
def execPpsOutFall (dt : Nat) (s : State) :
    Host.Outcome State Fault Refusal :=
  s.next dt (fun d => d.ppsFall)

/-- A write to ARM arms a time compare as near or far, or fires it late at once (spec R128). -/
def execCompareArm (dt : Nat) (tc : Tc) (v : Byte) (s : State) :
    Host.Outcome State Fault Refusal :=
  s.nextMem dt (fun m d => d.writeAt m (Reg.TC.ARM tc.val) 1 v.toNat {})

/-- A write to DISARM stops a pending firing (spec R131). -/
def execCompareDisarm (dt : Nat) (tc : Tc) (v : Byte) (s : State) :
    Host.Outcome State Fault Refusal :=
  s.nextMem dt (fun m d => d.writeAt m (Reg.TC.DISARM tc.val) 1 v.toNat {})

/-- Every 1,000 µs the far compares are examined and made near once their distance is below 2^30 (spec R128). -/
def execFarCompareScan (dt : Nat) (s : State) :
    Host.Outcome State Fault Refusal :=
  s.next dt (fun d => d.farScan)

/-- A time compare fires, drives its consumers and TRIG_OUT, and records FIRED_AT (spec R128). -/
def execCompareFire (dt : Nat) (tc : Tc) (s : State) :
    Host.Outcome State Fault Refusal :=
  s.next dt (fun d => d.compareFire tc.val)

/-- A 1,000 ns TRIG_OUT pulse ends (spec R128). -/
def execTrigOutPulseEnd (dt : Nat) (pin : Fin 2) (s : State) :
    Host.Outcome State Fault Refusal :=
  s.next dt (fun d => d.trigEnd pin.val)

/-- A 400 µs cross-check window of TT against SOSC ends; a miss counts, sets XCHECK and raises F064 (spec R132). -/
def execTtXcheck (dt : Nat) (advance : Nat) (s : State) :
    Host.Outcome State Fault Refusal :=
  s.next dt (fun d => if d.ttZero.isSome then d.xcheck advance else d)

/-- A TB PLL loses lock and F065 is raised (spec R132). -/
def execPllUnlock (dt : Nat) (s : State) :
    Host.Outcome State Fault Refusal :=
  s.next dt (fun d => d.pllLock false)

/-- A TB PLL that was out of lock locks again, which clears live leaf PLL_UNLOCK (spec R133). -/
def execPllRelock (dt : Nat) (s : State) :
    Host.Outcome State Fault Refusal :=
  s.next dt (fun d => d.pllLock true)

/-- REFCLK is lost and F066 is raised (spec R132). -/
def execRefclkLoss (dt : Nat) (s : State) :
    Host.Outcome State Fault Refusal :=
  s.next dt (fun d => if d.ttZero.isSome then d.refclkLoss else d)

end Sys2Proof.Machine
end

