-- ==== Sys2Proof/Machine/CmdTwin.lean ====
section
/-!
DEFINITION. Twin operation (spec R390–R418).
-/
namespace Sys2Proof.Machine

/-- A HEARTBEAT frame opens each 1,000 ns twin-link interval (spec R396). -/
def execHeartbeatSend (dt : Nat) (s : State) :
    Host.Outcome State Fault Refusal :=
  s.next dt (fun d => d.hbSend)

/-- A partner HEARTBEAT updates partner state, the lease and DELTA_TT (spec R397). -/
def execHeartbeatReceive (dt : Nat) (hb : Heartbeat) (crcOk : Bool) (s : State) :
    Host.Outcome State Fault Refusal :=
  s.next dt (fun d => d.hbReceive hb crcOk)

/-- An EMBER frame is written into a retention slot, which completes when its CRC checks (spec R405). -/
def execEmberFrameReceive (dt : Nat) (slot : Fin 2) (off : Fin 512) (e : BitVec 64) (bytes : List Byte) (crcOk : Bool) (s : State) :
    Host.Outcome State Fault Refusal :=
  if emberOk bytes then s.nextMem dt (fun m d => d.emberReceive m slot.val off.val e.toNat bytes crcOk)
  else .fault .illFormed

/-- A partner STATUS frame updates the PARTNER object (spec R396). -/
def execStatusFrameReceive (dt : Nat) (st : TwinStatus) (crcOk : Bool) (s : State) :
    Host.Outcome State Fault Refusal :=
  s.next dt (fun d => d.statusReceive st crcOk)

/-- An HB_IN edge renews the HB path and distinguishes NORMAL from FAILED (spec R398). -/
def execHbInEdge (dt : Nat) (s : State) :
    Host.Outcome State Fault Refusal :=
  s.next dt (fun d => d.hbEdge)

/-- A heartbeat path sees nothing for T_HB, which sets its leaf and raises F208 or F209 (spec R399). -/
def execTwinPathLost (dt : Nat) (fibre : Bool) (s : State) :
    Host.Outcome State Fault Refusal :=
  s.next dt (fun d => d.pathLost fibre)

/-- ACT_IN starts toggling, which forces TX_DIS high (spec R392). -/
def execActInToggle (dt : Nat) (s : State) :
    Host.Outcome State Fault Refusal :=
  s.next dt (fun d => d.actInOn)

/-- 1,000 ns without an ACT_IN edge make it quiet, releasing the interlock and letting a takeover start ACT_OUT (spec R392). -/
def execActInQuiet (dt : Nat) (s : State) :
    Host.Outcome State Fault Refusal :=
  s.next dt (fun d => d.actInOff)

/-- The core wakes and its wake check completes during takeover (spec R406). -/
def execCoreWakeDone (dt : Nat) (ok : Bool) (s : State) :
    Host.Outcome State Fault Refusal :=
  s.next dt (fun d => d.coreWake ok)

/-- The chosen ember is checked and applied to the device (spec R408). -/
def execEmberLoadDone (dt : Nat) (s : State) :
    Host.Outcome State Fault Refusal :=
  s.nextMem dt (fun m d => d.emberLoad m)

/-- At B(m) the new frame grid starts and the arms resume in OPEN with CAUSE TAKEOVER (spec R410). -/
def execTakeoverResume (dt : Nat) (s : State) :
    Host.Outcome State Fault Refusal :=
  s.nextMem dt (fun m d => d.resume m)

/-- No HOLD for LEASE_TIME + LEASE_MARGIN lets the ACTIVE device take the lease (spec R401). -/
def execLeaseExpiry (dt : Nat) (s : State) :
    Host.Outcome State Fault Refusal :=
  s.next dt (fun d => d.leaseTry)

/-- Gratuitous ARP and unsolicited NA are sent at 0, 50 and 100 ms after the lease is taken (spec R402). -/
def execIdentityAnnounce (dt : Nat) (s : State) :
    Host.Outcome State Fault Refusal :=
  s.next dt (fun d => d.identityAnnounce)

/-- The ACTIVE device finishes streaming an ember (spec R405). -/
def execEmberStreamDone (dt : Nat) (s : State) :
    Host.Outcome State Fault Refusal :=
  s.next dt (fun d => d.streamDone)

/-- Every SLOW_PERIOD the newest complete slot is copied to MRAM (spec R405). -/
def execSlowCopy (dt : Nat) (s : State) :
    Host.Outcome State Fault Refusal :=
  s.nextMem dt (fun m d => d.slowCopy m)

end Sys2Proof.Machine
end

