-- ==== Sys2Proof/Machine/Dispatch.lean ====
section
/-!
DEFINITION. One arm for each command.
-/
namespace Sys2Proof.Machine

/-- The effect of a command on everything but the queue. -/
def exec (i : Instr) (s : State) : Host.Outcome State Fault Refusal :=
  match i with
  | .poresetAssert dt lowFor => Sys2Proof.Machine.execPoresetAssert dt lowFor s
  | .poresetRelease dt straps => Sys2Proof.Machine.execPoresetRelease dt straps s
  | .vddCoreLow dt belowFor => Sys2Proof.Machine.execVddCoreLow dt belowFor s
  | .vddCoreRecovered dt aboveFor => Sys2Proof.Machine.execVddCoreRecovered dt aboveFor s
  | .clocksPhaseDone dt => Sys2Proof.Machine.execClocksPhaseDone dt s
  | .fusePhaseDone dt crcOk rows => Sys2Proof.Machine.execFusePhaseDone dt crcOk rows s
  | .memoryPhaseDone dt rows exhausted mramBad => Sys2Proof.Machine.execMemoryPhaseDone dt rows exhausted mramBad s
  | .selfTestDone dt fail lanes cores => Sys2Proof.Machine.execSelfTestDone dt fail lanes cores s
  | .imagePhaseDone dt qspi => Sys2Proof.Machine.execImagePhaseDone dt qspi s
  | .networkBootTimeout dt => Sys2Proof.Machine.execNetworkBootTimeout dt s
  | .twinStartWindowEnd dt => Sys2Proof.Machine.execTwinStartWindowEnd dt s
  | .deblock dt => Sys2Proof.Machine.execDeblock dt s
  | .block dt => Sys2Proof.Machine.execBlock dt s
  | .swap dt => Sys2Proof.Machine.execSwap dt s
  | .reset dt => Sys2Proof.Machine.execReset dt s
  | .reload dt => Sys2Proof.Machine.execReload dt s
  | .frameBoundary dt => Sys2Proof.Machine.execFrameBoundary dt s
  | .stnInChange dt pin level => Sys2Proof.Machine.execStnInChange dt pin level s
  | .closeArm dt v => Sys2Proof.Machine.execCloseArm dt v s
  | .closePulseEnd dt gau => Sys2Proof.Machine.execClosePulseEnd dt gau s
  | .leafAck dt leaf mask again => Sys2Proof.Machine.execLeafAck dt leaf mask again s
  | .registerWrite dt idx sub data coincide => Sys2Proof.Machine.execRegisterWrite dt idx sub data coincide s
  | .testSpaceWrite dt idx sub data => Sys2Proof.Machine.execTestSpaceWrite dt idx sub data s
  | .lockSet dt v => Sys2Proof.Machine.execLockSet dt v s
  | .commitMapWrite dt dom v => Sys2Proof.Machine.execCommitMapWrite dt dom v s
  | .summaryRead dt device => Sys2Proof.Machine.execSummaryRead dt device s
  | .commitStrobe dt mask => Sys2Proof.Machine.execCommitStrobe dt mask s
  | .commitInEdge dt rising => Sys2Proof.Machine.execCommitInEdge dt rising s
  | .commitTimeArm dt v => Sys2Proof.Machine.execCommitTimeArm dt v s
  | .commitTimeFire dt => Sys2Proof.Machine.execCommitTimeFire dt s
  | .iopRead dt u => Sys2Proof.Machine.execIopRead dt u s
  | .iopWrite dt u => Sys2Proof.Machine.execIopWrite dt u s
  | .iopReadBlock dt u => Sys2Proof.Machine.execIopReadBlock dt u s
  | .iopWriteBlock dt u => Sys2Proof.Machine.execIopWriteBlock dt u s
  | .iopCommit dt u => Sys2Proof.Machine.execIopCommit dt u s
  | .dupCacheExpiry dt => Sys2Proof.Machine.execDupCacheExpiry dt s
  | .notify dt dest => Sys2Proof.Machine.execNotify dt dest s
  | .spiRead dt bytes => Sys2Proof.Machine.execSpiRead dt bytes s
  | .spiWrite dt bytes => Sys2Proof.Machine.execSpiWrite dt bytes s
  | .spiReadBlock dt bytes => Sys2Proof.Machine.execSpiReadBlock dt bytes s
  | .spiWriteBlock dt bytes => Sys2Proof.Machine.execSpiWriteBlock dt bytes s
  | .netLinkChange dt net up => Sys2Proof.Machine.execNetLinkChange dt net up s
  | .prpSupervision dt => Sys2Proof.Machine.execPrpSupervision dt s
  | .netServiceRequest dt rx req => Sys2Proof.Machine.execNetServiceRequest dt rx req s
  | .imageWindowWrite dt off data => Sys2Proof.Machine.execImageWindowWrite dt off data s
  | .imageVerify dt v => Sys2Proof.Machine.execImageVerify dt v s
  | .imageVerifyDone dt => Sys2Proof.Machine.execImageVerifyDone dt s
  | .imageErase dt v => Sys2Proof.Machine.execImageErase dt v s
  | .rateWrite dt v coincide => Sys2Proof.Machine.execRateWrite dt v coincide s
  | .timeLatch dt v => Sys2Proof.Machine.execTimeLatch dt v s
  | .stToTtConvert dt v => Sys2Proof.Machine.execStToTtConvert dt v s
  | .servoMeasurement dt => Sys2Proof.Machine.execServoMeasurement dt s
  | .servoSourceLost dt => Sys2Proof.Machine.execServoSourceLost dt s
  | .ptpSync dt hdr twoStep origin => Sys2Proof.Machine.execPtpSync dt hdr twoStep origin s
  | .ptpFollowUp dt hdr precise => Sys2Proof.Machine.execPtpFollowUp dt hdr precise s
  | .ptpAnnounce dt hdr ann => Sys2Proof.Machine.execPtpAnnounce dt hdr ann s
  | .ptpAnnounceTimeout dt net sync => Sys2Proof.Machine.execPtpAnnounceTimeout dt net sync s
  | .ptpPdelayReq dt hdr => Sys2Proof.Machine.execPtpPdelayReq dt hdr s
  | .ptpPdelayResp dt hdr receipt response => Sys2Proof.Machine.execPtpPdelayResp dt hdr receipt response s
  | .pdelayInterval dt net => Sys2Proof.Machine.execPdelayInterval dt net s
  | .ppsInEdge dt rising => Sys2Proof.Machine.execPpsInEdge dt rising s
  | .ppsMissing dt => Sys2Proof.Machine.execPpsMissing dt s
  | .ppsOutRise dt => Sys2Proof.Machine.execPpsOutRise dt s
  | .ppsOutFall dt => Sys2Proof.Machine.execPpsOutFall dt s
  | .compareArm dt tc v => Sys2Proof.Machine.execCompareArm dt tc v s
  | .compareDisarm dt tc v => Sys2Proof.Machine.execCompareDisarm dt tc v s
  | .farCompareScan dt => Sys2Proof.Machine.execFarCompareScan dt s
  | .compareFire dt tc => Sys2Proof.Machine.execCompareFire dt tc s
  | .trigOutPulseEnd dt pin => Sys2Proof.Machine.execTrigOutPulseEnd dt pin s
  | .ttXcheck dt advance => Sys2Proof.Machine.execTtXcheck dt advance s
  | .pllUnlock dt => Sys2Proof.Machine.execPllUnlock dt s
  | .refclkLoss dt => Sys2Proof.Machine.execRefclkLoss dt s
  | .downlinkSlot dt port => Sys2Proof.Machine.execDownlinkSlot dt port s
  | .sodReceive dt port addr burst los => Sys2Proof.Machine.execSodReceive dt port addr burst los s
  | .sodSlotMissed dt port addr los => Sys2Proof.Machine.execSodSlotMissed dt port addr los s
  | .announceReceive dt port burst => Sys2Proof.Machine.execAnnounceReceive dt port burst s
  | .tinderCollision dt port viol => Sys2Proof.Machine.execTinderCollision dt port viol s
  | .rangingWindowEnd dt port bursts => Sys2Proof.Machine.execRangingWindowEnd dt port bursts s
  | .admitTimeout dt slot => Sys2Proof.Machine.execAdmitTimeout dt slot s
  | .absentAfterExpiry dt slot => Sys2Proof.Machine.execAbsentAfterExpiry dt slot s
  | .unexpectedBurst dt port => Sys2Proof.Machine.execUnexpectedBurst dt port s
  | .mgmtResponseReceive dt port rsp burst => Sys2Proof.Machine.execMgmtResponseReceive dt port rsp burst s
  | .mgmtResponseTimeout dt port rsp => Sys2Proof.Machine.execMgmtResponseTimeout dt port rsp s
  | .cellMgmtStart dt v => Sys2Proof.Machine.execCellMgmtStart dt v s
  | .strangerIdentify dt n v => Sys2Proof.Machine.execStrangerIdentify dt n v s
  | .strangerClear dt n v => Sys2Proof.Machine.execStrangerClear dt n v s
  | .turfSerialWrite dt slot v => Sys2Proof.Machine.execTurfSerialWrite dt slot v s
  | .modeChangeStart dt v => Sys2Proof.Machine.execModeChangeStart dt v s
  | .modeChangeAbort dt v => Sys2Proof.Machine.execModeChangeAbort dt v s
  | .modeChangeDecision dt => Sys2Proof.Machine.execModeChangeDecision dt s
  | .modeForceTimeout dt => Sys2Proof.Machine.execModeForceTimeout dt s
  | .modeChangeCommit dt => Sys2Proof.Machine.execModeChangeCommit dt s
  | .conversionStart dt cv => Sys2Proof.Machine.execConversionStart dt cv s
  | .conversionDone dt cv raw satHi satLo ok => Sys2Proof.Machine.execConversionDone dt cv raw satHi satLo ok s
  | .urgentWrite dt cv v => Sys2Proof.Machine.execUrgentWrite dt cv v s
  | .calRequest dt cv v => Sys2Proof.Machine.execCalRequest dt cv v s
  | .calAll dt v => Sys2Proof.Machine.execCalAll dt v s
  | .calDone dt cv ok => Sys2Proof.Machine.execCalDone dt cv ok s
  | .vrefFault dt => Sys2Proof.Machine.execVrefFault dt s
  | .ocCrossing dt oc above => Sys2Proof.Machine.execOcCrossing dt oc above s
  | .ocRelease dt oc => Sys2Proof.Machine.execOcRelease dt oc s
  | .ocReadback dt oc high low => Sys2Proof.Machine.execOcReadback dt oc high low s
  | .gauEdge dt gau quadrant => Sys2Proof.Machine.execGauEdge dt gau quadrant s
  | .gauStandstill dt gau => Sys2Proof.Machine.execGauStandstill dt gau s
  | .gauConversion dt gau theta amp => Sys2Proof.Machine.execGauConversion dt gau theta amp s
  | .angleCompareArm dt gau v => Sys2Proof.Machine.execAngleCompareArm dt gau v s
  | .angleCompareDisarm dt gau v => Sys2Proof.Machine.execAngleCompareDisarm dt gau v s
  | .angleCompareFire dt gau => Sys2Proof.Machine.execAngleCompareFire dt gau s
  | .flueDatFrame dt => Sys2Proof.Machine.execFlueDatFrame dt s
  | .armSample dt arm => Sys2Proof.Machine.execArmSample dt arm s
  | .laneSelection dt arm => Sys2Proof.Machine.execLaneSelection dt arm s
  | .armOpen dt arm => Sys2Proof.Machine.execArmOpen dt arm s
  | .armClose dt arm => Sys2Proof.Machine.execArmClose dt arm s
  | .armHold dt arm => Sys2Proof.Machine.execArmHold dt arm s
  | .armBlock dt arm => Sys2Proof.Machine.execArmBlock dt arm s
  | .armDeblock dt arm => Sys2Proof.Machine.execArmDeblock dt arm s
  | .armWatchdogExpiry dt arm => Sys2Proof.Machine.execArmWatchdogExpiry dt arm s
  | .rankingSwitch dt arm => Sys2Proof.Machine.execRankingSwitch dt arm s
  | .cellRetire dt slot => Sys2Proof.Machine.execCellRetire dt slot s
  | .cellRelease dt slot => Sys2Proof.Machine.execCellRelease dt slot s
  | .groupsWrite dt slot v => Sys2Proof.Machine.execGroupsWrite dt slot v s
  | .laneAudit dt lane agree => Sys2Proof.Machine.execLaneAudit dt lane agree s
  | .spareIn dt v => Sys2Proof.Machine.execSpareIn dt v s
  | .spareLoadDone dt ok => Sys2Proof.Machine.execSpareLoadDone dt ok s
  | .kilnGrant dt core => Sys2Proof.Machine.execKilnGrant dt core s
  | .nodeComplete dt core same => Sys2Proof.Machine.execNodeComplete dt core same s
  | .rgDeadline dt rg => Sys2Proof.Machine.execRgDeadline dt rg s
  | .nodeCancel dt node v => Sys2Proof.Machine.execNodeCancel dt node v s
  | .gateOpen dt node => Sys2Proof.Machine.execGateOpen dt node s
  | .gateClose dt node => Sys2Proof.Machine.execGateClose dt node s
  | .graphCheck dt v => Sys2Proof.Machine.execGraphCheck dt v s
  | .graphCheckDone dt => Sys2Proof.Machine.execGraphCheckDone dt s
  | .debugHalt dt => Sys2Proof.Machine.execDebugHalt dt s
  | .debugResume dt => Sys2Proof.Machine.execDebugResume dt s
  | .statClear dt v => Sys2Proof.Machine.execStatClear dt v s
  | .traceRestart dt v => Sys2Proof.Machine.execTraceRestart dt v s
  | .statsWindowEnd dt => Sys2Proof.Machine.execStatsWindowEnd dt s
  | .pwmPeriodStart dt pw => Sys2Proof.Machine.execPwmPeriodStart dt pw s
  | .pwmCompareEvent dt pw => Sys2Proof.Machine.execPwmCompareEvent dt pw s
  | .deadTimeExpiry dt pw high => Sys2Proof.Machine.execDeadTimeExpiry dt pw high s
  | .pwmTrip dt pin level => Sys2Proof.Machine.execPwmTrip dt pin level s
  | .pwmCompareWrite dt pw v => Sys2Proof.Machine.execPwmCompareWrite dt pw v s
  | .pwmCompareArrival dt pw => Sys2Proof.Machine.execPwmCompareArrival dt pw s
  | .pwmClear dt pw v => Sys2Proof.Machine.execPwmClear dt pw v s
  | .damperEvent dt => Sys2Proof.Machine.execDamperEvent dt s
  | .damperWindowEnd dt src => Sys2Proof.Machine.execDamperWindowEnd dt src s
  | .faultForce dt src v => Sys2Proof.Machine.execFaultForce dt src v s
  | .faultClear dt src v => Sys2Proof.Machine.execFaultClear dt src v s
  | .faultClearAll dt v => Sys2Proof.Machine.execFaultClearAll dt v s
  | .coreStall dt path => Sys2Proof.Machine.execCoreStall dt path s
  | .invalidDualRail dt => Sys2Proof.Machine.execInvalidDualRail dt s
  | .parityError dt => Sys2Proof.Machine.execParityError dt s
  | .memoryReadError dt loc correctable => Sys2Proof.Machine.execMemoryReadError dt loc correctable s
  | .scrubPass dt => Sys2Proof.Machine.execScrubPass dt s
  | .maintStart dt slot v => Sys2Proof.Machine.execMaintStart dt slot v s
  | .maintAbort dt slot v done => Sys2Proof.Machine.execMaintAbort dt slot v done s
  | .maintActivityDone dt slot ok value => Sys2Proof.Machine.execMaintActivityDone dt slot ok value s
  | .maintAutoStart dt => Sys2Proof.Machine.execMaintAutoStart dt s
  | .proofDue dt => Sys2Proof.Machine.execProofDue dt s
  | .heartbeatSend dt => Sys2Proof.Machine.execHeartbeatSend dt s
  | .heartbeatReceive dt hb crcOk => Sys2Proof.Machine.execHeartbeatReceive dt hb crcOk s
  | .emberFrameReceive dt slot off e bytes crcOk => Sys2Proof.Machine.execEmberFrameReceive dt slot off e bytes crcOk s
  | .statusFrameReceive dt st crcOk => Sys2Proof.Machine.execStatusFrameReceive dt st crcOk s
  | .hbInEdge dt => Sys2Proof.Machine.execHbInEdge dt s
  | .twinPathLost dt fibre => Sys2Proof.Machine.execTwinPathLost dt fibre s
  | .actInToggle dt => Sys2Proof.Machine.execActInToggle dt s
  | .actInQuiet dt => Sys2Proof.Machine.execActInQuiet dt s
  | .coreWakeDone dt ok => Sys2Proof.Machine.execCoreWakeDone dt ok s
  | .emberLoadDone dt => Sys2Proof.Machine.execEmberLoadDone dt s
  | .takeoverResume dt => Sys2Proof.Machine.execTakeoverResume dt s
  | .leaseExpiry dt => Sys2Proof.Machine.execLeaseExpiry dt s
  | .identityAnnounce dt => Sys2Proof.Machine.execIdentityAnnounce dt s
  | .emberStreamDone dt => Sys2Proof.Machine.execEmberStreamDone dt s
  | .slowCopy dt => Sys2Proof.Machine.execSlowCopy dt s
  | .acqArm dt v => Sys2Proof.Machine.execAcqArm dt v s
  | .acqAbort dt v => Sys2Proof.Machine.execAcqAbort dt v s
  | .acqPretimeElapsed dt => Sys2Proof.Machine.execAcqPretimeElapsed dt s
  | .acqRecordDone dt => Sys2Proof.Machine.execAcqRecordDone dt s
  | .segmentRelease dt seg v => Sys2Proof.Machine.execSegmentRelease dt seg v s
  | .trigInEdge dt pin rising => Sys2Proof.Machine.execTrigInEdge dt pin rising s
  | .xtrigEdge dt => Sys2Proof.Machine.execXtrigEdge dt s
  | .xtrigStuck dt => Sys2Proof.Machine.execXtrigStuck dt s
  | .xtrigDriveEnd dt => Sys2Proof.Machine.execXtrigDriveEnd dt s
  | .triggerForce dt v => Sys2Proof.Machine.execTriggerForce dt v s
  | .triggerResolve dt => Sys2Proof.Machine.execTriggerResolve dt s
  | .ashArm dt v => Sys2Proof.Machine.execAshArm dt v s
  | .ashStop dt v => Sys2Proof.Machine.execAshStop dt v s
  | .ashPostDone dt => Sys2Proof.Machine.execAshPostDone dt s
  | .ecSnap dt v => Sys2Proof.Machine.execEcSnap dt v s
  | .pllRelock dt => Sys2Proof.Machine.execPllRelock dt s
  | .vrefRestored dt => Sys2Proof.Machine.execVrefRestored dt s
  | .xtrigReleased dt => Sys2Proof.Machine.execXtrigReleased dt s

end Sys2Proof.Machine
end

