-- ==== Sys2Proof/Machine/Step.lean ====
section
/-!
DEFINITION. One step: the command at the front of the queue takes effect.
-/
namespace Sys2Proof.Machine

/-- The command at the front of the queue is taken and executed with the queue's rest; with nothing waiting the block idles
(log 5). -/
def step (s : State) : Host.Outcome State Fault Refusal :=
  match s.pending with
  | [] => .next s
  | i :: rest => exec i { s with pending := rest }

/-- A state with a command put at the front of its queue. -/
def State.front (s : State) (i : Instr) : State := { s with pending := i :: s.pending }

/-- The table gives no row any bits, so no word spells a command. -/
def State.withFetchWord (s : State) (nbits w : Nat) : State :=
  match Sys2Proof.decodeTableWord nbits w with
  | some i => s.front i
  | none => s

end Sys2Proof.Machine
end

