-- ==== Sys2Proof/Machine/Jtag.lean ====
section
/-!
DEFINITION. The JTAG port: its instructions, IDCODE, and what the boundary register does to the balls (spec R475, log 103).
-/
namespace Sys2Proof.Machine

/-- The instructions. -/
inductive JtagInstr where
  | extest
  | idcode
  | sample
  | clamp
  | highz
  | debug
  | bypass
deriving DecidableEq, Repr

/-- The instruction of a code; a code that is not listed acts as BYPASS. -/
def jtagInstr (code : Byte) : JtagInstr :=
  match code.toNat with
  | 0x00 => .extest
  | 0x01 => .idcode
  | 0x02 => .sample
  | 0x04 => .clamp
  | 0x05 => .highz
  | 0x20 => .debug
  | _ => .bypass

/-- IDCODE: version 0x1, part 0x3072, manufacturer 0x4C7, and the fixed 1 of IEEE 1149.1. -/
def jtagIdcode : BitVec 32 := (0x1 : BitVec 4) ++ (0x3072 : BitVec 16) ++ (0x4C7 : BitVec 11) ++ (1 : BitVec 1)

/-- Balls of the boundary register: how many of a kind, and whether instructions drive them. Every LVCMOS and open-drain ball but
those of the JTAG port itself is covered, TX_DIS for observation alone. -/
def boundaryBalls : List (String × Nat × Bool) :=
  [("PW", 12, true), ("TRIP", 6, true), ("STN_IN", 8, true), ("STN_OUT", 8, true), ("TRIG_IN", 2, true), ("TRIG_OUT", 2, true),
   ("COMMIT_IN", 1, true), ("ERR_N", 1, true), ("PPS_IN", 1, true), ("PPS_OUT", 1, true), ("FLUE", 3, true),
   ("BOOT_SRC", 2, true), ("TWIN_ID", 1, true), ("SAFE_DEFAULT", 1, true), ("TEST_EN", 1, true), ("IRQ_N", 1, true),
   ("XTRIG", 1, true), ("TX_DIS", 24, false), ("RX_BRST", 24, true), ("LOS", 24, true), ("QSPI", 6, true), ("SPI", 4, true),
   ("MDC", 1, true), ("MDIO", 1, true)]

/-- EXTEST, CLAMP and HIGHZ take effect. -/
def Dev.jtagAllowed (d : Dev) : Bool := d.kindle.testEn && d.dsIn [dsRESET, dsKINDLING, dsCONFIGURED, dsSAFE]

/-- The instruction in effect: one that takes none acts as BYPASS, so the balls return to their functions with LINKS_UP. -/
def Dev.jtagEffect (d : Dev) : JtagInstr :=
  let i := jtagInstr d.jtag.ir
  match i with
  | .extest | .clamp | .highz => if d.jtagAllowed then i else .bypass
  | i => i

/-- The level of a covered ball, none for high impedance: `own` is what its unit gives it, `cell` its place in the boundary
register. TX_DIS is never driven by an instruction (spec R392). -/
def Dev.ballLevel (d : Dev) (driven : Bool) (cell : Nat) (own : Bool) : Option Bool :=
  if !driven then some own
  else match d.jtagEffect with
    | .extest | .clamp => some (d.jtag.boundary.testBit cell)
    | .highz => none
    | _ => some own

end Sys2Proof.Machine
end

