-- ==== Sys2Proof/Safety.lean ====
section
/-!
DEFINITION. The terms in which statements about the TN3072 are made: the device as a command finds it, what a command
leaves, when a sub-entry takes a write, and the invariant of the model.
-/
namespace Sys2Proof.Machine

/-! A run. -/

/-- What every state that a step can follow satisfies: the byte areas are in their canonical form, and no change of them
is left over from a command. -/
def State.Inv (s : State) : Prop := s.mem.wf = true ∧ s.dev.memQ = []

/-- A command completes: it answers a next state of which `P` holds. -/
def Completes (i : Instr) (s : State) (P : State → Prop) : Prop := ∃ t, exec i s = .next t ∧ P t

/-! What a command finds. -/

/-- The device as a command finds it that comes `dt` after the one before: time has moved on, nothing is sent yet. -/
def State.met (s : State) (dt : Nat) : Dev := { s.dev with now := s.dev.now + dt, out := [], memQ := [] }

/-- TT at a command that comes `dt` after the one before. -/
def State.ttAt (s : State) (dt : Nat) : Nat := (s.met dt).tt

/-! What a command leaves. -/

/-- Every sub-entry but those of `ks` has the value it had. -/
def KeepsBut (ks : List Nat) (d d' : Dev) : Prop := ∀ k, k ∉ ks → d'.get k = d.get k

/-- What the device holds beside its sub-entries, the answer to an access and what it sends. -/
def Dev.inner (d : Dev) : Dev := { d with now := 0, regs := [], status := 0, data := [], out := [], memQ := [] }

/-- The same without the marks that events, leaves and raises leave: the events counted in the present tick, what waits for
NOTIFY, and the raises that wait for the damper. -/
def Dev.heart (d : Dev) : Dev :=
  { d.inner with
    net := { d.net with notify := [] }, acq := { d.acq with ecTick := 0, ecSeen := [] }, damper := { d.damper with raised := [] } }

/-- A raise joins those that wait: source `src`, naming arm `arm` (0xFF none), with its AUX value. -/
def Raises (src arm aux : Nat) (s t : State) : Prop :=
  t.dev.damper.raised = s.dev.damper.raised ++ [{ src := src, at_ := t.dev.now, arm := arm, aux := aux }]

/-- The frame of a command: the queue, every byte of memory and every sub-entry but those of `ks` are as they were, and
time has moved on by `dt`. -/
structure Framed (ks : List Nat) (dt : Nat) (s t : State) : Prop where
  pending : t.pending = s.pending
  memory : ∀ a, t.mem.read a = s.mem.read a
  entries : KeepsBut ks s.dev t.dev
  time : t.dev.now = s.dev.now + dt

/-- The summary sub-entries 0x2004 and 0x1001, which a leaf's rising edge reaches (spec R53–R55). -/
def summaryKeys : List Nat := [Reg.UNITSUM.UNIT_SUMMARY, Reg.ERRSUM.ERROR_SUMMARY]

/-- What events count into, and the snapshot of the tick in which they fall (spec R438, R439). -/
def countKeys : List Nat := Reg.EC.OVF :: ((List.range 32).map Reg.ECN.COUNT ++ (List.range 32).map Reg.ECN.SNAP_VALUE)

/-- What MRAM keeps over a reset, and the cause of the reset (spec R26, R27, R77, R373). -/
def resetKeys : List Nat :=
  [Reg.DAMP.LOG_INDEX, Reg.DAMP.LOG_WRAPPED, Reg.MAINT.MRAM_SPARE_BLOCKS, Reg.KINDLE.IMG_A, Reg.KINDLE.IMG_B,
   Reg.KINDLE.RESET_CAUSE]

/-- The device is in RESET for a cause: every sub-entry but the few of `resetKeys` reads its reset value, nothing waits for
a strobe, TT does not run, no frame runs, no cell is known; MRAM is as it was and SRAM reads as unlisted. -/
structure InReset (cause : Nat) (s t : State) : Prop where
  pending : t.pending = s.pending
  state : t.dev.ds = dsRESET
  cause : t.dev.get Reg.KINDLE.RESET_CAUSE = cause
  straps : t.dev.kindle.strapPins = s.dev.kindle.strapPins
  kept : ∀ k ∈ [Reg.DAMP.LOG_INDEX, Reg.DAMP.LOG_WRAPPED, Reg.MAINT.MRAM_SPARE_BLOCKS], t.dev.get k = s.dev.get k
  entries : ∀ k, k ∉ resetKeys → t.dev.get k = regReset k
  shadow : t.dev.shadow = []
  time : t.dev.ttZero = none
  frame : t.dev.frame = {}
  cells : t.dev.cells = []
  mram : ∀ a, a < Mem.mramEnd → t.mem.read a = s.mem.read a
  sram : ∀ a, Mem.mramEnd ≤ a → a < Mem.mramEnd + sramSpan → t.mem.read a = Memory.empty

/-- What leaves when a message goes out on some ports: in PRP each copy carries the trailer of its LAN with one sequence number
(spec R71). -/
def Dev.copies (d : Dev) (ps : List Nat) (msg : NetMsg) : List Out :=
  ps.map (fun p => .frame p (d.mac p) (if d.prp then some ⟨BitVec.ofNat 16 d.net.txSeq, BitVec.ofNat 4 (lanOf p)⟩ else none) msg)

/-! Writes. -/

/-- No state of the device and no lock keeps a write from the sub-entry `k`: the core serves accesses, the device is in
neither KINDLING nor a CONFIGURED that SAFE_DEFAULT holds, and no lock guards the sub-entry (spec R41, R90, R94, R95). -/
def Dev.writable (d : Dev) (k : Nat) : Bool :=
  d.live && !(d.ds == dsCONFIGURED && d.safeDefault) && !d.lockHolds k

/-- Nothing in its own form, value or unit refuses a write of these bytes to the field `k` of row `e`, and the field has no
effect of its own (spec R30, R31, R36, R62). -/
def Dev.takes (d : Dev) (k : Nat) (e : Entry) (bs : List Byte) (coincide : Bool) : Bool :=
  pairKey k == k && bs.length == e.size && d.valueOk k e (ofLe bs) && !(coincide && advancedKey k) && d.unitState k == stOK &&
    (d.ownWrite k (ofLe bs) coincide).isNone

/-- The row of `k` is a write-pulse of `n` bytes. -/
def isPulse (k n : Nat) : Bool :=
  match objectAt (k / 256), entryAt (k / 256) (k % 256) with
  | some _, some e => e.acc == .wp && e.size == n && e.ty != .dom && !isTestIdx (k / 256)
  | _, _ => false

end Sys2Proof.Machine
end

