-- ==== Sys2Proof/Certificates/Slice0/Obligations.lean ====
section
/-!
DEFINITION. The statements about the TN3072 that the provers prove.
-/
open Sys2Proof Sys2Proof.Machine

/-- A step takes the command at the front of the queue and executes it with the queue's rest. With nothing waiting the block
idles (log 5, a choice of the model). -/
def Obligations.StepTakesTheFrontOrIdles : Prop :=
  (∀ (s : State) (i : Instr), step (s.front i) = exec i s) ∧
  (∀ s : State, s.pending = [] → step s = .next s)

/-- The invariant holds at reset, and reset shows the values that the spec gives: STATE RESET, no shadow, no leaf, TT at 0 (spec
R29, R96, R107); where the spec gives no reset value, that a sub-entry reads regReset is the model's choice (log 4). -/
def Obligations.ResetState : Prop :=
  State.reset.Inv ∧ State.reset.pending = [] ∧ State.reset.dev.ds = dsRESET ∧
  (∀ k, State.reset.dev.get k = regReset k) ∧ State.reset.dev.tt = 0 ∧ State.reset.dev.shadow = [] ∧
  State.reset.dev.get Reg.LOCK.LOCK = 0 ∧ State.reset.dev.get Reg.UNITSUM.UNIT_SUMMARY = 0 ∧
  State.reset.dev.get Reg.ERRSUM.ERROR_SUMMARY = 0 ∧ State.reset.dev.get (Reg.PWM.PERIOD 0) = 62500

/-- Every step keeps the canonical form of the byte areas, and leaves no change of them behind. -/
def Obligations.StepKeepsInvariant : Prop :=
  ∀ s t : State, s.Inv → step s = .next t → t.Inv

/-- A command ends only in a next state, or as ill formed where it is not well formed: no command is refused. What counts as
well formed is the model's choice (log 71). -/
def Obligations.WellFormedCommandsComplete : Prop :=
  ∀ (i : Instr) (s : State),
    (i.wf = true → Completes i s (fun t => t.pending = s.pending ∧ s.dev.now ≤ t.dev.now)) ∧
    (i.wf = false → exec i s = .fault .illFormed)

/-- RESET by PORESET_N and by the VDD_CORE monitor (spec R76, R77, R97): from every device state, the monitor from every one but
BANKED. What a reset keeps beside the spec's MRAM areas, and the reset values that the spec does not give, are the model's
choice (logs 3, 4). The device leaves RESET for the clocks phase of KINDLING (spec R76, R77, R79, R97): at the rising edge of
PORESET_N, when VDD_CORE has recovered, and by DEV_CMD RESET, which resets it first. Each samples the straps, whose wiring the
last rising edge of PORESET_N has named (log 10), and TEST_EN with them (spec R454). -/
def Obligations.ResetAndKindlingStart : Prop :=
  (∀ (s : State) (dt t : Nat), s.Inv →
     (10000 ≤ t → Completes (.poresetAssert dt t) s (InReset 0 s)) ∧
     (10000 < t → s.dev.ds ≠ dsBANKED → Completes (.vddCoreLow dt t) s (InReset 2 s))) ∧
  (∀ (s : State) (dt above : Nat) (straps : BitVec 5),
     let begun := fun t : State => t.dev.ds = dsKINDLING ∧ t.dev.get Reg.KINDLE.PHASE = 1 ∧ t.pending = s.pending
     (s.dev.kindle.poresetLow = true → s.dev.kindle.vddLow = false →
       Completes (.poresetRelease dt straps) s (fun t =>
         begun t ∧ t.dev.get Reg.KINDLE.STRAPS = straps.toNat % 16 ∧ t.dev.kindle.testEn = straps.getLsbD 4 ∧ t.dev.kindle.poresetLow = false)) ∧
     (s.dev.kindle.vddLow = true → s.dev.kindle.poresetLow = false → 1000000 ≤ above →
       Completes (.vddCoreRecovered dt above) s (fun t =>
         begun t ∧ t.dev.get Reg.KINDLE.STRAPS = s.dev.kindle.strapPins % 16 ∧ t.dev.kindle.vddLow = false)) ∧
     ((s.met dt).writable Reg.DEVCMD.DEV_CMD = true →
       Completes (.reset dt) s (fun t =>
         begun t ∧ t.dev.get Reg.KINDLE.STRAPS = s.dev.kindle.strapPins % 16 ∧ t.dev.get Reg.KINDLE.RESET_CAUSE = 1 ∧
         t.dev.get Reg.LOCK.LOCK = 0 ∧ t.dev.ttZero = none ∧ t.dev.shadow = [] ∧ t.dev.status = stOK)))

/-- Each phase of kindling ends in the next (spec R80–R83, R107): TT starts with the end of the clocks phase; the fuses' repair
map and the march test fill REPAIRED and SRAM_SPARE_ROWS, and with no row left SPARE_LOW shows (spec R382); after self-tests
without a failure the image phase begins, or with SAFE_DEFAULT CONFIGURED without an image (spec R90), or with BOOT_SRC 2 and 3
the wait for a delivery (spec R87, R88), and the delay-line calibration that passed is the last successful one (spec R355). A
lane or a core that fails is absorbed by the spare: it shows in POST_FAIL and its source is raised, and kindling goes on. -/
def Obligations.KindlingPhases : Prop :=
  ∀ (s : State) (dt rows : Nat) (k : Fin 7) (c : Fin 18), s.dev.ds = dsKINDLING →
    (s.dev.get Reg.KINDLE.PHASE = 1 →
      Completes (.clocksPhaseDone dt) s (fun t =>
        t.dev.get Reg.KINDLE.PHASE = 2 ∧ t.dev.tt = 0 ∧ Framed [Reg.KINDLE.PHASE] dt s t ∧
        t.dev.inner = { s.dev.inner with ttZero := some (s.dev.now + dt) })) ∧
    (s.dev.get Reg.KINDLE.PHASE = 2 → rows ≤ 1024 →
      Completes (.fusePhaseDone dt true rows) s (fun t =>
        t.dev.get Reg.KINDLE.PHASE = 3 ∧ t.dev.get Reg.KINDLE.REPAIRED = rows ∧
        t.dev.get Reg.MAINT.SRAM_SPARE_ROWS = 1024 - rows ∧
        (t.dev.get Reg.MAINT.SRAM_SPARE_ROWS = 0 → t.dev.bit Reg.MAINT.LEAVES 1 = true) ∧
        Framed ([Reg.KINDLE.PHASE, Reg.KINDLE.REPAIRED, Reg.MAINT.SRAM_SPARE_ROWS, Reg.IMAGE.TARGET, Reg.MAINT.LEAVES] ++
          summaryKeys) dt s t ∧ (s.dev.safeDefault = false → t.dev.heart = { s.dev.heart with maint := t.dev.maint }))) ∧
    (s.dev.get Reg.KINDLE.PHASE = 3 → s.dev.get Reg.KINDLE.REPAIRED + rows ≤ 1024 →
      Completes (.memoryPhaseDone dt rows false 0) s (fun t =>
        t.dev.get Reg.KINDLE.PHASE = 4 ∧ t.dev.get Reg.KINDLE.REPAIRED = s.dev.get Reg.KINDLE.REPAIRED + rows ∧
        t.dev.get Reg.MAINT.SRAM_SPARE_ROWS = 1024 - (s.dev.get Reg.KINDLE.REPAIRED + rows) ∧
        (t.dev.get Reg.MAINT.SRAM_SPARE_ROWS = 0 → t.dev.bit Reg.MAINT.LEAVES 1 = true) ∧
        Framed ([Reg.KINDLE.PHASE, Reg.KINDLE.REPAIRED, Reg.MAINT.SRAM_SPARE_ROWS, Reg.MAINT.LEAVES] ++ summaryKeys) dt s t ∧
        t.dev.heart = { s.dev.heart with maint := t.dev.maint })) ∧
    (s.dev.get Reg.KINDLE.PHASE = 4 → s.dev.bootSrc ≤ 1 → s.dev.safeDefault = false →
      Completes (.selfTestDone dt 0 0 0) s (fun t =>
        t.dev.get Reg.KINDLE.PHASE = 5 ∧ t.dev.ds = dsKINDLING ∧ t.dev.get Reg.KINDLE.SOURCE = 0 ∧
        t.dev.get Reg.KINDLE.GENERATION = 0 ∧ t.dev.get Reg.PWMG.CAL_TT = s.ttAt dt ∧
        Framed [Reg.PWMG.CAL_TT, Reg.KINDLE.PHASE, Reg.KINDLE.SOURCE, Reg.KINDLE.GENERATION, Reg.KINDLE.IMG_A, Reg.KINDLE.IMG_B,
          Reg.KINDLE.IMG_EXT, Reg.IMAGE.TARGET, Reg.MAINT.LEAVES, Reg.UNITSUM.UNIT_SUMMARY, Reg.ERRSUM.ERROR_SUMMARY] dt s t)) ∧
    (s.dev.get Reg.KINDLE.PHASE = 4 → s.dev.safeDefault = true →
      Completes (.selfTestDone dt 0 0 0) s (fun t =>
        t.dev.ds = dsCONFIGURED ∧ t.dev.get Reg.KINDLE.PHASE = 7 ∧ t.dev.get Reg.KINDLE.SOURCE = 0 ∧ t.dev.frame.run = true ∧
        t.pending = s.pending)) ∧
    (s.dev.get Reg.KINDLE.PHASE = 4 → s.dev.safeDefault = false → s.dev.bootSrc ∈ [2, 3] →
      Completes (.selfTestDone dt 0 0 0) s (fun t =>
        t.dev.ds = dsKINDLING ∧ t.dev.get Reg.KINDLE.PHASE = 6 ∧ t.dev.kindle.waiting = true ∧
        t.dev.kindle.netBoot = decide (s.dev.bootSrc = 2) ∧ t.pending = s.pending)) ∧
    (s.dev.get Reg.KINDLE.PHASE = 4 → s.dev.safeDefault = false → s.dev.bootSrc ≤ 1 →
      let absorbed := fun (test src : Nat) (t : State) =>
        t.dev.ds = dsKINDLING ∧ t.dev.get Reg.KINDLE.PHASE = 5 ∧
        t.dev.get Reg.KINDLE.POST_FAIL = setBit (s.dev.get Reg.KINDLE.POST_FAIL) test ∧
        (∃ r ∈ t.dev.damper.raised, r.src = src ∧ r.at_ = t.dev.now ∧ r.kindling ≠ none) ∧ t.pending = s.pending
      Completes (.selfTestDone dt 0x020 (BitVec.twoPow 7 k) 0) s (fun t => absorbed 5 159 t ∧
        (k.val = 6 → t.dev.get Reg.SPARE.SPARE_STATE = 3 ∧ t.dev.bit Reg.SPARE.FAILED_LANES 6 = true) ∧
        (k.val < 6 → t.dev.get Reg.SPARE.SPARE_STATE = 2 ∧ t.dev.get Reg.SPARE.SERVES = k.val ∧
          field (t.dev.get Reg.SPARE.LANE_MAP) (4 * k.val) 4 = 6 ∧ t.dev.get (Reg.LANE.PHYS_LANE k) = 6 ∧
          t.dev.bit Reg.SPARE.FAILED_LANES (field (s.dev.get Reg.SPARE.LANE_MAP) (4 * k.val) 4) = true)) ∧
      Completes (.selfTestDone dt 0x040 0 (BitVec.twoPow 18 c)) s (fun t => absorbed 6 191 t ∧
        t.dev.get (Reg.CORES.STATE c) = kcRETIRED))

/-- A failed fuse CRC, an exhausted repair reserve, an uncorrectable MRAM error outside the image slots and a self-test that no
spare absorbs end kindling in SAFE (spec R81–R83, R97): each failed test shows in POST_FAIL. Where no source holds an image that
passes its checks, the image phase, which has read the flash (spec R473), and the network boot that times out, which takes its
ports down (spec R88), end in the wait for the service SPI (spec R80, R87, R92): that the image phase ends there at once, and
what the ports do after the timeout, is the model's reading (log 76), as is the slot that TARGET then names (log 12). -/
def Obligations.KindlingFailures : Prop :=
  (∀ (s : State) (dt rows bad : Nat) (fail : BitVec 12) (lanes : BitVec 7) (cores : BitVec 18), s.dev.ds = dsKINDLING →
     (s.dev.get Reg.KINDLE.PHASE = 2 → rows ≤ 1024 →
       Completes (.fusePhaseDone dt false rows) s (fun t => t.dev.ds = dsSAFE ∧ t.pending = s.pending)) ∧
     (s.dev.get Reg.KINDLE.PHASE = 3 → bad ≤ 2 →
       (Completes (.memoryPhaseDone dt rows true bad) s (fun t =>
         t.dev.ds = dsSAFE ∧ t.dev.bit Reg.KINDLE.POST_FAIL 2 = true ∧ (bad ≠ 0 → t.dev.bit Reg.KINDLE.POST_FAIL 3 = true) ∧
         t.pending = s.pending)) ∧
       (Completes (.memoryPhaseDone dt rows false 2) s (fun t =>
         t.dev.ds = dsSAFE ∧ t.dev.bit Reg.KINDLE.POST_FAIL 3 = true ∧ t.pending = s.pending))) ∧
     (s.dev.get Reg.KINDLE.PHASE = 4 → testsOk fail lanes cores = true →
       ((∃ k, k ∉ [5, 6] ∧ fail.getLsbD k = true) ∨ 2 ≤ ((List.range 7).filter lanes.getLsbD).length ∨
         3 ≤ ((List.range 18).filter cores.getLsbD).length) →
       Completes (.selfTestDone dt fail lanes cores) s (fun t =>
         t.dev.ds = dsSAFE ∧ (∀ k, fail.getLsbD k = true → t.dev.bit Reg.KINDLE.POST_FAIL k = true) ∧ t.pending = s.pending))) ∧
  (∀ (s : State) (dt : Nat) (flash : List Byte), s.Inv → s.dev.ds = dsKINDLING →
     (∀ slot, slot < 2 → imageCheck (s.dev.get Reg.IDENT.REVISION) (s.dev.slotBytes s.mem slot) ≠ igVALID) →
     (∀ k ∈ [Reg.KINDLE.IMG_A, Reg.KINDLE.IMG_B, Reg.KINDLE.IMG_EXT], s.dev.get k ≠ igVALID) →
     let links := [0, 1].map Reg.NETP.LINK
     let waits := fun (ks : List Nat) (t : State) => t.dev.get Reg.KINDLE.PHASE = 6 ∧ t.dev.ds = dsKINDLING ∧
       t.dev.kindle.waiting = true ∧ t.dev.kindle.netBoot = false ∧
       Framed (ks ++ [Reg.KINDLE.PHASE, Reg.KINDLE.IMG_A, Reg.KINDLE.IMG_B, Reg.KINDLE.IMG_EXT, Reg.IMAGE.TARGET]) dt s t
     (s.dev.get Reg.KINDLE.PHASE = 5 → s.dev.kindle.netBoot = false →
       imageCheck (s.dev.get Reg.IDENT.REVISION) (flashBytes flash) ≠ igVALID →
       Completes (.imagePhaseDone dt flash) s (fun t => waits [] t ∧ t.dev.out = [.qspi 0x6B 0 8] ∧ t.dev.net = s.dev.net)) ∧
     (s.dev.kindle.netBoot = true → (∃ t0, s.dev.kindle.netLinkAt = some t0 ∧ t0 + 600000000000 ≤ s.dev.now + dt) →
       Completes (.networkBootTimeout dt) s (fun t => waits links t ∧ (∀ k ∈ links, t.dev.get k = 0) ∧
         t.dev.net.wait = none ∧ t.dev.net.queue = [])))

/-- The twin start decision gives active (spec R97, R100): at the end of the watch window, with no ACT_IN edge seen in it, or at
once with twin operation disabled, CONFIGURED goes to LINKS_UP unless an ESTOP input is active. DEV_CMD in READY (spec R98,
R99): DEBLOCK is accepted and waits for the next boundary; BLOCK then cancels it, with DEBLOCK_CANCELLED set, and the device
stays in READY. DEV_CMD SWAP in RUNNING with a ready partner is accepted and waits for its ember (spec R99, R414); DEV_CMD
RELOAD goes back to the image phase of KINDLING (spec R89, R97, R99). -/
def Obligations.StartDecisionAndDeviceCommands : Prop :=
  (∀ (s : State) (dt : Nat), s.dev.ds = dsCONFIGURED → s.dev.safeDefault = false → s.dev.kindle.decided = false →
     (s.dev.twinEn = true → s.dev.twin.actSeen = false ∧
       s.dev.kindle.configuredAt + (1 + s.dev.twinId) * 10000000 ≤ s.dev.now + dt) →
     s.dev.estop = false →
     Completes (.twinStartWindowEnd dt) s (fun t =>
       t.dev.ds = dsLINKS_UP ∧ t.dev.get Reg.DEV.PREV_STATE = dsCONFIGURED ∧ t.dev.kindle.decided = true ∧ t.pending = s.pending)) ∧
  (∀ (s : State) (dt : Nat), (s.met dt).writable Reg.DEVCMD.DEV_CMD = true → s.dev.ds = dsREADY →
     (s.dev.estop = false →
       Completes (.deblock dt) s (fun t =>
         t.dev.status = stOK ∧ Framed [] dt s t ∧
         t.dev.inner = { s.dev.inner with kindle := { s.dev.kindle with deblock := true } })) ∧
     (s.dev.kindle.deblock = true →
       Completes (.block dt) s (fun t =>
         t.dev.status = stOK ∧ t.dev.ds = dsREADY ∧ t.dev.bit Reg.STN.LEAVES 2 = true ∧ t.dev.kindle.deblock = false ∧
         t.dev.arms = s.dev.arms ∧ Framed (Reg.STN.LEAVES :: summaryKeys) dt s t))) ∧
  (∀ (s : State) (dt : Nat), (s.met dt).writable Reg.DEVCMD.DEV_CMD = true →
     (s.dev.ds = dsRUNNING → s.dev.twinEn = true → s.dev.partnerReady = true → s.dev.twin.swap = 0 →
       Completes (.swap dt) s (fun t =>
         t.dev.status = stOK ∧ Framed [] dt s t ∧
         t.dev.inner = { s.dev.inner with twin := { s.dev.twin with swap := 1 } })) ∧
     (s.dev.ds ∈ [dsCONFIGURED, dsLINKS_UP, dsADMITTED, dsREADY] → s.dev.get Reg.LOCK.LOCK = 0 →
       s.dev.safeDefault = false → s.dev.bootSrc ≤ 1 →
       Completes (.reload dt) s (fun t =>
         t.dev.status = stOK ∧ t.dev.ds = dsKINDLING ∧ t.dev.get Reg.KINDLE.PHASE = 5 ∧ t.dev.shadow = [] ∧
         t.dev.ttZero = s.dev.ttZero ∧ t.dev.frame = s.dev.frame ∧ t.pending = s.pending)))

/-- LEAF_ACK (spec R43): a write to the ACK of a leaf object clears the event leaves that it names, but for those whose event
arrives at the same instant, and no other leaf; CMP_STATUS of a grid angle unit may go with its leaf. SUMMARY_READ (spec R37,
R55, R57): a read returns 0x2004 or 0x1001, with the reserved bits as written (log 78), and clears it and nothing else; with
0x1001 clear, IRQ_N is released. -/
def Obligations.LeafAckAndSummaryRead : Prop :=
  (∀ (s : State) (dt : Nat) (leaf : LeafReg) (mask again : BitVec 32),
     (s.met dt).writable (leafAckOf leaf).1 = true →
     ∃ key events, ackOf (leafAckOf leaf).1 = some (key, events) ∧
       Completes (.leafAck dt leaf mask again) s (fun t =>
         t.dev.status = stOK ∧
         (∀ b, t.dev.bit key b = (s.dev.bit key b && !(mask.getLsbD b && events.testBit b && !again.getLsbD b))) ∧
         Framed (key :: (match leaf with | .gau u => [Reg.GAU.CMP_STATUS u] | _ => [])) dt s t ∧ t.dev.inner = s.dev.inner)) ∧
  (∀ (s : State) (dt : Nat) (device : Bool), s.dev.live = true →
     let k := if device then Reg.ERRSUM.ERROR_SUMMARY else Reg.UNITSUM.UNIT_SUMMARY
     Completes (.summaryRead dt device) s (fun t =>
       t.dev.status = stOK ∧ t.dev.data = leBytes (if device then 1 else 4) (s.dev.get k ||| s.dev.rt.get k 0) ∧ t.dev.get k = 0 ∧
       (device = true → t.dev.irqLow = false) ∧ Framed [k] dt s t ∧ t.dev.inner = s.dev.inner))

/-- REGISTER_WRITE by access type and commit column (spec R7, R31, R36, R45, R62): a buffered field takes the value into its
shadow and keeps the one in force; a counter stores it and adds an increment that coincides; an immediate field has it at once;
read-only fields, wrong lengths and values out of range are refused and nothing changes; reserved bits beside read-only fields
take what is written (log 78); a field that hardware advances at the same instant keeps the hardware's value. -/
def Obligations.FieldWritesByAccessType : Prop :=
  ∀ (s : State) (dt : Nat) (idx : BitVec 16) (sub : Byte) (data : List Byte) (coincide : Bool) (e : Entry),
    let d := s.met dt
    let k := subKey idx.toNat sub.toNat
    let cmd := Instr.registerWrite dt idx sub data coincide
    let refused := fun (st : Nat) (t : State) => t.dev.status = st ∧ Framed [] dt s t ∧ t.dev.inner = s.dev.inner
    d.find idx.toNat sub.toNat false = .inl e → isTestIdx idx.toNat = false → d.writable k = true → s.dev.twin.cfg.length < 1536 →
    (e.acc ∈ [.ro, .rl, .rc] → rtMask k = 0 → Completes cmd s (refused stREAD_ONLY)) ∧
    (e.acc ∈ [.ro, .rl, .rc] → rtMask k ≠ 0 → pairKey k = k →
      (data.length ≠ e.size → Completes cmd s (refused stTYPE_LENGTH)) ∧
      (data.length = e.size → Completes cmd s (fun t =>
        t.dev.status = stOK ∧ t.dev.rt.get k 0 = ofLe data &&& rtMask k ∧ Framed [] dt s t ∧
        t.dev.inner = { s.dev.inner with rt := t.dev.rt } ∧ ∀ j, j ≠ k → t.dev.rt.get j 0 = s.dev.rt.get j 0))) ∧
    (e.acc ∈ [.rw, .lk, .ct, .rt] → pairKey k = k →
      (data.length ≠ e.size → Completes cmd s (refused stTYPE_LENGTH)) ∧
      (data.length = e.size → d.valueOk k e (ofLe data) = false → Completes cmd s (refused stRANGE)) ∧
      (data.length = e.size → d.valueOk k e (ofLe data) = true → coincide = true → advancedKey k = true →
        Completes cmd s (refused stSUPERSEDED)) ∧
      (d.takes k e data coincide = true →
        (e.acc = .ct → Completes cmd s (fun t =>
          t.dev.status = stOK ∧ t.dev.get k = (ofLe data + b2n coincide) % 2 ^ (8 * e.size) ∧ Framed [k] dt s t ∧
          t.dev.inner = s.dev.inner)) ∧
        (e.acc ≠ .ct → e.com = .buf → Completes cmd s (fun t =>
          t.dev.status = stOK ∧ t.dev.shadow = s.dev.shadow.put k (ofLe data) ∧ t.dev.getShadow k = ofLe data ∧
          t.dev.pendingGroups.testBit (s.dev.groupOf k) = true ∧
          Framed (if isStructKey k then [Reg.KILN.CHECK_STATE] else []) dt s t ∧
          t.dev.inner = { s.dev.inner with shadow := t.dev.shadow, twin := { s.dev.twin with cfg := t.dev.twin.cfg } })) ∧
        (e.acc ≠ .ct → e.com ≠ .buf → Completes cmd s (fun t =>
          t.dev.status = stOK ∧ (k ∉ countKeys → t.dev.get k = ofLe data) ∧ Framed (k :: countKeys) dt s t ∧
          t.dev.inner = { s.dev.inner with acq := t.dev.acq, twin := { s.dev.twin with cfg := t.dev.twin.cfg } }))))

/-- A write to a sub-entry whose lock is set (spec R41): ignored, with leaf LOCK_VIOL, LAST_VIOL, VIOL_COUNT, source F224 and
status LOCKED. -/
def Obligations.LockedWriteIsIgnored : Prop :=
  ∀ (s : State) (dt : Nat) (idx : BitVec 16) (sub : Byte) (data : List Byte) (coincide : Bool) (e : Entry),
    let d := s.met dt
    let k := subKey idx.toNat sub.toNat
    d.find idx.toNat sub.toNat false = .inl e → isTestIdx idx.toNat = false → d.live = true →
    d.writeState idx.toNat data = true → d.lockHolds k = true →
    Completes (.registerWrite dt idx sub data coincide) s (fun t =>
      t.dev.status = stLOCKED ∧ t.dev.bit Reg.REGST.LEAVES 0 = true ∧ t.dev.get Reg.REGST.LAST_VIOL = k ∧
      t.dev.get Reg.REGST.VIOL_COUNT = (s.dev.get Reg.REGST.VIOL_COUNT + 1) % 2 ^ 32 ∧ Raises 224 0xFF k s t ∧
      Framed ([Reg.REGST.LEAVES, Reg.REGST.LAST_VIOL, Reg.REGST.VIOL_COUNT] ++ summaryKeys) dt s t ∧ t.dev.heart = s.dev.heart)

/-- DEV_CMD by a plain write (spec R35, R99, R414): a code that the table does not list is ignored with RANGE, and one that the
present state does not accept with STATE: a RELOAD with a lock set and a SWAP with a partner that is not ready among them. -/
def Obligations.UnacceptedDeviceCommandIsIgnored : Prop :=
  ∀ (s : State) (dt : Nat) (v : Byte),
    let ignored := fun (st : Nat) (t : State) => t.dev.status = st ∧ Framed [] dt s t ∧ t.dev.inner = s.dev.inner
    let cmd := Instr.registerWrite dt 0x2001 0 [v] false
    (s.met dt).writable Reg.DEVCMD.DEV_CMD = true →
    (v ∉ [0x10, 0x11, 0x20, 0x30, 0x40] → Completes cmd s (ignored stRANGE)) ∧
    (v = 0x10 → (s.dev.ds ≠ dsREADY ∨ s.dev.estop = true) → Completes cmd s (ignored stSTATE)) ∧
    (v = 0x11 → s.dev.ds ≠ dsRUNNING → (s.dev.ds ≠ dsREADY ∨ s.dev.kindle.deblock = false) → Completes cmd s (ignored stSTATE)) ∧
    (v = 0x20 → (s.dev.ds ≠ dsRUNNING ∨ s.dev.twinEn = false ∨ s.dev.partnerReady = false) → Completes cmd s (ignored stSTATE)) ∧
    (v = 0x40 → (s.dev.ds ∉ [dsCONFIGURED, dsLINKS_UP, dsADMITTED, dsREADY] ∨ s.dev.get Reg.LOCK.LOCK ≠ 0 ∨ s.dev.safeDefault = true) →
      Completes cmd s (ignored stSTATE))

/-- TEST_SPACE_WRITE by the device state (spec R39): executed, or refused with STATE, in RUNNING and TAKEOVER with leaf
TEST_WRITE and F225; in BANKED the fabric serves nothing. Which entries there are, and that an executed write stores its value
and changes nothing else, is the model's choice (log 9). -/
def Obligations.TestSpaceWriteByDeviceState : Prop :=
  ∀ (s : State) (dt : Nat) (idx : BitVec 16) (sub : Byte) (data : List Byte) (e : Entry),
    let k := subKey idx.toNat sub.toNat
    let cmd := Instr.testSpaceWrite dt idx sub data
    testIdxOk idx = true → (s.met dt).find idx.toNat sub.toNat false = .inl e →
    (s.dev.ds ∈ [dsCONFIGURED, dsLINKS_UP, dsADMITTED, dsREADY, dsSAFE] → ¬ (s.dev.ds = dsCONFIGURED ∧ s.dev.safeDefault = true) →
      (e.acc = .ro → Completes cmd s (fun t => t.dev.status = stREAD_ONLY ∧ Framed [] dt s t ∧ t.dev.inner = s.dev.inner)) ∧
      (e.acc ≠ .ro → data.length = e.size →
        Completes cmd s (fun t => t.dev.status = stOK ∧ t.dev.get k = ofLe data ∧ Framed [k] dt s t ∧ t.dev.inner = s.dev.inner))) ∧
    (s.dev.ds = dsKINDLING →
      Completes cmd s (fun t => t.dev.status = stSTATE ∧ Framed [] dt s t ∧ t.dev.inner = s.dev.inner)) ∧
    (s.dev.ds ∈ [dsRUNNING, dsTAKEOVER] →
      Completes cmd s (fun t => t.dev.status = stSTATE ∧ t.dev.bit Reg.REGST.LEAVES 3 = true ∧ Raises 225 0xFF 0 s t ∧
        Framed (Reg.REGST.LEAVES :: summaryKeys) dt s t ∧ t.dev.heart = s.dev.heart)) ∧
    (s.dev.ds = dsBANKED →
      Completes cmd s (fun t => t.dev.status = s.dev.status ∧ Framed [] dt s t ∧ t.dev.inner = s.dev.inner))

/-- LOCK_SET (spec R36, R40, R42): ones set lock bits and zeros leave them; the reserved bits [7:5] take what is written; the
values that wait in a domain that becomes locked are discarded, and no other; DISCARD is set only where one was.
COMMIT_MAP_WRITE (spec R46, R47): a group above 7 is out of range; while anything waits for a strobe the write returns BUSY with
MAP_BUSY; where both hold it is refused as well, in the order that the model chose (log 77); else the domain has its group. -/
def Obligations.LockSetAndCommitMap : Prop :=
  (∀ (s : State) (dt : Nat) (v : Byte),
     let newly := fun k => ∃ l, lockOf k = some l ∧ v.getLsbD l.bit = true ∧ s.dev.bit Reg.LOCK.LOCK l.bit = false
     (s.met dt).writable Reg.LOCK.LOCK = true → s.dev.twin.cfg.length < 1536 →
     Completes (.lockSet dt v) s (fun t =>
       t.dev.status = stOK ∧
       (∀ b, t.dev.bit Reg.LOCK.LOCK b = if b < 5 then s.dev.bit Reg.LOCK.LOCK b || v.getLsbD b else v.getLsbD b) ∧
       (∀ e, e ∈ t.dev.shadow ↔ e ∈ s.dev.shadow ∧ ¬ newly e.1) ∧
       (t.dev.bit Reg.REGST.LEAVES 1 = true ↔ s.dev.bit Reg.REGST.LEAVES 1 = true ∨ ∃ e ∈ s.dev.shadow, newly e.1) ∧
       Framed ([Reg.LOCK.LOCK, Reg.REGST.LEAVES] ++ summaryKeys) dt s t ∧
       t.dev.heart = { s.dev.heart with shadow := t.dev.shadow, twin := { s.dev.twin with cfg := t.dev.twin.cfg } })) ∧
  (∀ (s : State) (dt : Nat) (dom : Fin 10) (v : Byte),
     let cmd := Instr.commitMapWrite dt dom v
     (s.met dt).writable (Reg.CMAP.GROUP dom) = true → s.dev.twin.cfg.length < 1536 →
     (7 < v.toNat → s.dev.pendingGroups = 0 →
       Completes cmd s (fun t => t.dev.status = stRANGE ∧ Framed [] dt s t ∧ t.dev.inner = s.dev.inner)) ∧
     (7 < v.toNat → s.dev.pendingGroups ≠ 0 →
       Completes cmd s (fun t => t.dev.status ∈ [stRANGE, stBUSY] ∧ Framed (Reg.REGST.LEAVES :: summaryKeys) dt s t ∧
         t.dev.heart = s.dev.heart)) ∧
     (v.toNat ≤ 7 → s.dev.pendingGroups ≠ 0 →
       Completes cmd s (fun t => t.dev.status = stBUSY ∧ t.dev.bit Reg.REGST.LEAVES 5 = true ∧
         Framed (Reg.REGST.LEAVES :: summaryKeys) dt s t ∧ t.dev.heart = s.dev.heart)) ∧
     (v.toNat ≤ 7 → s.dev.pendingGroups = 0 →
       Completes cmd s (fun t => t.dev.status = stOK ∧ t.dev.get (Reg.CMAP.GROUP dom) = v.toNat ∧
         Framed [Reg.CMAP.GROUP dom] dt s t ∧
         t.dev.inner = { s.dev.inner with twin := { s.dev.twin with cfg := t.dev.twin.cfg } })))

/-- The strobes of COMMIT (spec R48–R50, R52, R143, R158, R222, R262, R330, R356): a write to STROBE, a selected COMMIT_IN edge
and the firing of the commit compare apply their groups from the apply index K of their strobe time. A strobe of groups without
pending values records K and changes nothing else; a pending value comes into force, and a sample below K still uses the old
one. A value that its domain refuses goes on waiting, and the old one stays in force: a frame period that a port's plan does not
fit (PLAN_REFUSED), a port taken from an arm that is not BLOCKED (MAP_STATUS), a coefficient that contradicts its arm's others,
a comparator's limits, a PWM period (CFG_REFUSED or the unit's own leaf), and structure without a passed check. -/
def Obligations.StrobesApplyFromTheApplyIndex : Prop :=
  ∀ (s : State) (dt mask ts : Nat) (v : Byte) (rising : Bool) (i : Instr) (more : List Nat),
    let K := applyIndex ts
    let marks := more ++ (List.range 8).map Reg.COMMIT.LAST_SI ++ countKeys
    let e := s.dev.get Reg.COMMIT.PIN_EDGE
    let last := fun t : State => ∀ g, g < 8 →
      t.dev.get (Reg.COMMIT.LAST_SI g) = if mask.testBit g then K else s.dev.get (Reg.COMMIT.LAST_SI g)
    (i = .commitStrobe dt v ∧ (s.met dt).writable Reg.COMMIT.STROBE = true ∧ mask = v.toNat ∧ ts = s.ttAt dt ∧ more = []) ∨
    (i = .commitInEdge dt rising ∧ s.dev.live = true ∧ (e = 2 ∨ (e = 0 ∧ rising = true) ∨ (e = 1 ∧ rising = false)) ∧
      mask = s.dev.get Reg.COMMIT.SRC_PIN ∧ mask ≠ 0 ∧ ts = (s.met dt).tick ∧ more = []) ∨
    (i = .commitTimeFire dt ∧ s.dev.get Reg.COMMIT.TIME_ARMED ≠ 0 ∧ s.dev.time.commitFar = false ∧
      0 ≤ diffW 64 (s.met dt).tick (s.dev.get Reg.COMMIT.TIME_AT) ∧ mask = s.dev.get Reg.COMMIT.SRC_TIME ∧
      ts = s.dev.get Reg.COMMIT.TIME_AT ∧ more = [Reg.COMMIT.TIME_ARMED]) →
    ((∀ p ∈ s.dev.shadow, mask.testBit (s.dev.groupOf p.1) = false) → (s.dev.lastApply = K → s.dev.refused = []) →
      Completes i s (fun t => last t ∧ (∀ k ∈ more, t.dev.get k = 0) ∧ Framed marks dt s t ∧
        t.dev.heart = { s.dev.heart with hist := t.dev.hist, lastApply := K, refused := [] })) ∧
    (∀ k x, s.dev.shadow = [(k, x)] → mask.testBit (s.dev.groupOf k) = true → (∀ o ∈ s.dev.hist, o.key ≠ k) →
      ((0x1130 ≤ k / 256 ∧ k / 256 ≤ 0x113F) ∨ (0x2800 ≤ k / 256 ∧ k / 256 ≤ 0x2805)) →
      Completes i s (fun t => last t ∧ (∀ k ∈ more, t.dev.get k = 0) ∧ t.dev.get k = x ∧ t.dev.pendingGroups = 0 ∧
        (∀ si, 0x2800 ≤ k / 256 → t.dev.getAt si k = if si < K then s.dev.get k else x) ∧ Framed (k :: marks) dt s t ∧
        t.dev.heart = { s.dev.heart with shadow := [], hist := t.dev.hist, lastApply := K, refused := [] })) ∧
    (∀ k x, s.dev.shadow = [(k, x)] → mask.testBit (s.dev.groupOf k) = true → (s.dev.lastApply = K → s.dev.refused = []) →
      let stays := fun (keys : List Nat) (t : State) => last t ∧ (∀ k ∈ more, t.dev.get k = 0) ∧ t.dev.get k = s.dev.get k ∧
        t.dev.shadow = s.dev.shadow ∧ Framed (keys ++ summaryKeys ++ marks) dt s t ∧
        t.dev.heart = { s.dev.heart with hist := t.dev.hist, lastApply := K, refused := [(k, x)] }
      (∀ p, p < 24 → k = Reg.LINK.TF → (s.dev.armOfPort p).isSome = true →
        Plan.fits { eq := s.dev.get (Reg.PORT.EQ_TARGET p), nSod := s.dev.get (Reg.PORT.N_SOD p), mgmt := s.dev.get (Reg.PORT.MGMT_SLOTS p)
                    lo := s.dev.get (Reg.PORT.TINDER_LO p), hi := s.dev.get (Reg.PORT.TINDER_HI p) } x = false →
        Completes i s (fun t => stays ((List.range 24).map Reg.PORT.LEAVES) t ∧ t.dev.bit (Reg.PORT.LEAVES p) 8 = true)) ∧
      (∀ p a, p < 24 → a < 6 → k = Reg.PMAP.PORT_ARM p → x ≠ s.dev.get k → (a = x ∨ a = s.dev.get k) → s.dev.armState a ≠ asBLOCKED →
        Completes i s (fun t => stays [Reg.PMAP.MAP_STATUS] t ∧ t.dev.get Reg.PMAP.MAP_STATUS ∈ [1, 2])) ∧
      (∀ leaf b, (∃ a, a < 6 ∧ k = Reg.ARM.H_OUT a ∧ x ≤ s.dev.get (Reg.ARM.H_IN a) ∧ leaf = Reg.ARM.LEAVES a ∧ b = 7) ∨
          (∃ c, c < 12 ∧ k = Reg.OC.UPPER c ∧ x ≤ s.dev.get (Reg.OC.LOWER c) ∧ leaf = Reg.MEAS.LEAVES ∧ b = 2) ∨
          (∃ n, n < 6 ∧ k = Reg.PWM.PERIOD n ∧ x ≤ s.dev.get (Reg.PWM.PHASE n) ∧ leaf = Reg.PWM.LEAVES n ∧ b = 5) ∨
          (isStructKey k = true ∧ s.dev.get Reg.KILN.CHECK_STATE ≠ 2 ∧ leaf = Reg.KILN.LEAVES ∧ b = 4) →
        Completes i s (fun t => stays [leaf, Reg.ARMG.LAST_ARM] t ∧ t.dev.bit leaf b = true)))

/-- COMMIT_TIME_ARM (spec R36, R48, R49): the compare waits for its time; while it is armed another arming is BUSY; a time that
lies in the past fires at once, with leaf COMMIT_LATE and source F070 (log 25); that a value other than 1 answers OK without
effect is the model's choice (log 8). -/
def Obligations.CommitCompareArms : Prop :=
  ∀ (s : State) (dt : Nat) (v : Byte),
    let diff := diffW 64 (s.dev.get Reg.COMMIT.TIME_AT) (s.ttAt dt)
    let cmd := Instr.commitTimeArm dt v
    (s.met dt).writable Reg.COMMIT.TIME_ARM = true →
    (v ≠ 1 → Completes cmd s (fun t => t.dev.status = stOK ∧ Framed [] dt s t ∧ t.dev.inner = s.dev.inner)) ∧
    (v = 1 → s.dev.get Reg.COMMIT.TIME_ARMED ≠ 0 →
      Completes cmd s (fun t => t.dev.status = stBUSY ∧ Framed [] dt s t ∧ t.dev.inner = s.dev.inner)) ∧
    (v = 1 → s.dev.get Reg.COMMIT.TIME_ARMED = 0 → 0 ≤ diff →
      Completes cmd s (fun t => t.dev.status = stOK ∧ t.dev.get Reg.COMMIT.TIME_ARMED = 1 ∧ Framed [Reg.COMMIT.TIME_ARMED] dt s t ∧
        t.dev.inner = { s.dev.inner with time := { s.dev.time with commitFar := decide ((2 ^ 31 : Int) ≤ diff) } })) ∧
    (v = 1 → s.dev.get Reg.COMMIT.TIME_ARMED = 0 → diff < 0 → s.dev.shadow = [] →
      Completes cmd s (fun t => t.dev.status = stOK ∧ t.dev.get Reg.COMMIT.TIME_ARMED = 0 ∧
        (∀ g, g < 8 → s.dev.bit Reg.COMMIT.SRC_TIME g = true →
          t.dev.get (Reg.COMMIT.LAST_SI g) = applyIndex (s.met dt).nextTick) ∧
        t.dev.bit Reg.REGST.LEAVES 2 = true ∧ t.dev.bit Reg.TB.LEAVES 7 = true ∧ Raises 70 0xFF 0 s t ∧
        Framed ([Reg.REGST.LEAVES, Reg.TB.LEAVES] ++ summaryKeys ++ (List.range 8).map Reg.COMMIT.LAST_SI ++ countKeys) dt s t ∧
        t.dev.heart = { s.dev.heart with hist := t.dev.hist, lastApply := applyIndex (s.met dt).nextTick, refused := [] }))

/-- An IOP request (spec R59–R66): one that is accepted has its items run in order and is answered with OK, its SEQ, its TYPE
with bit 7 set and its items' bytes, beyond which only the counts of frames and events move; one that repeats a kept request is
answered from its response and not run again; one whose header or items do not parse is answered with BAD_HEADER, and one whose
response would not fit with TOO_LARGE, and neither runs. One that is not for the device is dropped, a malformed one is counted
in IOP_BAD_COUNT and one that the allowlist does not admit in ALLOW_DROPS, and none is answered. A request with a body above
1,440 bytes or a STATUS that is not 0 is served as any other: the model's choice, log 83; which of these tests goes first is log
17. -/
def Obligations.IopRequestIsAnswered : Prop :=
  ∀ (s : State) (dt : Nat) (u : Udp) (i : Instr) (is : List IopItem),
    let f := (s.met dt).frameIn u.rx
    let d := f.1
    let n := u.rx.net.val
    let p := u.payload
    let ty := (p.getD 1 0).toNat
    let seq := ofLe ((p.drop 2).take 2)
    let repeats := fun k : Kept => k.src = u.src ∧ k.port = u.srcPort.toNat ∧ k.seq = seq ∧ k.content = p
    let r := Dev.iopRun s.mem d is
    let ps := d.txPorts n
    let frames := [0, 1].map Reg.NETP.TX_FRAMES
    let counted := [Reg.NETP.RX_FRAMES n, Reg.NETP.WRONG_LAN n]
    let answer := fun b => NetMsg.udp u.dst u.src u.dstPort.toNat u.srcPort.toNat b
    let mine := d.iopServes = true ∧ d.ownsIp n u.dst = true ∧ u.dstPort.toNat = d.get Reg.IOP.UDP_PORT
    let heard := fun t : State => t.dev.inner = { s.dev.inner with net := { s.dev.net with seen := t.dev.net.seen } }
    let counts := fun key => Completes i s (fun t =>
      t.dev.out = [] ∧ t.dev.get key = (s.dev.get key + 1) % 2 ^ 32 ∧ Framed (key :: counted) dt s t ∧ heard t)
    let turnedAway := fun st => Completes i s (fun t =>
      t.dev.out = d.copies ps (answer (iopMessage (ty + 0x80) seq st 0 [])) ∧ Framed (counted ++ frames) dt s t ∧
      (∃ k ∈ t.dev.net.kept, repeats k ∧ k.response = iopMessage (ty + 0x80) seq st 0 []) ∧
      t.dev.inner = { s.dev.inner with net := { s.dev.net with
        seen := t.dev.net.seen, txSeq := t.dev.net.txSeq, kept := t.dev.net.kept } })
    i ∈ [.iopRead dt u, .iopWrite dt u, .iopReadBlock dt u, .iopWriteBlock dt u, .iopCommit dt u] → i.wf = true → f.2 = true →
    (¬ mine → Completes i s (fun t => t.dev.out = [] ∧ Framed counted dt s t ∧ heard t)) ∧
    (mine → iopMalformed p = true → counts Reg.REGST.IOP_BAD_COUNT) ∧
    (mine → iopMalformed p = false → d.allowed u.src = false → counts Reg.IOP.ALLOW_DROPS) ∧
    (mine → iopMalformed p = false → d.allowed u.src = true → d.net.wait = none → d.portBusy = false →
      ((∀ k ∈ d.keptNow, ¬ repeats k) → iopParse p = none → turnedAway stBAD_HEADER) ∧
      ((∀ k ∈ d.keptNow, ¬ repeats k) → iopParse p = some is → 1440 < d.iopSize s.mem is → turnedAway stTOO_LARGE) ∧
      ((∀ k ∈ d.keptNow, ¬ repeats k) → iopParse p = some is → d.iopSize s.mem is ≤ 1440 → r.2.2 = none → r.1.justReset = false →
        (∀ p ∈ ps, r.1.netLive p = true) →
        Completes i s (fun t =>
          t.pending = s.pending ∧ t.dev.out = r.1.out ++ r.1.copies ps (answer (iopMessage (ty + 0x80) seq stOK is.length r.2.1)) ∧
          (∃ k ∈ t.dev.net.kept, repeats k ∧ k.response = iopMessage (ty + 0x80) seq stOK is.length r.2.1) ∧
          KeepsBut (frames ++ countKeys) r.1 t.dev ∧ ∀ a, t.mem.read a = (s.mem.apply r.1.memQ).read a)) ∧
      (∀ k, d.keptNow.find? (fun k => k.src == u.src && k.port == u.srcPort.toNat && k.seq == seq && k.content == p) = some k →
        Completes i s (fun t =>
          t.dev.out = d.copies ps (answer k.response) ∧ t.dev.get Reg.IOP.DUP_HITS = (s.dev.get Reg.IOP.DUP_HITS + 1) % 2 ^ 32 ∧
          Framed (Reg.IOP.DUP_HITS :: frames ++ counted) dt s t ∧
          t.dev.inner = { s.dev.inner with net := { s.dev.net with seen := t.dev.net.seen, txSeq := t.dev.net.txSeq } })))

/-- The end of DUP_CACHE (spec R64) and a NOTIFY (spec R58, R63): requests within DUP_CACHE stay and the rest go; a NOTIFY that
waits leaves once NOTIFY_GAP has passed since the last, with the bits that rose, and clears no summary. By which port and from
which address it leaves, and that it shows ERROR_SUMMARY and TT as they are when it leaves, is the model's reading (log 23). -/
def Obligations.CacheExpiryAndNotify : Prop :=
  ∀ (s : State) (dt : Nat) (n : Fin 2) (port : Nat) (src : IpAddr),
    let d := s.met dt
    let x := s.dev.net.notify.get n {}
    Completes (.dupCacheExpiry dt) s (fun t =>
      (∀ k, k ∈ t.dev.net.kept ↔ k ∈ s.dev.net.kept ∧ s.dev.now + dt < k.at_ + s.dev.get Reg.IOP.DUP_CACHE * 10000000) ∧
      Framed [] dt s t ∧ t.dev.inner = { s.dev.inner with net := { s.dev.net with kept := t.dev.net.kept } }) ∧
    (d.live = true → d.bootNet = false → x.queued = true → s.dev.get (Reg.NDEST.ENABLE n) ≠ 0 →
      (∀ t0, x.last = some t0 → t0 + s.dev.get Reg.IOP.NOTIFY_GAP * 10000 ≤ s.dev.now + dt) →
      d.route (d.notifyDst n) = some (port, src) →
      Completes (.notify dt n) s (fun t =>
        t.dev.out = d.copies (d.txPorts port) (.udp src (d.notifyDst n) (s.dev.get Reg.IOP.UDP_PORT) (s.dev.get (Reg.NDEST.PORT n))
          (iopMessage 6 x.seq 0 1 (leBytes 4 x.bits ++ leBytes 1 (s.dev.get Reg.ERRSUM.ERROR_SUMMARY) ++ [0, 0, 0] ++
            leBytes 8 (s.ttAt dt)))) ∧
        t.dev.net.notify.get n {} = { bits := 0, queued := false, last := some (s.dev.now + dt), seq := (x.seq + 1) % 65536 } ∧
        (∀ o : Fin 2, o ≠ n → t.dev.net.notify.get o {} = s.dev.net.notify.get o {}) ∧
        Framed ([0, 1].map Reg.NETP.TX_FRAMES) dt s t ∧
        t.dev.heart = { s.dev.heart with net := { s.dev.net with notify := [], txSeq := t.dev.net.txSeq } }))

/-- Service SPI (spec R67–R69, R256): a request whose CRC is right is executed as the access that it names and answered with
START, its status, what it read, and a CRC; an accepted write of ARM_CMD is not answered yet, for its arm's sample; one whose
CRC is wrong is not executed, and sets SPI_CRC, counts, and raises F227. The corner cases of LEN and the reply's form in them
(log 21) and that the answer to an ARM_CMD waits for the sample (log 20) are the model's reading. -/
def Obligations.SpiRequestIsAnswered : Prop :=
  ∀ (s : State) (dt cmd : Nat) (bs : List Byte) (i : Instr),
    let d := s.met dt
    let idx := ofLe ((bs.drop 1).take 2)
    let sub := (bs.getD 3 0).toNat
    let len := (bs.getD 4 0).toNat
    let off := ofLe ((bs.drop 5).take 4)
    let n := spiLength cmd len
    let d' : Dev :=
      match cmd with
      | 1 => d.read idx sub
      | 2 => d.write s.mem idx sub ((bs.drop 5).take len) { net := some false }
      | 3 => d.blockRead s.mem idx sub off len (len != 0)
      | _ => d.blockWrite s.mem idx sub off ((bs.drop 9).take len) (len != 0)
    let data := if d'.status = stOK then d'.data else []
    let body := BitVec.ofNat 8 d'.status :: (if cmd = 1 ∨ cmd = 3 then BitVec.ofNat 8 data.length :: data else [])
    (cmd, i) ∈ [(1, .spiRead dt bs), (2, .spiWrite dt bs), (3, .spiReadBlock dt bs), (4, .spiWriteBlock dt bs)] →
    (bs.getD 0 0).toNat = cmd → n < bs.length → d.live = true → s.dev.net.spiWait = none →
    (crc8 (bs.take n) = (bs.getD n 0).toNat → d.portBusy = false → d'.justReset = false →
      (cmd = 2 → d'.writeWaits idx sub = none) →
      Completes i s (fun t =>
        t.pending = s.pending ∧ t.dev.out.getLast? = some (.spi (0x5A :: body ++ [BitVec.ofNat 8 (crc8 body)])) ∧
        t.dev.status = d'.status ∧ KeepsBut countKeys d' t.dev ∧ ∀ a, t.mem.read a = (s.mem.apply d'.memQ).read a)) ∧
    (∀ a, crc8 (bs.take n) = (bs.getD n 0).toNat → d.portBusy = false → cmd = 2 → d'.writeWaits idx sub = some a →
      Completes i s (fun t =>
        t.pending = s.pending ∧ t.dev.out = d'.out ∧ t.dev.net.spiWait = some { arm := a, result := none, heard := true } ∧
        KeepsBut [] d' t.dev)) ∧
    (crc8 (bs.take n) ≠ (bs.getD n 0).toNat →
      Completes i s (fun t =>
        t.dev.out = [.spi [0x5A, 0x0F, BitVec.ofNat 8 (crc8 [0x0F])]] ∧ t.dev.status = stCRC_ERROR ∧
        t.dev.bit Reg.REGST.LEAVES 4 = true ∧
        t.dev.get Reg.REGST.SPI_CRC_COUNT = (s.dev.get Reg.REGST.SPI_CRC_COUNT + 1) % 2 ^ 32 ∧ Raises 227 0xFF 0 s t ∧
        Framed ([Reg.REGST.LEAVES, Reg.REGST.SPI_CRC_COUNT] ++ summaryKeys) dt s t ∧ t.dev.heart = s.dev.heart))

/-- The ports of the field network (spec R71–R73, R465): LINK follows the link of a port that runs, which SGMII gives for 1,000
Mbit/s full duplex alone and 1000BASE-X for full duplex; a supervision frame leaves on each port of a PRP pair that has link
when the life-check interval ends; ARP, neighbour discovery and echo are answered for the device's own addresses, in PRP on both
ports with one sequence number. A frame with the wrong LAN identifier is counted and served (log 22). -/
def Obligations.FieldNetworkServices : Prop :=
  ∀ (s : State) (dt : Nat) (n : Fin 2) (w : LinkWord) (rx : NetRx) (a : BitVec 32) (b : BitVec 128) (src dst : IpAddr) (data : List Byte),
    let d := s.met dt
    let counts := [0, 1].map Reg.NETP.TX_FRAMES ++ [Reg.NETP.RX_FRAMES rx.net, Reg.NETP.WRONG_LAN rx.net]
    let answered := fun (q : NetReq) (msg : NetMsg) => Completes (.netServiceRequest dt rx q) s (fun t =>
      t.dev.out = d.copies (d.txPorts rx.net) msg ∧ Framed counts dt s t ∧
      t.dev.inner = { s.dev.inner with net := { s.dev.net with seen := t.dev.net.seen, txSeq := t.dev.net.txSeq } })
    let up := match w with
      | .up sp full => full && (d.netIf n != 0 || sp == .mbps1000)
      | .down => false
    ((up = true → d.netRuns n = true) →
      Completes (.netLinkChange dt n w) s (fun t =>
        t.dev.bit (Reg.NETP.LINK n) 0 = up ∧ Framed (Reg.NETP.LINK n :: summaryKeys) dt s t ∧
        t.dev.heart = { s.dev.heart with kindle := { s.dev.kindle with netLinkAt :=
          if up && s.dev.kindle.netBoot && s.dev.kindle.netLinkAt.isNone then some (s.dev.now + dt) else s.dev.kindle.netLinkAt } })) ∧
    (d.prp = true → s.dev.net.supervisionAt ≤ s.dev.now + dt → d.netLive 0 = true ∨ d.netLive 1 = true →
      Completes (.prpSupervision dt) s (fun t =>
        t.dev.out = d.copies ([0, 1].filter d.netLive) .supervision ∧
        Framed ([0, 1].map Reg.NETP.TX_FRAMES) dt s t ∧
        t.dev.inner = { s.dev.inner with net := { s.dev.net with
          txSeq := (s.dev.net.txSeq + 1) % 65536
          supervisionAt := s.dev.now + dt + s.dev.get Reg.NET.LIFE_CHECK * 10000000 } })) ∧
    ((d.frameIn rx).2 = true →
      (d.ownsV4 rx.net a.toNat = true → answered (.arp a) (.arp a.toNat false)) ∧
      (d.ownsV6 rx.net b.toNat = true → answered (.neighbour b) (.neighbour b.toNat false)) ∧
      (d.ownsIp rx.net dst = true → answered (.echo src dst data) (.echo dst src data)))

/-- Image delivery (spec R91–R94): a window write stores its bytes in the target slot, which becomes WRITING, and nowhere else;
VERIFY starts the check of that slot, and is busy while a check runs; its end stores the slot's status; ERASE clears its MAGIC.
Which slot TARGET names from then on is the model's reading (log 12), and IMAGE_VERIFY as a command of its own counts as
delivered by the network in network boot (log 101). What the end of a check loads stands in ImagesAreLoadedOrRefused. -/
def Obligations.ImageDelivery : Prop :=
  ∀ (s : State) (dt src : Nat) (off : BitVec 32) (data : List Byte), s.Inv →
    let T := s.dev.get Reg.IMAGE.TARGET
    let base := Mem.image (T - 1)
    let open_ := fun k => (s.met dt).serves = true ∧ (s.met dt).beforeFuses = false ∧ (s.met dt).lockHolds k = false
    let within := fun (t : State) (ks : List Nat) => t.pending = s.pending ∧ KeepsBut (Reg.IMAGE.TARGET :: ks) s.dev t.dev
    (T ∈ [1, 2] →
      (open_ Reg.IMAGE.WINDOW →
        (off.toNat + data.length ≤ Mem.imageSize → Completes (.imageWindowWrite dt off data) s (fun t =>
          t.dev.status = stOK ∧ t.dev.get (imageKey T) = igWRITING ∧ within t [imageKey T] ∧ t.dev.inner = s.dev.inner ∧
          (∀ j, (h : j < data.length) → t.mem.read (base + off.toNat + j) = data[j]) ∧
          ∀ a, a < base + off.toNat ∨ base + off.toNat + data.length ≤ a → t.mem.read a = s.mem.read a)) ∧
        (Mem.imageSize < off.toNat + data.length → Completes (.imageWindowWrite dt off data) s (fun t =>
          t.dev.status = stBAD_OFFSET ∧ within t [] ∧ t.dev.inner = s.dev.inner ∧ ∀ a, t.mem.read a = s.mem.read a))) ∧
      (open_ Reg.IMAGE.VERIFY → s.dev.kindle.verify = none → Completes (.imageVerify dt 1) s (fun t =>
        t.dev.status = stOK ∧ Framed [] dt s t ∧
        t.dev.inner = { s.dev.inner with kindle := { s.dev.kindle with verify := some T, verifyNet := s.dev.kindle.netBoot } })) ∧
      (open_ Reg.IMAGE.VERIFY → s.dev.kindle.verify ≠ none → Completes (.imageVerify dt 1) s (fun t =>
        t.dev.status = stBUSY ∧ Framed [] dt s t ∧ t.dev.inner = s.dev.inner)) ∧
      (open_ Reg.IMAGE.ERASE → Completes (.imageErase dt 1) s (fun t =>
        t.dev.status = stOK ∧ t.dev.get (imageKey T) = igEMPTY ∧ within t [imageKey T] ∧ t.dev.inner = s.dev.inner ∧
        (∀ j, j < 4 → t.mem.read (base + j) = Memory.empty) ∧ ∀ a, a < base ∨ base + 4 ≤ a → t.mem.read a = s.mem.read a))) ∧
    (let st := imageCheck (s.dev.get Reg.IDENT.REVISION) (s.dev.slotBytes s.mem (src - 1))
     src ∈ [1, 2] → s.dev.kindle.verify = some src → (st ≠ igVALID ∨ s.dev.ds ≠ dsKINDLING ∨ s.dev.kindle.waiting = false) →
     Completes (.imageVerifyDone dt) s (fun t =>
      t.dev.get (imageKey src) = st ∧
      within t [imageKey src] ∧ t.dev.inner = { s.dev.inner with kindle := { s.dev.kindle with verify := none } } ∧
      ∀ a, t.mem.read a = s.mem.read a))

/-- Software writes of RATE, OFFSET and EPOCH_SEC (spec R111): they apply at once while the servo is DISABLED, return STATE
while it is not, but for EPOCH_SEC with SOURCE PPS_IN, and SUPERSEDED where a servo update of the field meets them. -/
def Obligations.TimeWritesFollowTheServo : Prop :=
  ∀ (s : State) (dt : Nat) (v : BitVec 32) (sub : Byte) (data : List Byte) (coincide : Bool),
    let k := 0x2100 * 256 + sub.toNat
    let free := s.dev.get Reg.SERVO.STATE = 0 ∨ (sub = 4 ∧ s.dev.get Reg.SERVO.SOURCE = 1)
    let refused := fun (st : Nat) (t : State) => t.dev.status = st ∧ Framed [] dt s t ∧ t.dev.inner = s.dev.inner
    let write := Instr.registerWrite dt 0x2100 sub data coincide
    let rate := Instr.rateWrite dt v coincide
    (s.met dt).writable k = true →
    (sub ∈ [3, 4] → data.length = 8 →
      (coincide = true → Completes write s (refused stSUPERSEDED)) ∧
      (coincide = false → ¬ free → Completes write s (refused stSTATE)) ∧
      (coincide = false → free → Completes write s (fun t => t.dev.status = stOK ∧ t.dev.get k = ofLe data ∧ Framed [k] dt s t ∧
        t.dev.inner = { s.dev.inner with time := { s.dev.time with changes := t.dev.time.changes }
                                         acq := { s.dev.acq with stChanged := t.dev.acq.stChanged } }))) ∧
    (sub = 2 → -rateMax ≤ toSigned 32 v.toNat → toSigned 32 v.toNat ≤ rateMax →
      (coincide = true → Completes rate s (refused stSUPERSEDED)) ∧
      (coincide = false → s.dev.get Reg.SERVO.STATE ≠ 0 → Completes rate s (refused stSTATE)) ∧
      (coincide = false → s.dev.get Reg.SERVO.STATE = 0 → Completes rate s (fun t =>
        t.dev.status = stOK ∧ t.dev.rate = toSigned 32 v.toNat)))

/-- RATE_WRITE (spec R109, R110): a RATE beyond ±200 ppm returns RANGE; one that applies moves OFFSET so that station time is
continuous at the TT of the write. TIME_LATCH and ST_TO_TT_CONVERT (spec R109, R112, R113): the latch captures TT, station time
and RATE of one tick; the conversion gives the smallest TT whose station time is at or after the input, or OUT_STATUS 1 where
that is no TT. -/
def Obligations.RateLatchAndConvert : Prop :=
  (∀ (s : State) (dt : Nat) (v : BitVec 32),
     let r := toSigned 32 v.toNat
     let tt : Int := s.ttAt dt
     let off := s.dev.offset - (tt * r / (2 ^ 40 : Int) - tt * s.dev.rate / (2 ^ 40 : Int))
     (s.met dt).writable Reg.TB.RATE = true →
     (r < -rateMax ∨ rateMax < r → Completes (.rateWrite dt v false) s (fun t =>
       t.dev.status = stRANGE ∧ Framed [] dt s t ∧ t.dev.inner = s.dev.inner)) ∧
     (-rateMax ≤ r → r ≤ rateMax → s.dev.get Reg.SERVO.STATE = 0 → Completes (.rateWrite dt v false) s (fun t =>
       t.dev.status = stOK ∧ t.dev.rate = r ∧ t.dev.get Reg.TB.OFFSET = ofSigned 64 off ∧
       (-2 ^ 63 ≤ off → off < 2 ^ 63 → t.dev.stAbs tt = s.dev.stAbs tt) ∧ Framed [Reg.TB.RATE, Reg.TB.OFFSET] dt s t ∧
       t.dev.inner = { s.dev.inner with time := { s.dev.time with changes := t.dev.time.changes }
                                        acq := { s.dev.acq with stChanged := t.dev.acq.stChanged } }))) ∧
  (∀ (s : State) (dt : Nat),
     let k : Int := (s.met dt).tick
     let x : Int := (s.dev.get Reg.CONVT.IN_SEC : Int) * secUnits + s.dev.get Reg.CONVT.IN_SUB
     ((s.met dt).writable Reg.TB.LATCH = true → Completes (.timeLatch dt 1) s (fun t =>
       t.dev.status = stOK ∧ (t.dev.get Reg.TB.LATCH_TT : Int) = k ∧ t.dev.get Reg.TB.LATCH_ST_SEC = ofSigned 64 (s.dev.stSec k) ∧
       t.dev.get Reg.TB.LATCH_ST_SUB = ofSigned 64 (s.dev.stSub k) ∧ t.dev.get Reg.TB.LATCH_RATE = s.dev.get Reg.TB.RATE ∧
       Framed [Reg.TB.LATCH_TT, Reg.TB.LATCH_ST_SEC, Reg.TB.LATCH_ST_SUB, Reg.TB.LATCH_RATE] dt s t ∧ t.dev.inner = s.dev.inner)) ∧
     ((s.met dt).writable Reg.CONVT.CONVERT = true →
       ∃ u : Int, (∀ w : Int, x ≤ s.dev.stAbs w ↔ u ≤ w) ∧
         (0 ≤ u → u < 2 ^ 64 → Completes (.stToTtConvert dt 1) s (fun t =>
           t.dev.status = stOK ∧ (t.dev.get Reg.CONVT.OUT_TT : Int) = u ∧ t.dev.get Reg.CONVT.OUT_STATUS = 0 ∧
           Framed [Reg.CONVT.OUT_TT, Reg.CONVT.OUT_STATUS] dt s t ∧ t.dev.inner = s.dev.inner)) ∧
         (u < 0 ∨ 2 ^ 64 ≤ u → Completes (.stToTtConvert dt 1) s (fun t =>
           t.dev.status = stOK ∧ t.dev.get Reg.CONVT.OUT_STATUS = 1 ∧ Framed [Reg.CONVT.OUT_STATUS] dt s t ∧
           t.dev.inner = s.dev.inner))))

/-- SERVO_MEASUREMENT and SERVO_SOURCE_LOST (spec R109, R114–R116): a measurement that makes no step moves the integrator and
RATE by the PI law and the state by its table, with THETA_ALARM and F068 beyond ALARM_THRESHOLD; one that makes a step sets
EPOCH_SEC and OFFSET to the reference, counts and records it, sets STEPPED, raises F069 in RUNNING and TAKEOVER, and the servo
locks anew; losing the source (R117) freezes RATE at the integrator, with leaf HOLDOVER and F067. How the law's numbers are
represented and rounded, and in which order its parts run, is the model's reading (log 27). -/
def Obligations.ServoMoves : Prop :=
  ∀ (s : State) (dt : Nat) (m : Measure) (p : Rat),
    let st := s.dev.get Reg.SERVO.STATE
    let theta : Rat := (((s.dev.stAbs m.tt : Int) : Rat) - m.ref) / 10000000000
    let ns : Rat := (((s.dev.stAbs m.tt : Int) : Rat) - m.ref) / 10
    let mag : Rat := if ns < 0 then 0 - ns else ns
    let above := fun k => ((s.dev.get k : Nat) : Rat) < mag
    let raw := (m.ref - p) / 10000000000
    let ts : Rat := if raw < 1 / 16 then 1 / 16 else if 16 < raw then 16 else raw
    let lim := s.dev.rateLimit
    let i := clampRat (s.dev.time.integ - F32.toRat (s.dev.getF Reg.SERVO.KI) * theta / ts) lim
    let u := clampRat (i - F32.toRat (s.dev.getF Reg.SERVO.KP) * theta / ts) lim
    let first := st = svSEEKING ∨ st = svHOLDOVER
    let run := if first ∨ above Reg.SERVO.LOCK_THRESHOLD then 0 else s.dev.time.lockRun + 1
    (s.dev.time.measure = some m → s.dev.time.lastRef = some p → st ≠ svDISABLED →
      ¬ (above Reg.SERVO.STEP_THRESHOLD ∧ s.dev.stepAllowed = true) →
      Completes (.servoMeasurement dt) s (fun t =>
        t.dev.get Reg.TB.RATE = ofSigned 32 (max (-rateMax) (min rateMax (roundRat (u * 2 ^ 40)))) ∧ t.dev.time.integ = i ∧ t.dev.time.lockRun = run ∧
        t.dev.time.measure = none ∧ t.dev.time.lastRef = some m.ref ∧
        t.dev.get Reg.SERVO.STATE = (if first ∨ (st = svLOCKED ∧ above Reg.SERVO.ALARM_THRESHOLD) then svLOCKING
          else if st = svLOCKING ∧ s.dev.get Reg.SERVO.LOCK_COUNT ≤ run then svLOCKED else st) ∧
        (st = svLOCKED → above Reg.SERVO.ALARM_THRESHOLD → t.dev.bit Reg.TB.LEAVES 3 = true ∧
          (s.dev.live = true → Raises 68 0xFF 0 s t)) ∧
        Framed ([Reg.TB.RATE, Reg.TB.OFFSET, Reg.SERVO.STATE, Reg.SERVO.LAST_THETA, Reg.SERVO.LAST_TS, Reg.TB.LEAVES] ++
          summaryKeys) dt s t ∧
        t.dev.heart = { s.dev.heart with time := t.dev.time, acq := t.dev.heart.acq })) ∧
    (let r := roundRat m.ref
     let off := r % secUnits - (m.tt + m.tt * s.dev.rate / (2 ^ 40 : Int))
     let held := clampRat s.dev.time.integ lim
     let rate := max (-rateMax) (min rateMax (roundRat (held * 2 ^ 40)))
     s.dev.time.measure = some m → s.dev.time.lastRef = some p → st ≠ svDISABLED →
      above Reg.SERVO.STEP_THRESHOLD → s.dev.stepAllowed = true → -2 ^ 63 ≤ off → off < 2 ^ 63 →
      Completes (.servoMeasurement dt) s (fun t =>
        t.dev.get Reg.TB.EPOCH_SEC = ofSigned 64 (r / secUnits) ∧ t.dev.get Reg.TB.RATE = ofSigned 32 rate ∧
        (rate = s.dev.rate → t.dev.get Reg.TB.OFFSET = ofSigned 64 off) ∧
        t.dev.get Reg.TB.STEPS = (s.dev.get Reg.TB.STEPS + 1) % 2 ^ 32 ∧ t.dev.get Reg.SERVO.LAST_STEP_TT = ofSigned 64 m.tt ∧
        t.dev.get Reg.SERVO.LAST_STEP_SIZE = ofSigned 64 (off - s.dev.offset) ∧ t.dev.bit Reg.TB.LEAVES 4 = true ∧
        t.dev.get Reg.SERVO.STATE = svLOCKING ∧ t.dev.time.lockRun = 0 ∧
        (s.dev.ds ∈ [dsRUNNING, dsTAKEOVER] → ∃ x ∈ t.dev.damper.raised, x.src = 69 ∧ x.at_ = t.dev.now) ∧
        Framed ([Reg.TB.RATE, Reg.TB.OFFSET, Reg.TB.EPOCH_SEC, Reg.TB.STEPS, Reg.SERVO.LAST_STEP_TT, Reg.SERVO.LAST_STEP_SIZE,
          Reg.SERVO.STATE, Reg.SERVO.LAST_THETA, Reg.SERVO.LAST_TS, Reg.TB.LEAVES] ++ summaryKeys) dt s t ∧
        t.dev.heart = { s.dev.heart with time := t.dev.time, acq := t.dev.heart.acq })) ∧
    (st ∈ [svLOCKING, svLOCKED] → (s.met dt).sourceLost = true → Completes (.servoSourceLost dt) s (fun t =>
      t.dev.get Reg.SERVO.STATE = svHOLDOVER ∧ t.dev.get Reg.TB.RATE = ofSigned 32 (max (-rateMax) (min rateMax (roundRat (s.dev.time.integ * 2 ^ 40)))) ∧
      t.dev.bit Reg.TB.LEAVES 2 = true ∧ (s.dev.live = true → Raises 67 0xFF 0 s t) ∧
      Framed ([Reg.TB.RATE, Reg.TB.OFFSET, Reg.SERVO.STATE, Reg.TB.LEAVES] ++ summaryKeys) dt s t ∧
      t.dev.heart = { s.dev.heart with time := { s.dev.time with changes := t.dev.time.changes }, acq := t.dev.heart.acq })) ∧
    (st ∉ [svLOCKING, svLOCKED] → Completes (.servoSourceLost dt) s (fun t => Framed [] dt s t ∧ t.dev.inner = s.dev.inner))

/-- PTP messages (spec R117–R121): a one-step Sync of the selected master, or the Follow_Up of a two-step one, gives the servo
its measurement, and a Sync of another sender is discarded; an Announce makes its sender the master where none is known; after
ANNOUNCE_TIMEOUT intervals without one it is lost, and after SYNC_TIMEOUT sync intervals without a Sync the servo's source;
Pdelay_Req is answered with this device's clock identity and the stamps of the reference plane; a Pdelay_Resp to this port gives
the link delay; every PDELAY_INTERVAL a Pdelay_Req leaves; what leaves carries domainNumber and the 802.1Q tag. ASYMMETRY enters
the Sync, the Pdelay_Req and the Pdelay_Resp. What the spec takes from IEEE 1588-2019 is as log 29 says. -/
def Obligations.PtpMessages : Prop :=
  ∀ (s : State) (dt : Nat) (h : PtpHdr) (a : PtpAnnounce) (o r : PtpTime) (w : SyncX) (two : Bool) (seq : Nat) (t1 : Int),
    let d := s.met dt
    let n := h.net.val
    let heard := [Reg.NETP.RX_FRAMES n]
    let delay : Int := d.getI (Reg.PTPP.LINK_DELAY n) 32 + d.getI (Reg.PTPP.ASYMMETRY n) 32
    let time := fun t : State => { s.dev.heart with time := t.dev.time }
    let masters := [Reg.PTP.ACTIVE_PORT, Reg.PTP.MASTER_ID, Reg.PTP.MASTER_PORT, Reg.TB.LEAVES] ++ summaryKeys
    let master := fun (t : State) (port id no : Nat) => t.dev.get Reg.PTP.ACTIVE_PORT = port ∧ t.dev.get Reg.PTP.MASTER_ID = id ∧
      t.dev.get Reg.PTP.MASTER_PORT = no
    let selected := s.dev.get Reg.PTP.ACTIVE_PORT = n + 1 ∧ s.dev.get Reg.PTP.MASTER_ID = h.srcId.toNat ∧
      s.dev.get Reg.PTP.MASTER_PORT = h.srcPort.toNat
    let x := s.dev.ptpPort n
    d.ptpTakes h = true →
    (selected → s.dev.get Reg.SERVO.SOURCE = 0 →
      Completes (.ptpSync dt h two o) s (fun t =>
        t.dev.get Reg.PTP.SYNC_RX = (s.dev.get Reg.PTP.SYNC_RX + 1) % 2 ^ 32 ∧
        t.dev.time = { s.dev.time with
          syncAt := s.dev.now + dt, syncLog := h.logInterval.toInt
          sync := if two then some ⟨n, h.srcId.toNat, h.srcPort.toNat, h.seq.toNat, d.rxPlane n, h.correction⟩ else none
          measure := if two then s.dev.time.measure
            else some { tt := d.rxPlane n, ref := ptpUnits o h.correction + (delay : Rat) } } ∧
        Framed (Reg.PTP.SYNC_RX :: heard ++ countKeys) dt s t ∧ t.dev.heart = time t)) ∧
    (¬ selected → Completes (.ptpSync dt h two o) s (fun t =>
        t.dev.get Reg.PTP.DISCARDED = (s.dev.get Reg.PTP.DISCARDED + 1) % 2 ^ 32 ∧
        Framed (Reg.PTP.DISCARDED :: heard) dt s t ∧ t.dev.inner = s.dev.inner)) ∧
    (s.dev.time.sync = some w → w.net = n → w.srcId = h.srcId.toNat → w.srcPort = h.srcPort.toNat → w.seq = h.seq.toNat →
      s.dev.get Reg.SERVO.SOURCE = 0 →
      Completes (.ptpFollowUp dt h o) s (fun t =>
        t.dev.time = { s.dev.time with
          sync := none, measure := some { tt := w.tt, ref := ptpUnits o (w.correction + h.correction) + (delay : Rat) } } ∧
        Framed heard dt s t ∧ t.dev.heart = time t)) ∧
    ((s.dev.ptpPort 0).ann = none → (s.dev.ptpPort 1).ann = none →
      Completes (.ptpAnnounce dt h a) s (fun t =>
        master t (n + 1) h.srcId.toNat h.srcPort.toNat ∧ (t.dev.ptpPort n).ann = some a ∧
        (t.dev.ptpPort n).annAt = s.dev.now + dt ∧ (t.dev.ptpPort n).annLog = h.logInterval.toInt ∧
        Framed (heard ++ masters) dt s t ∧ t.dev.heart = time t)) ∧
    (x.ann = some a → x.annAt + s.dev.get Reg.PTP.ANNOUNCE_TIMEOUT * logUnits x.annLog ≤ s.dev.now + dt →
      (s.dev.ptpPort (1 - n)).ann = none → s.dev.get Reg.SERVO.STATE = svDISABLED →
      Completes (.ptpAnnounceTimeout dt h.net false) s (fun t =>
        master t 0 0 0 ∧ (t.dev.ptpPort n).ann = none ∧ Framed masters dt s t ∧ t.dev.heart = time t)) ∧
    (s.dev.get Reg.PTP.ACTIVE_PORT = n + 1 → s.dev.get Reg.SERVO.SOURCE = 0 → s.dev.get Reg.SERVO.STATE ∈ [svLOCKING, svLOCKED] →
      s.dev.time.syncAt + s.dev.get Reg.PTP.SYNC_TIMEOUT * logUnits s.dev.time.syncLog ≤ s.dev.now + dt →
      Completes (.ptpAnnounceTimeout dt h.net true) s (fun t =>
        t.dev.get Reg.SERVO.STATE = svHOLDOVER ∧ t.dev.get Reg.TB.RATE = ofSigned 32 (max (-rateMax) (min rateMax (roundRat (s.dev.time.integ * 2 ^ 40)))) ∧
        Raises 67 0xFF 0 s t ∧
        Framed ([Reg.TB.RATE, Reg.TB.OFFSET, Reg.SERVO.STATE, Reg.TB.LEAVES] ++ summaryKeys) dt s t)) ∧
    Completes (.ptpPdelayReq dt h) s (fun t =>
      t.dev.out = [.frame n (d.mac n) none (.pdelayResp (s.dev.get Reg.PTP.DOMAIN) d.vlanTag d.clockId h.seq.toNat h.srcId.toNat h.srcPort.toNat h.correction
        (ofSigned 128 (s.dev.stAbs (d.rxPlane n))) (ofSigned 128 (s.dev.stAbs (d.txPlane n))))] ∧
      Framed (Reg.NETP.TX_FRAMES n :: heard) dt s t ∧ t.dev.inner = s.dev.inner) ∧
    (x.req = some (seq, t1) → h.seq.toNat = seq → h.reqId.toNat = d.clockId → h.reqPort.toNat = n + 1 →
      Completes (.ptpPdelayResp dt h r o) s (fun t =>
        t.dev.getI (Reg.PTPP.LINK_DELAY n) 32 = satSigned 32 (roundRat ((((s.dev.stAbs (d.rxPlane n) - s.dev.stAbs t1 : Int) : Rat) -
          (ptpUnits o (h.correction + d.asymmetry n) - ptpUnits r 0)) / 2)) ∧
        (t.dev.ptpPort n).req = none ∧ Framed (Reg.PTPP.LINK_DELAY n :: heard) dt s t ∧ t.dev.heart = time t)) ∧
    (x.due ≤ s.dev.now + dt → Completes (.pdelayInterval dt h.net) s (fun t =>
      t.dev.out = [.frame n (d.mac n) none (.pdelayReq (s.dev.get Reg.PTP.DOMAIN) d.vlanTag d.clockId x.seq (-d.asymmetry n))] ∧
      (t.dev.ptpPort n).req = some (x.seq, d.txPlane n) ∧
      (t.dev.ptpPort n).due = s.dev.now + dt + logUnits (s.dev.getI Reg.PTP.PDELAY_INTERVAL 8) ∧
      Framed [Reg.NETP.TX_FRAMES n] dt s t ∧ t.dev.heart = time t)) ∧
    (s.dev.now + dt < x.due → Completes (.pdelayInterval dt h.net) s (fun t => Framed [] dt s t ∧ t.dev.inner = s.dev.inner))

/-- PPS (spec R122, R123): a selected PPS_IN edge is stamped and its error from the nearest whole second recorded, beyond
IN_ALARM with leaf PPS_ALARM and F072; 1,100 ms without one set PPS_MISSING with F071; PPS_OUT rises at a whole second, once for
each, and falls OUT_WIDTH later. IN_ERROR's saturation and the windows of PPS_MISSING and PPS_OUT are the model's reading (log
28). The supervision of the clocks (spec R132, R133): a window whose TT advance lies outside 4,000,000 ± 3 % counts as an error,
sets XCHECK and raises F064, and one inside does nothing; PLL_UNLOCK is a live leaf with F065 at its rise; REFCLK raises F066.
-/
def Obligations.PpsAndClockSupervision : Prop :=
  (∀ (s : State) (dt t0 : Nat) (rising : Bool),
     let d := s.met dt
     let e : Int := (s.ttAt dt : Int) - s.dev.get Reg.PPS.IN_DELAY
     let err := s.dev.stAbs e - nearestSecond (s.dev.stAbs e)
     let st := d.ppsSt ((s.ttAt dt : Int) + s.dev.getI Reg.PPS.OUT_DELAY 32)
     let sec := divRound st secUnits
     let sv := s.dev.get Reg.SERVO.STATE
     let once := ∀ r ∈ s.dev.time.pulsed, ¬ (r.1 ≤ sec ∧ sec ≤ r.2)
     s.dev.live = true →
     (s.dev.get Reg.PPS.IN_EN ≠ 0 → rising = (s.dev.get Reg.PPS.IN_EDGE == 0) → s.dev.get Reg.SERVO.SOURCE = 0 →
       Completes (.ppsInEdge dt rising) s (fun t =>
         t.dev.get Reg.PPS.IN_LAST_TT = ofSigned 64 e ∧ t.dev.getI Reg.PPS.IN_ERROR 32 = satSigned 32 err ∧
         t.dev.bit Reg.TB.LEAVES 5 = false ∧
         (s.dev.get Reg.PPS.IN_ALARM * 10 < err.natAbs → t.dev.bit Reg.TB.LEAVES 6 = true ∧ Raises 72 0xFF 0 s t) ∧
         (err.natAbs ≤ s.dev.get Reg.PPS.IN_ALARM * 10 → t.dev.damper = s.dev.damper) ∧
         Framed ([Reg.PPS.IN_LAST_TT, Reg.PPS.IN_ERROR, Reg.TB.LEAVES] ++ summaryKeys ++ countKeys) dt s t ∧
         t.dev.heart = { s.dev.heart with time := { s.dev.time with ppsSeen := some (s.dev.now + dt) } })) ∧
     (s.dev.get Reg.PPS.IN_EN ≠ 0 → s.dev.time.ppsSeen = some t0 → t0 + 11000000000 ≤ s.dev.now + dt →
       s.dev.bit Reg.TB.LEAVES 5 = false → s.dev.get Reg.SERVO.SOURCE = 0 →
       Completes (.ppsMissing dt) s (fun t => t.dev.bit Reg.TB.LEAVES 5 = true ∧ Raises 71 0xFF 0 s t ∧
         Framed (Reg.TB.LEAVES :: summaryKeys) dt s t ∧ t.dev.heart = s.dev.heart)) ∧
     (s.dev.get Reg.PPS.OUT_MODE = 1 → (s.dev.get Reg.PPS.OUT_QUAL ≠ 0 → sv = svLOCKED ∨ sv = svHOLDOVER) →
       (st - sec * secUnits).natAbs ≤ 10 →
       (once → Completes (.ppsOutRise dt) s (fun t => t.dev.time.ppsOut = true ∧
         (∃ r ∈ t.dev.time.pulsed, r.1 ≤ sec ∧ sec ≤ r.2) ∧ Framed [] dt s t ∧
         t.dev.inner = { s.dev.inner with time := { s.dev.time with
           ppsOut := true, ppsOutAt := s.dev.now + dt, pulsed := t.dev.time.pulsed } })) ∧
       (¬ once → Completes (.ppsOutRise dt) s (fun t => Framed [] dt s t ∧ t.dev.inner = s.dev.inner))) ∧
     (s.dev.time.ppsOut = true → s.dev.time.ppsOutAt + s.dev.get Reg.PPS.OUT_WIDTH * 10000 ≤ s.dev.now + dt →
       Completes (.ppsOutFall dt) s (fun t => Framed [] dt s t ∧
         t.dev.inner = { s.dev.inner with time := { s.dev.time with ppsOut := false } }))) ∧
  (∀ (s : State) (dt advance : Nat), s.dev.live = true → s.dev.ttZero.isSome = true →
     (3880000 ≤ advance → advance ≤ 4120000 → Completes (.ttXcheck dt advance) s (fun t =>
       Framed [] dt s t ∧ t.dev.inner = s.dev.inner)) ∧
     (advance < 3880000 ∨ 4120000 < advance → Completes (.ttXcheck dt advance) s (fun t =>
       t.dev.get Reg.TB.XCHECK_ERRORS = (s.dev.get Reg.TB.XCHECK_ERRORS + 1) % 2 ^ 32 ∧ t.dev.bit Reg.TB.LEAVES 1 = true ∧
       Raises 64 0xFF 0 s t ∧ Framed ([Reg.TB.XCHECK_ERRORS, Reg.TB.LEAVES] ++ summaryKeys) dt s t ∧ t.dev.heart = s.dev.heart)) ∧
     (s.dev.bit Reg.TB.LEAVES 0 = false → Completes (.pllUnlock dt) s (fun t =>
       t.dev.bit Reg.TB.LEAVES 0 = true ∧ Raises 65 0xFF 0 s t ∧ Framed (Reg.TB.LEAVES :: summaryKeys) dt s t ∧
       t.dev.heart = s.dev.heart)) ∧
     Completes (.pllRelock dt) s (fun t =>
       t.dev.bit Reg.TB.LEAVES 0 = false ∧ (∀ b, b ≠ 0 → t.dev.bit Reg.TB.LEAVES b = s.dev.bit Reg.TB.LEAVES b) ∧
       Framed [Reg.TB.LEAVES] dt s t ∧ t.dev.inner = s.dev.inner) ∧
     Completes (.refclkLoss dt) s (fun t => Raises 66 0xFF 0 s t ∧ Framed [] dt s t ∧ t.dev.heart = s.dev.heart))

/-- Arming and disarming of time compares and the examination of far ones (spec R127, R128, R131): near below 2^31 units ahead,
far from there on, BUSY while armed; one armed in the past fires at the first tick after its arming, late: LATE, COMPARE_LATE
and F070 (R129), with the tick as its event's time (log 25); DISARM before the firing tick stops the firing; a far compare
within 2^30 becomes near. That a value other than 1 answers OK without effect is the model's choice (log 8). COMPARE_FIRE and
TRIG_OUT (spec R128–R130): a near compare fires at the first tick at or after TARGET, which FIRED_AT keeps; a pulse it drives
rises at TARGET itself and lasts 1,000 ns; with PERIOD 0 it stays idle, else TARGET moves by the smallest number of periods that
lies at or after the firing tick plus 20 ns, across the wrap of TT too (spec R127), and the periods skipped count. -/
def Obligations.TimeComparesArmAndFire : Prop :=
  (∀ (s : State) (dt : Nat) (tc : Tc) (v : Byte) (pin : Fin 2),
     let n := tc.val
     let st := s.dev.get (Reg.TC.STATUS n)
     let diff := diffW 64 (s.dev.get (Reg.TC.TARGET n)) (s.ttAt dt)
     let only := fun (k : Nat) (x : Bool) (t : State) => ∀ b, t.dev.bit (Reg.TC.STATUS n) b = if b = k then x else s.dev.bit (Reg.TC.STATUS n) b
     let own := fun (t : State) => t.dev.status = stOK ∧ Framed [Reg.TC.STATUS n] dt s t ∧ t.dev.inner = s.dev.inner
     ((s.met dt).writable (Reg.TC.ARM n) = true →
       (st.testBit tcARMED = true → Completes (.compareArm dt tc 1) s (fun t =>
         t.dev.status = stBUSY ∧ Framed [] dt s t ∧ t.dev.inner = s.dev.inner)) ∧
       (st.testBit tcARMED = false → 0 ≤ diff → diff < 2 ^ 31 →
         Completes (.compareArm dt tc 1) s (fun t => own t ∧ only tcARMED true t)) ∧
       (st.testBit tcARMED = false → 2 ^ 31 ≤ diff →
         Completes (.compareArm dt tc 1) s (fun t => own t ∧ t.dev.bit (Reg.TC.STATUS n) tcARMED = true ∧
           t.dev.bit (Reg.TC.STATUS n) tcFAR = true)) ∧
       (st.testBit tcARMED = false → diff < 0 →
         (∀ c, c < 18 → s.dev.get (Reg.CV.START_SRC c) ≠ 0x10 + n ∧ s.dev.get (Reg.CV.URGENT_SRC c) ≠ 0x10 + n) →
         s.dev.bit Reg.EC.SNAP_SRC 1 = false →
         let ft := (s.met dt).nextTick
         Completes (.compareArm dt tc 1) s (fun t =>
           t.dev.status ∈ [stOK, stSUPERSEDED] ∧ t.dev.get (Reg.TC.FIRED_AT n) = ft ∧ t.dev.bit (Reg.TC.STATUS n) tcLATE = true ∧
           t.dev.bit Reg.TB.LEAVES 7 = true ∧ (∃ r ∈ t.dev.damper.raised, r.src = 70 ∧ r.at_ = t.dev.now) ∧
           t.dev.bit (Reg.TC.STATUS n) tcARMED = decide (s.dev.get (Reg.TC.PERIOD n) ≠ 0) ∧
           (s.dev.get (Reg.TC.PERIOD n) = 0 → t.dev.get (Reg.TC.TARGET n) = s.dev.get (Reg.TC.TARGET n)) ∧
           (s.dev.bit (Reg.TC.ROUTE n) pin = true → Tab.find s.dev.time.trig pin = none →
             Tab.find t.dev.time.trig pin = some (ft, ft + 10000)) ∧
           Framed ([Reg.TC.STATUS n, Reg.TC.FIRED_AT n, Reg.TC.TARGET n, Reg.TC.MISSED n, Reg.TB.LEAVES] ++ summaryKeys ++ countKeys)
             dt s t ∧
           t.dev.heart = { s.dev.heart with time := t.dev.time, acq := t.dev.heart.acq })) ∧
       (v ≠ 1 → Completes (.compareArm dt tc v) s (fun t => own t ∧ Framed [] dt s t))) ∧
     ((s.met dt).writable (Reg.TC.DISARM n) = true → diffW 64 (s.met dt).tick (s.dev.get (Reg.TC.TARGET n)) < 0 →
       Completes (.compareDisarm dt tc 1) s (fun t => own t ∧ t.dev.bit (Reg.TC.STATUS n) tcARMED = false ∧
         t.dev.bit (Reg.TC.STATUS n) tcFAR = false)) ∧
     Completes (.farCompareScan dt) s (fun t =>
       (∀ i, i < 16 → ∀ b, t.dev.bit (Reg.TC.STATUS i) b = (s.dev.bit (Reg.TC.STATUS i) b &&
         !(b == tcFAR && s.dev.bit (Reg.TC.STATUS i) tcARMED && farNear (s.dev.get (Reg.TC.TARGET i)) (s.ttAt dt)))) ∧
       Framed ((List.range 16).map Reg.TC.STATUS) dt s t ∧
       t.dev.inner = { s.dev.inner with time := { s.dev.time with
         commitFar := s.dev.time.commitFar && !farNear (s.dev.get Reg.COMMIT.TIME_AT) (s.ttAt dt) } })) ∧
  (∀ (s : State) (dt : Nat) (tc : Tc) (pin : Fin 2) (a b : Nat),
     let n := tc.val
     let target := s.dev.get (Reg.TC.TARGET n)
     let p := s.dev.get (Reg.TC.PERIOD n)
     let ft : Nat := ceilTick target % 2 ^ 64
     let k : Nat := max 1 ((diffW 64 (ft + 200) target + p - 1) / p).toNat
     let heard := ∀ c, c < 18 → s.dev.get (Reg.CV.START_SRC c) ≠ 0x10 + n ∧ s.dev.get (Reg.CV.URGENT_SRC c) ≠ 0x10 + n
     let fired := fun (t : State) => t.dev.get (Reg.TC.FIRED_AT n) = ft ∧
       (s.dev.live = true → s.dev.bit (Reg.TC.ROUTE n) pin = true → Tab.find s.dev.time.trig pin = none →
         Tab.find t.dev.time.trig pin = some (target, target + 10000)) ∧
       t.dev.heart = { s.dev.heart with time := t.dev.time, acq := t.dev.heart.acq }
     ((s.met dt).compareDue n = true → heard → s.dev.bit Reg.EC.SNAP_SRC 1 = false →
       (p = 0 → Completes (.compareFire dt tc) s (fun t => fired t ∧ t.dev.bit (Reg.TC.STATUS n) tcARMED = false ∧
         Framed ([Reg.TC.STATUS n, Reg.TC.FIRED_AT n] ++ countKeys) dt s t)) ∧
       (p ≠ 0 → Completes (.compareFire dt tc) s (fun t => fired t ∧ t.dev.bit (Reg.TC.STATUS n) tcARMED = true ∧
         t.dev.get (Reg.TC.TARGET n) = (target + k * p) % 2 ^ 64 ∧
         t.dev.get (Reg.TC.MISSED n) = (s.dev.get (Reg.TC.MISSED n) + (k - 1)) % 2 ^ 32 ∧
         t.dev.bit (Reg.TC.STATUS n) tcFAR = decide ((2 ^ 31 : Int) ≤ diffW 64 (((target + k * p) % 2 ^ 64 : Nat) : Int) (s.ttAt dt)) ∧
         (1 < k → t.dev.bit (Reg.TC.STATUS n) tcLATE = true ∧ t.dev.bit Reg.TB.LEAVES 7 = true) ∧
         Framed ([Reg.TC.STATUS n, Reg.TC.FIRED_AT n, Reg.TC.TARGET n, Reg.TC.MISSED n, Reg.TB.LEAVES] ++ summaryKeys ++ countKeys)
           dt s t))) ∧
     (Tab.find s.dev.time.trig pin = some (a, b) → b ≤ s.ttAt dt → Completes (.trigOutPulseEnd dt pin) s (fun t =>
       Tab.find t.dev.time.trig pin = none ∧ Framed [] dt s t ∧
       t.dev.inner = { s.dev.inner with time := { s.dev.time with trig := t.dev.time.trig } })))

/-- DOWNLINK_SLOT (spec R24, R136, R138, R139, R166, R167, R189, R192, R194): with the frame of its release a port sends its
beacon first; else BLOCK of the dedicated FIFO leaves before anything else and starts its confirmation run; else the oldest
stack command under its SEQ; else the first of the other commands, 200 ns after the last; else the beacon's next fragment of its
four; else the next fragment of a management message; a port with nothing to send idles. In the last slot of a frame a command
may start at any of its start points, with idle symbols before and fill symbols after it, and an idle slot is settled at the
last of them. The symbols move the running disparity, which goes on. No other port and no sub-entry beside the cell's SEQ,
BEACON_DISPLACED and the event counters moves. The symbols before a late command and the first disparity are the model's (log
84). -/
def Obligations.DownlinkSlotContent : Prop :=
  ∀ (s : State) (dt : Nat) (port : Port) (j i k seq : Nat) (c : DlCmd) (rest : List DlCmd)
    (frag : List Byte) (more : List (List Byte)) (msg : MgmtMsg) (msgs : List MgmtMsg),
    let d := s.met dt
    let p := port.val
    let x := s.dev.port p
    let quiet := x.blockWord = false ∧ x.stackQ = [] ∧ x.otherQ = []
    let sends := fun (pre sym : Nat) (bs : List Byte) (post : Nat) (t : State) => t.dev.out = [.slot p x.rd pre sym bs post] ∧
      (t.dev.port p).rd = (lineCode x.rd (slotSymbols pre sym bs post)).2 ∧
      (∀ q, q ≠ p → t.dev.port q = s.dev.port q) ∧
      Framed (Reg.CELL.SEQ (128 * p + c.dest) :: Reg.PORT.BEACON_DISPLACED p :: countKeys) dt s t ∧
      t.dev.heart = { s.dev.heart with link := t.dev.link, cells := t.dev.cells, acq := t.dev.heart.acq }
    s.dev.frame.run = true → d.slotNow = some (j, i, k) → (d.armOfPort p).isSome = true →
    x.slotUsed ≠ some (s.dev.frame.n, j) → x.live = true → (x.fragsSent < 4 → j < 24) →
    (x.fresh = false → x.blockWord = true →
      Completes (.downlinkSlot dt port) s (fun t => sends i kCOMMAND (cmdBytes blockCmd 0) (k - i) t ∧
        (t.dev.port p).blockWord = false ∧ (t.dev.port p).blocks = (s.ttAt dt + 400) :: x.blocks ∧
        (t.dev.port p).run = some { tt := s.ttAt dt + 400, frame := s.dev.frame.n } ∧ t.dev.cells = s.dev.cells)) ∧
    (x.fresh = false → x.blockWord = false → x.stackQ = c :: rest → c.group = false → c.isRepeat = false → c.seq = some seq →
      Completes (.downlinkSlot dt port) s (fun t => sends i kCOMMAND (cmdBytes c seq) (k - i) t ∧ (t.dev.port p).stackQ = rest ∧
        ((t.dev.cell (128 * p + c.dest)).sent.head?.map SentCmd.seq) = some seq)) ∧
    (x.fresh = true ∨ quiet → i = 0 → x.fragsSent = 0 →
      Completes (.downlinkSlot dt port) s (fun t => sends 0 kBEACON ((s.dev.beaconBytes p j).take 8) k t ∧
        (t.dev.port p).fragsSent = 1 ∧ (t.dev.port p).fresh = false ∧ t.dev.cells = s.dev.cells)) ∧
    (x.fresh = false → x.blockWord = false → x.stackQ = [] → x.otherQ = c :: rest → c.limited = false → c.isRepeat = false →
      (∀ t0, x.lastOther = some t0 → t0 + 2000 ≤ s.ttAt dt) →
      let q := if c.group then 0 else c.seq.getD ((s.dev.get (Reg.CELL.SEQ (128 * p + c.dest)) + 1) % 16)
      Completes (.downlinkSlot dt port) s (fun t => sends i kCOMMAND (cmdBytes c q) (k - i) t ∧
        ((c.group = true ∧ c.op = opBLOCK) ∨ (t.dev.port p).blocks = x.blocks) ∧
        (t.dev.port p).otherQ = rest ∧ (t.dev.port p).lastOther = some (s.ttAt dt) ∧
        (c.group = false → c.seq = none → t.dev.get (Reg.CELL.SEQ (128 * p + c.dest)) = q))) ∧
    (x.fresh = false → quiet → i = 0 → 0 < x.fragsSent → x.fragsSent < 4 →
      Completes (.downlinkSlot dt port) s (fun t => sends 0 kBEACON ((x.beacon.drop (8 * x.fragsSent)).take 8) k t ∧
        (t.dev.port p).fragsSent = x.fragsSent + 1 ∧ (t.dev.port p).beacon = x.beacon ∧ t.dev.cells = s.dev.cells)) ∧
    (x.fresh = false → quiet → i = 0 → 4 ≤ x.fragsSent → s.dev.hasLease = true →
      (x.frags = frag :: more ∨ (x.frags = [] ∧ x.mgmtQ = msg :: msgs ∧ messageFragments msg.bytes = frag :: more)) →
      Completes (.downlinkSlot dt port) s (fun t => sends 0 kMGMT frag k t ∧ (t.dev.port p).frags = more ∧
        (t.dev.port p).mgmtQ = (if x.frags = [] then msgs else x.mgmtQ))) ∧
    (x.fresh = false → quiet → 4 ≤ x.fragsSent → x.frags = [] → x.mgmtQ = [] →
      (i = k → Completes (.downlinkSlot dt port) s (sends 0 kIDLE idleBytes k)) ∧
      (i ≠ k → Completes (.downlinkSlot dt port) s (fun t => t.dev.out = [] ∧ Framed [] dt s t ∧ t.dev.inner = s.dev.inner)))

/-- SOD_RECEIVE, SOD_SLOT_MISSED and UNEXPECTED_BURST (spec R163, R164, R181, R183, R282, R289): a good sod of an ACTIVE cell
updates its measurements, ends its run of missed sods and reaches no other cell; a slot that passes empty counts as missed, and
at STALE_SODS the cell becomes STALE; a burst in the idle part is counted, and one with a code violation is an error of its
port. That it is no MISPLACED burst, whose rules need a place, is the model's reading (log 108). -/
def Obligations.SodsReachTheirCell : Prop :=
  ∀ (s : State) (dt : Nat) (port : Port) (addr : Fin 128) (b : Burst) (los : Bool) (a : Nat),
    let d := s.met dt
    let p := port.val
    let c := 128 * p + addr.val
    let u := d.uplinkOf p (fun _ => 220 * addr.val)
    let m := d.uplinkOf p (fun _ => 220 * (addr.val + 1))
    let v := sodOf b
    let n := s.dev.get (Reg.CELL.MISSED c) + 1
    let near := fun i => i == 0x8000 + c || i == 0x2300 + p || (0x2200 ≤ i && i ≤ 0x2212) || i == 0x2700 || i == 0x2800 + a ||
      (0x9000 + c == i) || i == 0x2004 || i == 0x1001 || i / 256 == 0x2D
    s.dev.frame.run = true → d.armOfPort p = some a → s.dev.cellState c = csACTIVE → d.strmOf 3 = [] →
    (addr.val < u.2.2.1.nSod → b.codeOk = true → b.crcOk = true → b.typ = 1 → b.addr = addr.val → b.frame = u.1 % 16 →
      b.bytes.length = 16 →
      Completes (.sodReceive dt port addr b los) s (fun t =>
        t.dev.getF (Reg.CELL.VCAP c) = v.vcap ∧ t.dev.getF (Reg.CELL.VBAT c) = v.vbat ∧ t.dev.getF (Reg.CELL.IBAT c) = v.ibat ∧
        t.dev.getF (Reg.CELL.SOC c) = v.soc ∧ t.dev.getF (Reg.CELL.TEMP c) = v.temp ∧ t.dev.get (Reg.CELL.MISSED c) = 0 ∧
        t.dev.get (Reg.PORT.SOD_OK p) = (s.dev.get (Reg.PORT.SOD_OK p) + 1) % 2 ^ 64 ∧
        t.pending = s.pending ∧ (∀ k, near (k / 256) = false → t.dev.get k = s.dev.get k) ∧
        ∀ r, t.mem.read r = s.mem.read r)) ∧
    (addr.val < m.2.2.1.nSod → (s.dev.port p).errCount < s.dev.get (Reg.PORT.ERR_LIMIT p) → los = false →
      (n < s.dev.get (Reg.LANE.STALE_SODS a) → n < 256 →
        Completes (.sodSlotMissed dt port addr los) s (fun t =>
          t.dev.get (Reg.CELL.MISSED c) = n ∧ t.dev.get (Reg.PORT.SOD_MISSED p) = (s.dev.get (Reg.PORT.SOD_MISSED p) + 1) % 2 ^ 32 ∧
          (t.dev.port p).errCount = (s.dev.port p).errCount + 1 ∧
          Framed ([Reg.CELL.MISSED c, Reg.PORT.SOD_MISSED p] ++ countKeys) dt s t ∧
          t.dev.heart = { s.dev.heart with link := t.dev.link })) ∧
      (s.dev.get (Reg.LANE.STALE_SODS a) ≤ n →
        Completes (.sodSlotMissed dt port addr los) s (fun t =>
          t.dev.cellState c = csSTALE ∧ t.dev.get (Reg.CELL.STALE_COUNT c) = (s.dev.get (Reg.CELL.STALE_COUNT c) + 1) % 2 ^ 32 ∧
          t.dev.bit (Reg.LANE.LEAVES a) 2 = true ∧ t.pending = s.pending ∧
          (∀ k, near (k / 256) = false → t.dev.get k = s.dev.get k) ∧ ∀ r, t.mem.read r = s.mem.read r))) ∧
    (∀ ok : Bool, (ok = false → (s.dev.port p).errCount < s.dev.get (Reg.PORT.ERR_LIMIT p)) →
      Completes (.unexpectedBurst dt { port := port, codeOk := ok }) s (fun t =>
        t.dev.get (Reg.PORT.UNEXPECTED p) = (s.dev.get (Reg.PORT.UNEXPECTED p) + 1) % 2 ^ 32 ∧
        t.dev.get (Reg.PORT.CODE_VIOL p) = (s.dev.get (Reg.PORT.CODE_VIOL p) + b2n (!ok)) % 2 ^ 32 ∧
        (t.dev.port p).errCount = (s.dev.port p).errCount + b2n (!ok) ∧
        (t.dev.port p).unexpSeen = true ∧ (∀ q, q ≠ p → t.dev.port q = s.dev.port q) ∧
        Framed ([Reg.PORT.UNEXPECTED p, Reg.PORT.CODE_VIOL p] ++ countKeys) dt s t ∧
        t.dev.heart = { s.dev.heart with link := t.dev.link }))

/-- ANNOUNCE_RECEIVE and TINDER_COLLISION (spec R142, R151, R154): an announce of a turf serial whose slot is ABSENT makes it
ANNOUNCED, queues it for ranging and answers with ANNOUNCE_ACK, and RX_BRST pulses 20 bit-times after its last symbol (that the
pulse is high then for 8 bit-times: log 86); overlapping bursts count as one collision, each with its own pulse and, with a code
violation, as an error of its port (spec R163). -/
def Obligations.AnnounceQueuesForRanging : Prop :=
  ∀ (s : State) (dt : Nat) (port : Port) (b : Burst) (c : Nat) (bursts : List Burst),
    let d := s.met dt
    let p := port.val
    let serial := ofBe (b.payload.take 8)
    let u := d.uplinkOf p Plan.tinder
    let finish := fun b : Burst =>
      ((u.2.1 + 400 + 10 * u.2.2.1.eq + 2 * u.2.2.1.tinder + 4 : Nat) : Int) + b.arrival / 2 + (2 * (32 + 10 + 10 * b.bytes.length) : Nat)
    s.dev.frame.run = true →
    (b.codeOk = true → b.crcOk = true → b.typ = 2 → b.bytes.length = 20 → b.frame = u.1 % 16 →
      serial ≠ 0 → s.dev.turfSlot p serial = some c → s.dev.cellState c = csABSENT → addrOf c < (s.dev.port p).plan.nSod →
      (∀ n, n < 64 → s.dev.get (Reg.STRANGER.PORT n) = 0xFF ∨ s.dev.get (Reg.STRANGER.SERIAL n) ≠ serial) →
      Completes (.announceReceive dt port b) s (fun t =>
        t.dev.cellState c = csANNOUNCED ∧ c ∈ (t.dev.port p).rangeQ ∧
        t.dev.get (Reg.CELL.MODEL_FW c) = ofBe ((b.payload.drop 8).take 4) ∧
        t.dev.get (Reg.PORT.TINDER_HEARD p) = (s.dev.get (Reg.PORT.TINDER_HEARD p) + 1) % 2 ^ 32 ∧
        (t.dev.port p).mgmtQ = (s.dev.port p).mgmtQ ++
          [{ bytes := beBytes 1 1 ++ beBytes 1 (s.dev.port p).tidNext ++ beBytes 8 serial ++ leBytes 3 0 }] ∧
        (t.dev.port p).brst = (finish b + 40).toNat :: (s.dev.port p).brst ∧
        (∀ q, q ≠ p → t.dev.port q = s.dev.port q) ∧ (∀ o, o ≠ c → t.dev.cell o = s.dev.cell o) ∧
        Framed ([Reg.CELL.STATE c, Reg.CELL.MODEL_FW c, Reg.PORT.TINDER_HEARD p] ++ countKeys) dt s t ∧
        t.dev.heart = { s.dev.heart with link := t.dev.link, cells := t.dev.cells })) ∧
    (let bad := (bursts.filter (fun b => !b.codeOk)).length
     (s.dev.port p).errCount + bad ≤ s.dev.get (Reg.PORT.ERR_LIMIT p) →
     Completes (.tinderCollision dt port bursts) s (fun t =>
      t.dev.get (Reg.PORT.TINDER_COLLIDED p) = (s.dev.get (Reg.PORT.TINDER_COLLIDED p) + 1) % 2 ^ 32 ∧
      t.dev.get (Reg.PORT.CODE_VIOL p) = (s.dev.get (Reg.PORT.CODE_VIOL p) + bad) % 2 ^ 32 ∧
      (t.dev.port p).errCount = (s.dev.port p).errCount + bad ∧
      (t.dev.port p).brst = (bursts.map (fun b => (finish b + 40).toNat)).reverse ++ (s.dev.port p).brst ∧
      (∀ q, q ≠ p → t.dev.port q = s.dev.port q) ∧
      Framed ([Reg.PORT.TINDER_COLLIDED p, Reg.PORT.CODE_VIOL p] ++ countKeys) dt s t ∧
      t.dev.heart = { s.dev.heart with link := t.dev.link }))

/-- RANGING_WINDOW_END, ADMIT_TIMEOUT and ABSENT_AFTER_EXPIRY (spec R146–R148, R154): one good ranging burst within the limit
admits the cell with its round trip, its equalization delay and its downlink delay, and sends ADMIT; an ADMITTED cell without
the admit echo is sent DEADMIT and goes to the queue's tail to be ranged again, or becomes ABSENT with RANGE_FAILED and F036; a
cell that stays STALE is sent DEADMIT, becomes ABSENT and leaves the stack, an inserted one at its arm's next sample (R288). The
ranging arithmetic and its retries are the model's reading (log 34), and the rounding of half a bit-time is its choice (log
109). -/
def Obligations.RangingAdmits : Prop :=
  ∀ (s : State) (dt : Nat) (port : Port) (b : Burst) (slot : Slot),
    let d := s.met dt
    let c := slot.val
    let p := portOf c
    let x := s.dev.port p
    let u := d.uplinkOf p (fun q => q.mgmtAt + 16000)
    let rtt := b.arrival / 2
    let e := divRound (((10 * (u.2.2.1.eq - 1000) : Nat) : Int) - rtt) 2
    let dl := (rtt + d.getI (Reg.PORT.ASYM p) 16) / 2
    let limit : Int := min ((10 * (u.2.2.1.eq - 1000) : Nat) : Int) 31500
    let serial := s.dev.get (Reg.TURF.SERIAL c)
    let others := fun t : State => (∀ q, q ≠ p → t.dev.port q = s.dev.port q) ∧ ∀ o, o ≠ c → t.dev.cell o = s.dev.cell o
    let deadmit : MgmtMsg := { bytes := beBytes 1 3 ++ beBytes 1 x.tidNext ++ beBytes 8 serial }
    let moved := fun t : State => { s.dev.heart with link := t.dev.link, cells := t.dev.cells, arms := t.dev.arms, lanes := t.dev.lanes }
    s.dev.frame.run = true →
    (port.val = p → (if u.2.2.2 then x.ranging else x.rangingOld) = some c → s.dev.cellState c = csANNOUNCED →
      b.codeOk = true → b.crcOk = true → b.typ = 3 → b.frame = u.1 % 16 → b.bytes.length = 12 → ofBe b.payload = serial →
      0 ≤ b.arrival → b.arrival ≤ 2 * limit →
      Completes (.rangingWindowEnd dt port [b]) s (fun t =>
        t.dev.cellState c = csADMITTED ∧ t.dev.cmdState c = swBLK ∧ t.dev.get (Reg.CELL.RTT c) = rtt.toNat ∧
        t.dev.get (Reg.CELL.EQD c) = ofSigned 16 e ∧ t.dev.get (Reg.CELL.DL_DELAY c) = ofSigned 16 dl ∧
        t.dev.get (Reg.CELL.SEQ c) = 0 ∧ t.dev.get (Reg.PORT.LAST_RANGED p) = c ∧
        t.dev.get (Reg.PORT.RANGE_OK p) = (s.dev.get (Reg.PORT.RANGE_OK p) + 1) % 2 ^ 32 ∧
        (t.dev.port p).mgmtQ = x.mgmtQ ++ [{
          bytes := beBytes 1 2 ++ beBytes 1 x.tidNext ++ beBytes 8 serial ++
            (beBytes 1 (addrOf c) ++ beBytes 2 (ofSigned 16 e) ++ beBytes 2 (ofSigned 16 dl))
          admitSlot := some c }] ∧
        others t ∧
        Framed [Reg.CELL.STATE c, Reg.CELL.CMD_STATE c, Reg.CELL.SW_COUNT c, Reg.CELL.FLAGS c, Reg.CELL.RTT c, Reg.CELL.EQD c,
          Reg.CELL.DL_DELAY c, Reg.CELL.EQ_ADJ c, Reg.CELL.SEQ c, Reg.CELL.MISSED c, Reg.PORT.LAST_RANGED p, Reg.PORT.LAST_RTT p,
          Reg.PORT.LAST_EQD p, Reg.PORT.LAST_DL_DELAY p, Reg.PORT.RANGE_OK p] dt s t ∧ t.dev.heart = moved t)) ∧
    (s.dev.cellState c = csADMITTED → (s.dev.cell c).admitFrame + 4 < s.dev.frame.n →
      Completes (.admitTimeout dt slot) s (fun t =>
        t.dev.cellState c = (if (s.dev.cell c).fails + 1 < s.dev.get Reg.LINK.RANGE_TRIES then csANNOUNCED else csABSENT) ∧
        t.dev.get (Reg.PORT.RANGE_FAIL p) = (s.dev.get (Reg.PORT.RANGE_FAIL p) + 1) % 2 ^ 32 ∧ others t ∧
        (t.dev.port p).mgmtQ = x.mgmtQ ++ [deadmit] ∧
        (t.dev.port p).rangeQ = x.rangeQ.filter (· ≠ c) ++
          (if (s.dev.cell c).fails + 1 < s.dev.get Reg.LINK.RANGE_TRIES then [c] else []) ∧
        ((s.dev.cell c).fails + 1 < s.dev.get Reg.LINK.RANGE_TRIES ∨
          (t.dev.bit (Reg.PORT.LEAVES p) 3 = true ∧ (s.dev.live = true → Raises 36 0xFF p s t))) ∧
        Framed ([Reg.CELL.STATE c, Reg.PORT.RANGE_FAIL p, Reg.PORT.LEAVES p, Reg.LINK.LAST_FAULT_PORT] ++ summaryKeys) dt s t ∧
        t.dev.heart = moved t)) ∧
    (s.dev.cellState c = csSTALE → (s.dev.cell c).staleFrame + s.dev.get Reg.LINK.ABSENT_AFTER ≤ s.dev.frame.n →
      Completes (.absentAfterExpiry dt slot) s (fun t =>
        t.dev.cellState c = csABSENT ∧ (s.dev.inserted c = false → t.dev.cmdState c = swBLK) ∧
        (t.dev.port p).mgmtQ = x.mgmtQ ++ [deadmit] ∧
        (∀ a, s.dev.inserted c = true → s.dev.armOfSlot c = some a → s.dev.flag c flUNCONFIRMED = false → s.dev.leaving c = false →
          (t.dev.lane a).removals = (s.dev.lane a).removals ++ [{ slot := c, state := swBLK, tt := s.ttAt dt, unicast := false }] ∧
          t.dev.cmdState c = s.dev.cmdState c) ∧
        (∀ a, s.dev.inserted c = true → s.dev.armOfSlot c = some a → s.dev.leaving c = true →
          ∀ r ∈ (t.dev.lane a).removals, r.slot = c → r.state = swBLK ∧ r.unicast = false) ∧
        others t ∧
        Framed ([Reg.CELL.STATE c, Reg.CELL.CMD_STATE c, Reg.CELL.SW_COUNT c, Reg.CELL.STATE_TT c, Reg.CELL.FLAGS c, Reg.CELL.KEY c,
          Reg.STACKG.LAST_ARM, Reg.STACKG.LAST_CELL] ++ (List.range 6).map Reg.LANE.LEAVES ++ summaryKeys) dt s t ∧
        t.dev.heart = moved t))

/-- The mailbox and its transactions (spec R196, R200, R201): START sends a request to the target cell and STATUS reads BUSY; a
good response ends it DONE with its data; a response slot that passes is tried again up to TRIES, and then ends NO_RESPONSE. -/
def Obligations.MailboxTransactions : Prop :=
  ∀ (s : State) (dt : Nat) (port : Port) (rsp r len : Nat) (b : Burst) (q : Txn), s.Inv →
    let d := s.met dt
    let p := port.val
    let c := s.dev.get Reg.MBX.TARGET
    let y := s.dev.port (portOf c)
    let u := d.uplinkOf p (fun z => z.mgmtAt + 440 * rsp)
    let w := d.uplinkOf p (fun z => z.mgmtAt + 440 * (rsp + 1))
    let data := b.payload.drop 3
    let txns := (s.dev.port p).txns
    let link := fun t : State => { s.dev.heart with link := t.dev.link }
    (d.writable Reg.MBX.START = true → s.dev.get Reg.MBX.STATUS ≠ 1 → s.dev.cellState c ∈ [csACTIVE, csSTALE, csDISPUTED] →
      s.dev.get Reg.MBX.OP = 0 → y.plan.mgmt ≠ 0 → y.txnWait = [] → y.freeRsp = some r →
      Completes (.cellMgmtStart dt 1) s (fun t =>
        t.dev.status = stOK ∧ t.dev.get Reg.MBX.STATUS = 1 ∧
        (t.dev.port (portOf c)).mgmtQ = y.mgmtQ ++ [{
          bytes := beBytes 1 0x10 ++ beBytes 1 y.tidNext ++ beBytes 1 (addrOf c) ++ beBytes 1 r ++ beBytes 2 (s.dev.get Reg.MBX.PARAM)
          tid := some y.tidNext }] ∧
        Framed [Reg.MBX.STATUS] dt s t ∧ t.dev.heart = link t)) ∧
    (s.dev.frame.run = true → d.txnAt p rsp u.1 = some q → q.seed = false → b.codeOk = true → b.crcOk = true → b.typ = 4 →
      b.frame = u.1 % 16 → b.addr = addrOf q.slot → ofBe (b.payload.take 1) = q.tid → ofBe ((b.payload.drop 1).take 1) = 0 →
      ofBe ((b.payload.drop 2).take 1) = len → len ≤ 29 → b.payload.length = len + 3 →
      Completes (.mgmtResponseReceive dt port rsp b) s (fun t =>
        t.dev.get Reg.MBX.STATUS = 2 ∧ t.dev.get Reg.MBX.CELL_STATUS = 0 ∧ t.dev.get Reg.MBX.RSP_LENGTH = len ∧
        (∀ j, (h : j < data.length) → t.mem.read (Mem.response + j) = data[j]) ∧
        (∀ a, a < Mem.response ∨ Mem.response + 29 ≤ a → t.mem.read a = s.mem.read a) ∧ t.pending = s.pending ∧
        KeepsBut [Reg.MBX.STATUS, Reg.MBX.CELL_STATUS, Reg.MBX.RSP_LENGTH] s.dev t.dev ∧ t.dev.heart = link t)) ∧
    (s.dev.frame.run = true → q.seed = false → txns.find? (fun z => z.rsp == rsp && (match z.expect with
        | some f => decide (f ≤ w.1)
        | none => false)) = some q →
      (q.tries < s.dev.get Reg.MBX.TRIES →
        Completes (.mgmtResponseTimeout dt port rsp) s (fun t =>
          t.dev.get Reg.LSTAT.MGMT_RESENDS = (s.dev.get Reg.LSTAT.MGMT_RESENDS + 1) % 2 ^ 32 ∧
          (t.dev.port p).mgmtQ = (s.dev.port p).mgmtQ ++ [{ bytes := q.message, tid := some q.tid }] ∧
          Framed [Reg.LSTAT.MGMT_RESENDS] dt s t ∧ t.dev.heart = link t)) ∧
      (s.dev.get Reg.MBX.TRIES ≤ q.tries → 0 < q.tries → s.dev.live = true →
        Completes (.mgmtResponseTimeout dt port rsp) s (fun t =>
          t.dev.get Reg.MBX.STATUS = 3 ∧ t.dev.bit Reg.LSTAT.LEAVES 7 = true ∧ t.dev.get Reg.LSTAT.LAST_CELL = q.slot ∧
          Raises 53 0xFF q.slot s t ∧
          Framed ([Reg.MBX.STATUS, Reg.LSTAT.LEAVES, Reg.LSTAT.LAST_CELL] ++ summaryKeys) dt s t ∧ t.dev.heart = link t)))

/-- Strangers and turf (spec R156, R157): IDENTIFY sends its message and three more, and is refused while the policy forbids it;
CLEAR empties the entry; a turf SERIAL is written by the lease holder alone, once per serial, and only while its slot is ABSENT.
That IDENTIFY of an empty entry answers OK without effect, and that a write leaves MATCH and SEEN_PORT, is the model's choice
(log 110). -/
def Obligations.StrangersAndTurf : Prop :=
  ∀ (s : State) (dt : Nat) (n : Fin 64) (v : Byte) (slot : Slot) (serial : BitVec 64),
    let d := s.met dt
    let p := s.dev.get (Reg.STRANGER.PORT n)
    let sn := s.dev.get (Reg.STRANGER.SERIAL n)
    let same := fun (st : Nat) (t : State) => t.dev.status = st ∧ Framed [] dt s t ∧ t.dev.inner = s.dev.inner
    let turf := Instr.turfSerialWrite dt slot serial
    (d.writable (Reg.STRANGER.IDENTIFY n) = true → v ∈ [1, 2] →
      (s.dev.get Reg.LINK.STRANGER_POLICY = 0 → Completes (.strangerIdentify dt n v) s (same stSTATE)) ∧
      (s.dev.get Reg.LINK.STRANGER_POLICY ≠ 0 → p = 0xFF → Completes (.strangerIdentify dt n v) s (same stOK)) ∧
      (s.dev.get Reg.LINK.STRANGER_POLICY ≠ 0 → p ≠ 0xFF → Completes (.strangerIdentify dt n v) s (fun t =>
        t.dev.status = stOK ∧ t.dev.link.identify = s.dev.link.identify ++ [(p, sn, v.toNat, 3)] ∧
        (t.dev.port p).mgmtQ = (s.dev.port p).mgmtQ ++
          [{ bytes := beBytes 1 4 ++ beBytes 1 (s.dev.port p).tidNext ++ beBytes 8 sn ++ beBytes 1 v.toNat }] ∧
        Framed [] dt s t ∧ t.dev.inner = { s.dev.inner with link := t.dev.link }))) ∧
    (d.writable (Reg.STRANGER.CLEAR n) = true → Completes (.strangerClear dt n 1) s (fun t =>
      t.dev.status = stOK ∧ t.dev.get (Reg.STRANGER.PORT n) = 0xFF ∧ t.dev.get (Reg.STRANGER.SERIAL n) = 0 ∧
      t.dev.get (Reg.STRANGER.COUNT n) = 0 ∧
      Framed [Reg.STRANGER.SERIAL n, Reg.STRANGER.PORT n, Reg.STRANGER.REASON n, Reg.STRANGER.FIRST_TT n, Reg.STRANGER.LAST_TT n,
        Reg.STRANGER.COUNT n] dt s t ∧ t.dev.inner = s.dev.inner)) ∧
    (d.writable (Reg.TURF.SERIAL slot) = true → s.dev.twin.cfg.length < 1536 →
      (s.dev.hasLease = false → Completes turf s (same stSTATE)) ∧
      (s.dev.hasLease = true → serial.toNat ≠ s.dev.get (Reg.TURF.SERIAL slot) → s.dev.cellState slot ≠ csABSENT →
        Completes turf s (same stSTATE)) ∧
      (∀ o, s.dev.hasLease = true → s.dev.cellState slot = csABSENT → serial ≠ 0 → s.dev.turfAny serial.toNat = some o →
        o ≠ slot.val → Completes turf s (same stRANGE)) ∧
      (s.dev.hasLease = true → s.dev.cellState slot = csABSENT → serial = 0 ∨ s.dev.turfAny serial.toNat = none →
        Completes turf s (fun t => t.dev.status = stOK ∧ t.dev.get (Reg.TURF.SERIAL slot) = serial.toNat ∧
          (serial.toNat ≠ s.dev.get (Reg.TURF.SERIAL slot) → (t.dev.cell slot).counted = false) ∧
          (∀ o, o ≠ slot.val → t.dev.cell o = s.dev.cell o) ∧ Framed [Reg.TURF.SERIAL slot] dt s t ∧
          t.dev.inner = { s.dev.inner with cells := t.dev.cells, twin := { s.dev.twin with cfg := t.dev.twin.cfg } })))

/-- A profile change (spec R203, R205): START fixes its targets and its commit time and broadcasts PREPARE; at the boundary of
the decision it is COMMITTING and broadcasts COMMIT with every target's acknowledgement, excludes the rest where each arm has
its quorum, with F055 (R209), and else begins to abort; an abort, by software's word, for want of a quorum or where FORCING
lasts too long, begins with the first of its ABORTs, three of which remain; the boundary of the last sets STATE ABORTED,
MODE_ABORTED and F054 and takes the marks of exclusion away; at B(m) the profile is in force on its arms. A port that may not
send keeps no broadcast of the change (R392). -/
def Obligations.ProfileChange : Prop :=
  ∀ (s : State) (dt : Nat),
    let d := s.met dt
    let x := s.dev.link.mode
    let st := s.dev.get Reg.MODE.STATE
    let frames := s.dev.get Reg.MODE.PREP_FRAMES + s.dev.get Reg.MODE.LEAD
    let tc := s.dev.frame.bn + frames * s.dev.get Reg.LINK.TF * 1000
    let due := st = 1 ∧ x.aborts = 0 ∧ s.dev.frame.run = true ∧ s.dev.frame.started = true ∧ s.ttAt dt = s.dev.frame.bn
    let told := fun (c : DlCmd) (t : State) => ∀ q, q < 24 →
      (t.dev.port q).otherQ = (s.dev.port q).otherQ ++ (if q ∈ t.dev.modePorts ∧ (s.dev.port q).live = true then [c] else [])
    let carries := fun (op : Nat) (m : ModeX) => ({ group := true, op := op, exec := m.exec, flags := 0x80 + m.profile % 16 } : DlCmd)
    let aborting := fun t : State => t.dev.link.mode = { x with excluded := [], aborts := 3 } ∧
      told { group := true, op := opABORT } t ∧ Framed [Reg.MODE.ACKED] dt s t ∧ t.dev.inner = { s.dev.inner with link := t.dev.link }
    let missing := x.targets.filter (fun c => !(s.dev.cell c).prepAck)
    (d.writable Reg.MODE.START = true → (st = 0 ∨ st = 4 ∨ st = 5) → s.dev.ds ≠ dsCONFIGURED → frames * s.dev.get Reg.LINK.TF ≤ 100000 →
      s.dev.get Reg.MODE.ARM_MASK % 64 ≠ 0 →
      Completes (.modeChangeStart dt 1) s (fun t =>
        t.dev.status = stOK ∧ t.dev.get Reg.MODE.STATE = 1 ∧ t.dev.get Reg.MODE.COMMIT_TT = tc ∧
        t.dev.get Reg.MODE.TARGETS = t.dev.link.mode.targets.length ∧ t.dev.get Reg.MODE.ACKED = 0 ∧
        t.dev.link.mode.m = s.dev.frame.n + frames ∧ t.dev.link.mode.exec = tc / 16 % 2 ^ 24 ∧
        (∀ c ∈ t.dev.link.mode.targets, s.dev.cellState c ∈ [csACTIVE, csSTALE, csDISPUTED] ∧ (t.dev.cell c).prepAck = false) ∧
        told (carries opPREPARE t.dev.link.mode) t ∧
        Framed [Reg.MODE.STATE, Reg.MODE.COMMIT_TT, Reg.MODE.TARGETS, Reg.MODE.ACKED, Reg.MODE.FORCED] dt s t ∧
        t.dev.heart = { s.dev.heart with link := t.dev.link, cells := t.dev.cells })) ∧
    (d.writable Reg.MODE.ABORT = true →
      (st = 3 → Completes (.modeChangeAbort dt 1) s (fun t =>
        t.dev.status = stSTATE ∧ Framed [] dt s t ∧ t.dev.inner = s.dev.inner)) ∧
      (st = 1 ∨ st = 2 → x.aborts = 0 → Completes (.modeChangeAbort dt 1) s (fun t =>
        t.dev.status = stOK ∧ t.dev.get Reg.MODE.ACKED = s.dev.get Reg.MODE.ACKED ∧ aborting t))) ∧
    (due → s.dev.acked = x.targets → Completes (.modeChangeDecision dt) s (fun t =>
      t.dev.get Reg.MODE.STATE = 3 ∧ t.dev.get Reg.MODE.ACKED = x.targets.length ∧
      (s.dev.frame.n < x.m → told (carries opCOMMIT x) t) ∧
      Framed [Reg.MODE.STATE, Reg.MODE.ACKED] dt s t ∧ t.dev.inner = { s.dev.inner with link := t.dev.link })) ∧
    (due → s.dev.acked.length < x.targets.length → x.p + s.dev.get Reg.MODE.PREP_FRAMES ≤ s.dev.frame.n →
      (s.dev.get Reg.MODE.QUORUM = 0 ∨ (∃ a ∈ s.dev.modeArms, s.dev.ackedOf a < s.dev.get Reg.MODE.QUORUM) →
        Completes (.modeChangeDecision dt) s (fun t => t.dev.get Reg.MODE.ACKED = s.dev.acked.length ∧ aborting t)) ∧
      (s.dev.get Reg.MODE.QUORUM ≠ 0 → (∀ a ∈ s.dev.modeArms, s.dev.get Reg.MODE.QUORUM ≤ s.dev.ackedOf a) →
        Completes (.modeChangeDecision dt) s (fun t =>
          t.dev.get Reg.MODE.STATE ∈ [2, 3] ∧ t.dev.get Reg.MODE.ACKED = s.dev.acked.length ∧
          t.dev.get Reg.MODE.FORCED = missing.length ∧ (∀ c ∈ missing, t.dev.flag c flEXCLUDED = true) ∧
          t.dev.bit Reg.LSTAT.LEAVES 9 = true ∧ (s.dev.live = true → ∃ r ∈ t.dev.damper.raised, r.src = 55 ∧ r.at_ = t.dev.now) ∧
          t.pending = s.pending ∧ ∀ a, t.mem.read a = s.mem.read a))) ∧
    (st ∈ [1, 2] → x.aborts = 1 → s.dev.frame.run = true → s.dev.frame.next ≤ s.ttAt dt → Completes (.frameBoundary dt) s (fun t =>
      t.dev.get Reg.MODE.STATE = 5 ∧ t.dev.link.mode.aborts = 0 ∧ t.dev.bit Reg.LSTAT.LEAVES 8 = true ∧
      (s.dev.live = true → ∃ r ∈ t.dev.damper.raised, r.src = 54 ∧ r.at_ = t.dev.now) ∧
      (∀ c ∈ t.dev.knownSlots, t.dev.flag c flEXCLUDED = false) ∧ t.pending = s.pending)) ∧
    (s.dev.frame.run = true →
      (st = 2 → x.aborts = 0 → x.m ≤ s.dev.frame.n + 4 → Completes (.modeForceTimeout dt) s (fun t =>
        t.dev.get Reg.MODE.ACKED = s.dev.get Reg.MODE.ACKED ∧ aborting t)) ∧
      (st = 3 → x.m ≤ s.dev.frame.n → (∀ c ∈ s.dev.knownSlots, s.dev.profileBad c = false) →
        Completes (.modeChangeCommit dt) s (fun t =>
          t.dev.get Reg.MODE.STATE = 4 ∧
          (∀ a, a < 6 → t.dev.get (Reg.MODE.PROFILE_ARM a) =
            if x.arms.testBit a then x.profile else s.dev.get (Reg.MODE.PROFILE_ARM a)) ∧
          t.dev.bit Reg.LSTAT.LEAVES 10 = false ∧
          Framed ([Reg.MODE.STATE, Reg.LSTAT.LEAVES] ++ (List.range 6).map Reg.MODE.PROFILE_ARM) dt s t ∧
          t.dev.inner = s.dev.inner)))

/-- FRAME_BOUNDARY (spec R16, R17, R136, R161, R170, R306, R315): a boundary that is not due does nothing. One that is due
begins the next frame: the first after reset keeps the count (0 there) and each later one counts on, the new frame runs from the
old grid time, and the next boundary lies TF later; groups that the frame source commits take their apply index from the
boundary. A sink fed by a node whose group's period ends there takes the node's output with its mark, or keeps its value and
turns STALE after an overrun; the RG0 snapshot takes the last valid word of each converter and what each arm has averaged (that
a word may still come is log 44), and RG0 begins its period; every mapped port takes its plan and begins a beacon, and is
released where nothing has forced TX_DIS for 4 ns. -/
def Obligations.FrameBoundaryBeginsTheFrame : Prop :=
  ∀ (s : State) (dt : Nat),
    let f := s.dev.frame
    (¬(f.run = true ∧ f.next ≤ s.ttAt dt) →
      Completes (.frameBoundary dt) s (fun t => Framed [] dt s t ∧ t.dev.inner = s.dev.inner)) ∧
    (f.run = true → f.next ≤ s.ttAt dt → s.dev.get Reg.COMMIT.SRC_FRAME = 0 ∨ s.dev.shadow = [] →
      Completes (.frameBoundary dt) s (fun t =>
        t.dev.frame = { f with
          n := if f.started then f.n + 1 else f.n
          started := true, bnOld := f.bn, bn := f.next, next := f.next + s.dev.get Reg.LINK.TF * 1000 } ∧
        (∀ g, g < 8 → t.dev.get (Reg.COMMIT.LAST_SI g) =
          if s.dev.bit Reg.COMMIT.SRC_FRAME g then applyIndex f.next else s.dev.get (Reg.COMMIT.LAST_SI g)) ∧
        t.pending = s.pending)) ∧
    (∀ (i r k p c a : Nat) (tt : Nat), f.run = true → f.next ≤ s.ttAt dt → s.dev.get Reg.COMMIT.SRC_FRAME = 0 ∨ s.dev.shadow = [] →
      let kl := s.dev.kiln
      let n := if f.started then f.n + 1 else f.n
      let g := s.dev.rgx k
      let src := s.dev.node (refWhich r / 2)
      let runs := kl.run = true ∧ kl.halted = false
      (runs → s.dev.live = true → k < 4 → g.running = true → g.turn n = true → g.done = true → i < 112 → (i, r) ∈ kl.sinks →
        (∀ e ∈ kl.sinks, e.1 = i → e.2 = r) → refKind r = 1 → refWhich r / 2 ∈ s.dev.rgNodes k →
        Completes (.frameBoundary dt) s (fun t =>
          (g.overran = false → t.dev.sink i =
            (F32.flush (if refWhich r % 2 = 0 then src.work0 else src.work1), if refWhich r % 2 = 0 then src.stale0 else src.stale1)) ∧
          (g.overran = true → t.dev.sink i = (s.dev.getF (Reg.SINKVAL.SINK_VALUE i), true)))) ∧
      (runs → s.dev.kilnWanted = true → kl.reload = false → (s.dev.rgx 0).turn n = true →
        Completes (.frameBoundary dt) s (fun t =>
          t.dev.get Reg.KILN.FRAME = n % 2 ^ 32 ∧ (t.dev.rgx 0).running = true ∧ (t.dev.rgx 0).start = f.next)) ∧
      ((c, s.dev.cv c) ∈ s.dev.meas.cvs → (s.dev.cv c).lastValid = some tt → tt ≤ f.next →
        Completes (.frameBoundary dt) s (fun t =>
          (t.dev.cv c).bVal = s.dev.getF (Reg.CV.VALUE c) ∧ (t.dev.cv c).bAt = some tt)) ∧
      (a < 6 → Completes (.frameBoundary dt) s (fun t =>
        (t.dev.arm a).oldSum = (s.dev.arm a).meanSum ∧ (t.dev.arm a).oldN = (s.dev.arm a).meanN ∧
        (t.dev.arm a).meanN = 0)) ∧
      (p < 24 → (s.dev.armOfPort p).isSome = true → s.dev.live = true →
        let y := s.dev.port p
        Completes (.frameBoundary dt) s (fun t =>
          (t.dev.port p).fragsSent = 0 ∧ (t.dev.port p).slotUsed = none ∧ (t.dev.port p).planOld = y.plan ∧
          (t.dev.port p).plan = s.dev.planOf p ∧
          (y.live = false → ∀ t0, y.freeSince = some t0 → t0 + 40 < f.next → (t.dev.port p).live = true ∧ (t.dev.port p).fresh = true) ∧
          (y.live = true → (t.dev.port p).live = true))))

/-- STN_IN_CHANGE (spec R103, R104, R106): the filtered level shows in IN_LEVEL after INVERT. An ESTOP assertion sets its leaf,
raises F238 and asserts TRIP_REQ; a permissive lost in RUNNING sets its leaf and raises F237; DEBLOCK_REQ acts as DEV_CMD
DEBLOCK; BLOCK_REQ acts as DEV_CMD BLOCK, which takes RUNNING to READY and asks every arm to BLOCKED. That the raw levels are
kept where the device is not live (log 50), that F238 stands for the rise of all ESTOP inputs together (log 113), and the sample
at which the BLOCK acts (log 39) are the model's reading. -/
def Obligations.StationInputs : Prop :=
  ∀ (s : State) (dt : Nat) (pin : Fin 8) (level : Bool),
    let n := pin.val
    let fn := s.dev.stnFn n
    let now := level != s.dev.bit (Reg.STN.IN_CFG n) 7
    let cmd := Instr.stnInChange dt pin level
    let raw := putBit s.dev.kindle.stnRaw n level
    let moved := { s.dev.heart with kindle := { s.dev.kindle with stnRaw := raw } }
    let shows := fun t : State => t.dev.get Reg.STN.IN_LEVEL = putBit (s.dev.get Reg.STN.IN_LEVEL) n now
    let keys := [Reg.STN.IN_LEVEL, Reg.STN.LEAVES]
    let steady := s.dev.ds ∈ [dsLINKS_UP, dsADMITTED, dsRUNNING, dsTAKEOVER, dsSAFE]
    (s.dev.live = false →
      Completes cmd s (fun t => Framed [] dt s t ∧ t.dev.inner = { s.dev.inner with kindle := { s.dev.kindle with stnRaw := raw } })) ∧
    (steady → fn = 0 → Completes cmd s (fun t => shows t ∧ Framed keys dt s t ∧ t.dev.heart = moved)) ∧
    (steady → fn = 4 → now = true → s.dev.estop = false →
      Completes cmd s (fun t => shows t ∧ t.dev.bit Reg.STN.LEAVES 0 = true ∧ Raises 238 0xFF 0 s t ∧ t.dev.tripReq = true ∧
        Framed (keys ++ summaryKeys) dt s t ∧ t.dev.heart = moved)) ∧
    (s.dev.ds = dsREADY → fn = 4 → now = true → s.dev.estop = false →
      Completes cmd s (fun t => t.dev.ds = dsADMITTED ∧ t.dev.bit Reg.STN.LEAVES 0 = true ∧ t.dev.kindle.deblock = false ∧
        t.dev.tripReq = true ∧ t.pending = s.pending)) ∧
    (s.dev.ds = dsRUNNING → fn ∈ [1, 2, 3] → now = false → s.dev.permissive fn = true →
      Completes cmd s (fun t => shows t ∧ t.dev.bit Reg.STN.LEAVES 1 = true ∧ Raises 237 0xFF 0 s t ∧ t.dev.ds = dsRUNNING ∧
        Framed (keys ++ summaryKeys) dt s t ∧ t.dev.heart = moved)) ∧
    (s.dev.ds = dsREADY → s.dev.readyOk = true → fn = 5 → now = true → s.dev.stnAny 5 = false →
      Completes cmd s (fun t => shows t ∧ Framed keys dt s t ∧
        t.dev.inner = { s.dev.inner with kindle := { s.dev.kindle with stnRaw := raw, deblock := true } })) ∧
    (∀ i, (i = cmd ∧ fn = 6 ∧ now = true ∧ s.dev.stnAny 6 = false) ∨
        (i = .block dt ∧ (s.met dt).writable Reg.DEVCMD.DEV_CMD = true) →
      s.dev.ds = dsRUNNING → s.dev.readyOk = true →
      Completes i s (fun t => t.dev.ds = dsREADY ∧ t.dev.get Reg.DEV.PREV_STATE = dsRUNNING ∧
        (∀ a, a < 6 → s.dev.armState a ≠ asBLOCKED → ⟨.block, caDEVICE, s.ttAt dt, false⟩ ∈ (t.dev.arm a).asks) ∧
        (∀ p, p < 24 → (s.dev.armOfPort p).isSome = true →
          (t.dev.port p).blockWord = (s.dev.port p).live ∧ (t.dev.port p).ban = true) ∧
        t.pending = s.pending ∧ ∀ a, t.mem.read a = s.mem.read a))

/-- CMP_ARM, CLOSE_ARM, CMP_DISARM, ANGLE_COMPARE_FIRE and CLOSE_PULSE_END (spec R103, R105, R239, R240): an arming is refused
where it may not stand; NEXT takes the next passage of CMP_ANGLE; the compare is HELD while direction, frequency or angle do not
serve, and fires late, without a close pulse, where its target lies behind. It fires at the TT of its internal compare, and
drives TRIG_OUT and the close pulse, which lasts CLOSE_WIDTH. A late compare fires at the first tick after its arming (log 25);
which passage NEXT takes, the compare that is HELD or late, and the close pulse of a compare that is disarmed are as log 43
says. -/
def Obligations.AngleComparesAndClosePulse : Prop :=
  ∀ (s : State) (dt : Nat) (gau : Gau) (close : Bool) (v : Byte) (t0 : Nat),
    let g := gau.val
    let d := s.met dt
    let cmd := if close then Instr.closeArm dt (BitVec.ofNat 8 (g + 1)) else Instr.angleCompareArm dt gau 1
    let next := s.dev.get (Reg.GAU.CMP_MODE g) = 1
    let cyc := if s.dev.get (Reg.GAU.CMP_MODE g) = 1 then ofSigned 32 (d.nextCycle g) else s.dev.get (Reg.GAU.CMP_CYCLES g)
    let behind := diffW 64 (toSigned 32 cyc * 2 ^ 32 + s.dev.get (Reg.GAU.CMP_ANGLE g)) (d.position g d.tt) < 0
    let mask := s.dev.kindle.closeArm
    let armed := if close then setBit mask g else mask
    let given := clearBits armed (1 <<< g)
    let marks := [Reg.GAU.CMP_CYCLES g, Reg.GAU.CMP_STATUS g] ++ (if close then [Reg.STN.CLOSE_ARMED] else [])
    let kept := fun t : State => t.dev.inner = { s.dev.inner with
      meas := t.dev.meas, kindle := { s.dev.kindle with closeArm := armed } }
    let refused := fun (i : Instr) (st : Nat) => Completes i s (fun t =>
      t.dev.status = st ∧ Framed [] dt s t ∧ t.dev.inner = s.dev.inner)
    let inState := s.dev.ds ∈ [dsLINKS_UP, dsADMITTED, dsREADY, dsRUNNING]
    (d.writable Reg.STN.CLOSE_ARM = true → (v ≠ 1 → v ≠ 2 → refused (.closeArm dt v) stRANGE) ∧
      (¬inState → refused (.closeArm dt (BitVec.ofNat 8 (g + 1))) stSTATE)) ∧
    (d.writable (if close then Reg.STN.CLOSE_ARM else Reg.GAU.CMP_ARM g) = true → (close = true → inState) →
      (s.dev.cs g csARMED = true → refused cmd stBUSY) ∧
      (s.dev.cs g csARMED = false → next → s.dev.cmpBlocked g = true → refused cmd stSTATE) ∧
      (s.dev.cs g csARMED = false → ¬next → s.dev.cmpBlocked g = true →
        Completes cmd s (fun t => t.dev.status = stOK ∧ t.dev.cs g csARMED = true ∧ t.dev.cs g csHELD = true ∧
          (close = true → t.dev.get Reg.STN.CLOSE_ARMED = 1) ∧ Framed marks dt s t ∧ kept t)) ∧
      (s.dev.cs g csARMED = false → s.dev.cmpBlocked g = false → ¬behind →
        Completes cmd s (fun t => t.dev.status = stOK ∧ t.dev.cs g csARMED = true ∧ t.dev.cs g csHELD = false ∧
          t.dev.get (Reg.GAU.CMP_CYCLES g) = cyc ∧ (close = true → t.dev.get Reg.STN.CLOSE_ARMED = 1) ∧ Framed marks dt s t ∧
          kept t)) ∧
      (s.dev.cs g csARMED = false → s.dev.cmpBlocked g = false → behind → (s.dev.gau g).hit = none →
        s.dev.get (Reg.GAU.CMP_ROUTE g) = 0 → (close = false → mask.testBit g = false) →
        Completes cmd s (fun t => t.dev.status = stOK ∧ t.dev.cs g csARMED = false ∧ t.dev.cs g csLATE = true ∧
          t.dev.get (Reg.GAU.CMP_FIRED_TT g) = d.nextTick ∧ t.dev.bit (Reg.GAU.LEAVES g) 2 = true ∧ Raises 70 0xFF 0 s t ∧
          t.dev.bit Reg.TB.LEAVES 7 = true ∧
          (close = true → t.dev.bit Reg.STN.LEAVES 3 = true ∧ t.dev.get Reg.STN.CLOSE_ARMED = b2n (given != 0) ∧
            t.dev.kindle.closeArm = given) ∧
          t.dev.kindle.close = s.dev.kindle.close ∧
          Framed (marks ++ [Reg.GAU.CMP_FIRED_TT g, Reg.GAU.LEAVES g, Reg.STN.LEAVES, Reg.TB.LEAVES] ++ summaryKeys) dt s t))) ∧
    (d.writable (Reg.GAU.CMP_DISARM g) = true → (s.dev.gau g).hit = none → mask.testBit g = false →
      Completes (.angleCompareDisarm dt gau 1) s (fun t => t.dev.status = stOK ∧ t.dev.cs g csARMED = false ∧
        t.dev.cs g csHELD = false ∧ Framed [Reg.GAU.CMP_STATUS g] dt s t ∧
        t.dev.inner = { s.dev.inner with meas := t.dev.meas })) ∧
    ((s.dev.gau g).hit = some t0 → t0 ≤ s.ttAt dt → s.dev.live = true → s.dev.cs g csARMED = true → s.dev.cs g csHELD = false →
      Completes (.angleCompareFire dt gau) s (fun t => t.dev.cs g csARMED = false ∧ t.dev.get (Reg.GAU.CMP_FIRED_TT g) = t0 ∧
        (t.dev.gau g).hit = none ∧
        (∀ pin, pin < 2 → s.dev.bit (Reg.GAU.CMP_ROUTE g) pin = true → s.dev.time.trig.find pin = none →
          t.dev.time.trig.find pin = some (t0, t0 + 10000)) ∧
        (mask.testBit g = true → t.dev.kindle.closeArm = clearBits mask (1 <<< g) ∧
          t.dev.get Reg.STN.CLOSE_ARMED = b2n (clearBits mask (1 <<< g) != 0) ∧ t.dev.kindle.close.find g = some t.dev.now) ∧
        (mask.testBit g = false → t.dev.kindle = s.dev.kindle) ∧
        Framed [Reg.GAU.CMP_STATUS g, Reg.GAU.CMP_FIRED_TT g, Reg.STN.CLOSE_ARMED] dt s t ∧
        t.dev.inner = { s.dev.inner with meas := t.dev.meas, kindle := t.dev.kindle, time := t.dev.time })) ∧
    (s.dev.kindle.close.find g = some t0 →
      Completes (.closePulseEnd dt gau) s (fun t => Framed [] dt s t ∧
        t.dev.kindle.close.find g =
          (if t0 + s.dev.get Reg.STN.CLOSE_WIDTH * 10000 ≤ s.dev.now + dt then none else some t0) ∧
        (∀ o, o ≠ g → t.dev.kindle.close.find o = s.dev.kindle.close.find o) ∧
        t.dev.inner = { s.dev.inner with kindle := { s.dev.kindle with close := t.dev.kindle.close } }))

/-- CONVERSION_START and URGENT (spec R215–R218, R229): a start on the converter's grid begins a conversion where the converter
is free, waits where it is not, and at a single converter is dropped with F096 where another waits already; what waits begins as
soon as the occupancy ends and carries DELAYED, the restart of an aborted conversion first; a start that falls due before that
restart makes the aborted slot an ABORTED word. An urgent request of a single converter begins at the next 10 ns edge, in place
of a regular conversion that then restarts, waits in an urgent occupancy, and is dropped where another waits or the converter
calibrates. URGENT of a pair's member accepts only 0. The pairs' grid runs where arms are sampled, the single converters convert
from CONFIGURED on (log 104); a request whose conversion's word is out already waits for the end of the occupancy (log 89); a
value of URGENT without a meaning answers OK (log 8). -/
def Obligations.ConversionStarts : Prop :=
  ∀ (s : State) (dt si : Nat) (cv : Cv) (v : Byte) (p r : StartX),
    let k := cv.val
    let d := s.met dt
    let x := s.dev.cv k
    let tt := s.ttAt dt
    let u := (tt + 99) / 100 * 100
    let meas := fun t : State => t.dev.inner = { s.dev.inner with meas := t.dev.meas }
    let cal := s.dev.calibrating k
    let dropped := fun t : State => t.dev.get Reg.MEAS.OVERRUNS = (s.dev.get Reg.MEAS.OVERRUNS + 1) % 2 ^ 32 ∧
      t.dev.bit Reg.MEAS.LEAVES 1 = true ∧ Raises 96 0xFF 0 s t ∧
      Framed ([Reg.MEAS.OVERRUNS, Reg.MEAS.LEAVES] ++ summaryKeys) dt s t ∧ t.dev.heart = s.dev.heart
    let began := fun t : State => t.dev.status = stOK ∧
      (t.dev.cv k).conv = some { strobe := u, si := siOf u, urgent := true } ∧ (t.dev.cv k).busyUntil = u + 2000 ∧
      (t.dev.cv k).urgentUntil = u + 2000 ∧ (∀ o, o ≠ k → t.dev.cv o = s.dev.cv o) ∧ Framed [] dt s t ∧ meas t
    let begun := fun (c : ConvX) (fin : Nat) => Completes (.conversionStart dt cv) s (fun t =>
      (t.dev.cv k).conv = some { c with cal := cal } ∧ (t.dev.cv k).busyUntil = fin ∧ (t.dev.cv k).pend = none ∧
      (t.dev.cv k).restart = none ∧ (t.dev.cv k).urgentUntil = x.urgentUntil ∧
      (∀ o, o ≠ k → t.dev.cv o = s.dev.cv o) ∧ Framed [] dt s t ∧ meas t)
    (s.dev.live = true → (k < 12 → s.dev.sampling = true) → d.gridSlot k tt = some si →
      (x.busyUntil ≤ tt → x.urgentWait = false → x.restart = none → x.pend = none → x.calWait = false →
        begun { strobe := tt, si := si } (tt + 2000)) ∧
      (tt < x.busyUntil → x.restart = none → x.pend = none ∨ k < 12 →
        Completes (.conversionStart dt cv) s (fun t => t.dev.cv k = { x with pend := some { due := tt, si := si } } ∧
          (∀ o, o ≠ k → t.dev.cv o = s.dev.cv o) ∧ Framed [] dt s t ∧ meas t)) ∧
      (12 ≤ k → tt < x.busyUntil → x.restart = none → x.pend.isSome = true →
        Completes (.conversionStart dt cv) s dropped) ∧
      (12 ≤ k → tt < x.busyUntil → x.restart = some r → x.pend = none →
        Completes (.conversionStart dt cv) s (fun t => (t.dev.cv k).restart = none ∧
          (t.dev.cv k).pend = some { due := tt, si := si } ∧
          t.dev.get (Reg.CV.RESULT k) = resultWord false 0 (if s.dev.meas.vrefBad then 3 else 2) r.si 0 ∧
          t.dev.get (Reg.CV.RESULT_TT k) = r.due ∧ t.pending = s.pending))) ∧
    (s.dev.live = true → d.gridSlot k tt = none → x.busyUntil ≤ tt → x.urgentWait = false → x.calWait = false →
      (x.restart = none → x.pend = some p → max p.due x.busyUntil ≤ tt →
        let at_ := max p.due x.busyUntil
        begun { strobe := at_, si := if k < 12 then p.si else siOf at_, delayed := decide (p.due < at_) }
          ((if k < 12 then p.due else at_) + 2000)) ∧
      (12 ≤ k → x.restart = some r → x.pend = none →
        begun { strobe := x.busyUntil, si := r.si, delayed := true } (x.busyUntil + 2000))) ∧
    (d.writable (Reg.CV.URGENT k) = true →
      (12 ≤ k → v ≠ 1 → Completes (.urgentWrite dt cv v) s (fun t =>
        t.dev.status = stOK ∧ Framed [] dt s t ∧ t.dev.inner = s.dev.inner)) ∧
      (k < 12 → Completes (.urgentWrite dt cv v) s (fun t =>
        t.dev.status = (if v = 0 then stOK else stRANGE) ∧ Framed [] dt s t ∧ t.dev.inner = s.dev.inner)) ∧
      (v = 1 → 12 ≤ k → cal = true → Completes (.urgentWrite dt cv v) s (fun t => t.dev.status = stOK ∧ dropped t)) ∧
      (v = 1 → 12 ≤ k → cal = false → tt < x.urgentUntil ∨ (x.conv = none ∧ u < x.busyUntil) →
        (x.urgentWait = false → Completes (.urgentWrite dt cv v) s (fun t => t.dev.status = stOK ∧
          t.dev.cv k = { x with urgentWait := true } ∧ (∀ o, o ≠ k → t.dev.cv o = s.dev.cv o) ∧ Framed [] dt s t ∧ meas t)) ∧
        (x.urgentWait = true → Completes (.urgentWrite dt cv v) s (fun t => t.dev.status = stOK ∧ dropped t))) ∧
      (v = 1 → 12 ≤ k → cal = false → x.calWait = false → x.urgentUntil ≤ tt → x.busyUntil ≤ u →
        Completes (.urgentWrite dt cv v) s began) ∧
      (∀ c, v = 1 → 12 ≤ k → cal = false → x.calWait = false → x.conv = some c → x.urgentUntil ≤ tt → u < x.busyUntil →
        Completes (.urgentWrite dt cv v) s (fun t => began t ∧
          (t.dev.cv k).restart = some { due := c.strobe, si := c.si })))

/-- CONVERSION_DONE (spec R213, R218–R221, R228, R229): the result word of a conversion carries its sample index, its leg, its
qualifier and the filtered code, and is VALID unless the reference or the internal check fails, where it says FAULT; VALUE is
SCALE × DATA + BIAS. The word of a pair's converter joins those that wait for its arm. (Stated of words that no change of
settings and no calibration touches, while the ash recorder rests.) Where several qualifiers hold, the order is the model's (log
37). -/
def Obligations.ConversionResults : Prop :=
  ∀ (s : State) (dt : Nat) (cv : Cv) (raw : BitVec 16) (satHi satLo ok : Bool) (c : ConvX),
    let k := cv.val
    let d := s.met dt
    let x := s.dev.cv k
    let ch := s.dev.cv (chanOf k)
    let code : Int := if satHi then 32767 else if satLo then -32768 else toSigned 16 raw.toNat
    let q := if c.urgent then 3 else if c.delayed then 2 else 0
    let leg := if isPair k then k % 2 else 0
    let good := ok && !s.dev.meas.vrefBad
    let cmd := Instr.conversionDone dt cv raw satHi satLo ok
    let word := fun t : State =>
      t.dev.get (Reg.CV.RESULT k) = (if good then resultWord true leg q c.si code else resultWord false leg 3 c.si 0) ∧
      t.dev.get (Reg.CV.RESULT_TT k) = c.strobe ∧
      t.dev.get (Reg.CV.VALUE k) = (if good then (d.scaled k c.si code).toNat else s.dev.get (Reg.CV.VALUE k)) ∧
      t.dev.get (Reg.CV.CONVERSIONS k) = (s.dev.get (Reg.CV.CONVERSIONS k) + 1) % 2 ^ 64
    x.late = none → x.conv = some c → c.strobe + 1500 ≤ s.ttAt dt → c.cal = false → (∀ j, j < 18 → s.dev.calibrating j = false) →
    x.calSettle = none → ch.emptyAt = [] → ch.settle = [] → x.calWait = false → s.dev.ashRunning = false →
    (12 ≤ k → x.filterAt c.strobe (s.dev.get (Reg.CV.FILTER k)) = 0 → d.strmOf 1 = [] →
      (∀ a, a < 6 → s.dev.get (Reg.ARM.V_POLE_CV a) ≠ k ∧ s.dev.get (Reg.ARM.V_AC_CV a) ≠ k) →
      Completes cmd s (fun t => word t ∧
        Framed ([Reg.CV.RESULT k, Reg.CV.RESULT_TT k, Reg.CV.VALUE k, Reg.CV.CONVERSIONS k] ++ countKeys) dt s t ∧
        t.dev.heart = { s.dev.heart with meas := t.dev.meas, acq := t.dev.heart.acq, kiln := t.dev.kiln })) ∧
    (k < 12 → d.getAt c.si (Reg.CV.FILTER (chanOf k)) = 0 → (s.dev.cv (otherOf k)).reduced = false →
      s.dev.sampling = true →
      Completes cmd s (fun t => word t ∧ t.pending = s.pending ∧
        (t.dev.arm (k / 2)).words = (s.dev.arm (k / 2)).words ++
          [{ si := c.si, valid := good, data := if good then code else 0, leg := leg, reason := if good then q else 3,
             reduced := false, alone := if !good && x.reduced then some (1 - k % 2) else none }]))

/-- CAL, CAL_ALL and CAL_DONE (spec R223–R225, R383): CAL of a pair member is accepted while the other member does not calibrate
and its last word was VALID, that of a single converter in RUNNING only with a redundant one, whose words then stand in; it runs
in the lowest free maintenance slot. A calibration that fails sets CAL_STATE FAILED, its leaf and F093. -/
def Obligations.Calibration : Prop :=
  ∀ (s : State) (dt : Nat) (cv : Cv) (y tv : Nat) (ok : Bool),
    let k := cv.val
    let d := s.met dt
    let x := s.dev.cv k
    let o := otherOf k
    let early := [dsCONFIGURED, dsLINKS_UP, dsADMITTED, dsREADY]
    let started := fun (stand : Option Nat) => Completes (.calRequest dt cv 1) s (fun t =>
      t.dev.status = stOK ∧ t.dev.get (Reg.CV.CAL_STATE k) = 1 ∧ (t.dev.cv k).standIn = stand ∧
      t.dev.get (Reg.MSLOT.CODE 0) = 6 ∧ t.dev.get (Reg.MSLOT.INSTANCE 0) = k ∧ t.dev.get (Reg.MSLOT.STATUS 0) = 1 ∧
      t.dev.get (Reg.MSLOT.START_TT 0) = s.ttAt dt ∧ (∀ j, j ≠ k → t.dev.cv j = s.dev.cv j) ∧
      Framed [Reg.CV.CAL_STATE k, Reg.MSLOT.CODE 0, Reg.MSLOT.INSTANCE 0, Reg.MSLOT.STATUS 0, Reg.MSLOT.FLAGS 0,
        Reg.MSLOT.START_TT 0] dt s t ∧ t.dev.inner = { s.dev.inner with meas := t.dev.meas })
    let refused := Completes (.calRequest dt cv 1) s (fun t =>
      t.dev.status = stBUSY ∧ Framed [Reg.MAINT.LAST_REFUSAL] dt s t ∧ t.dev.inner = s.dev.inner)
    (∀ j, j < 4 → s.dev.get (Reg.MSLOT.STATUS j) ≠ 1) →
    (d.writable (Reg.CV.CAL k) = true → s.dev.calibrating k = false → x.calWait = false → x.conv = none →
      (k < 12 → s.dev.ds ∈ dsRUNNING :: early → s.dev.calibrating o = false → (s.dev.cv o).calWait = false →
        (s.dev.bit (Reg.CV.RESULT o) 31 = true → started none) ∧ (s.dev.bit (Reg.CV.RESULT o) 31 = false → refused)) ∧
      (12 ≤ k → s.dev.ds ∈ early → s.dev.get (Reg.CV.REDUNDANT k) = 0xFF → started none) ∧
      (12 ≤ k → s.dev.ds = dsRUNNING → s.dev.get (Reg.CV.REDUNDANT k) = 0xFF → refused) ∧
      (12 ≤ k → s.dev.ds = dsRUNNING → s.dev.get (Reg.CV.REDUNDANT k) = y → 12 ≤ y → y ≤ 17 → y ≠ k →
        s.dev.calibrating y = false → s.dev.get (Reg.CV.AIN y) = s.dev.get (Reg.CV.AIN k) →
        s.dev.get (Reg.CV.GAIN y) = s.dev.get (Reg.CV.GAIN k) → (s.dev.cv y).lastValid = some tv → s.ttAt dt ≤ tv + 10000000 →
        started (some y))) ∧
    (d.writable Reg.MEAS.CAL_ALL = true →
      (s.dev.ds ∈ early → (∀ j, j < 18 → (s.dev.cv j).calWait = false ∧ (s.dev.cv j).conv = none) →
        Completes (.calAll dt 1) s (fun t => t.dev.status = stOK ∧ (∀ j, j < 18 → t.dev.get (Reg.CV.CAL_STATE j) = 1) ∧
          Framed ((List.range 18).map Reg.CV.CAL_STATE) dt s t ∧ t.dev.inner = { s.dev.inner with meas := t.dev.meas })) ∧
      (s.dev.ds = dsRUNNING → Completes (.calAll dt 1) s (fun t =>
        t.dev.status = stBUSY ∧ Framed [] dt s t ∧ t.dev.inner = s.dev.inner))) ∧
    (s.dev.calibrating k = true → s.dev.live = true →
      Completes (.calDone dt cv ok) s (fun t => t.dev.get (Reg.CV.CAL_STATE k) = (if ok then 0 else 2) ∧
        t.dev.cv k = { x with standIn := none, calSettle := some (s.ttAt dt), reduced := true } ∧ (∀ j, j ≠ k → t.dev.cv j = s.dev.cv j) ∧
        (ok = false → t.dev.bit Reg.MEAS.LEAVES 3 = true ∧ Raises 93 0xFF 0 s t) ∧
        (ok = true → t.dev.damper = s.dev.damper ∧ t.dev.get Reg.MEAS.LEAVES = s.dev.get Reg.MEAS.LEAVES) ∧
        Framed ([Reg.CV.CAL_STATE k, Reg.MEAS.LEAVES] ++ summaryKeys) dt s t ∧
        t.dev.heart = { s.dev.heart with meas := t.dev.meas }))

/-- VREF_FAULT, VREF_RESTORED and the comparators (spec R228, R231, R232): the reference's live leaf with F095; the rising ABOVE
or BELOW of an enabled comparator with F080 + k, its leaves, its count and its time; its release; a DAC that deviates by more
than 4 LSB with F110. -/
def Obligations.ReferenceAndComparators : Prop :=
  ∀ (s : State) (dt : Nat) (oc : Oc) (above : Bool) (high low : BitVec 16),
    let k := oc.val
    let b := if above then 0 else 1
    let lives := [Reg.MEAS.LEAVES] ++ summaryKeys
    let far := fun (m key : Nat) => 4 < ((m : Int) - s.dev.get key).natAbs
    let nothing := fun t : State => Framed [] dt s t ∧ t.dev.inner = s.dev.inner
    s.dev.live = true →
    (s.dev.bit Reg.MEAS.LEAVES 0 = false → Completes (.vrefFault dt) s (fun t => t.dev.bit Reg.MEAS.LEAVES 0 = true ∧
      Raises 95 0xFF 0 s t ∧ Framed lives dt s t ∧
      t.dev.heart = { s.dev.heart with meas := { s.dev.meas with vrefBad := true } })) ∧
    Completes (.vrefRestored dt) s (fun t => t.dev.bit Reg.MEAS.LEAVES 0 = false ∧ Framed [Reg.MEAS.LEAVES] dt s t ∧
      t.dev.inner = { s.dev.inner with meas := { s.dev.meas with vrefBad := false } }) ∧
    (s.dev.get (Reg.OC.ENABLE k) = 0 → Completes (.ocCrossing dt oc above) s nothing) ∧
    (s.dev.get (Reg.OC.ENABLE k) ≠ 0 → s.dev.bit (Reg.OC.LEVEL k) b = false →
      Completes (.ocCrossing dt oc above) s (fun t => t.dev.get (Reg.OC.LEVEL k) = 2 ^ b ∧ t.dev.bit (Reg.OC.LATCHED k) b = true ∧
        t.dev.bit Reg.MEAS.LEAVES 6 = true ∧ t.dev.get (Reg.OC.LAST_TRIP_TT k) = s.ttAt dt ∧
        t.dev.get (Reg.OC.TRIPS k) = (s.dev.get (Reg.OC.TRIPS k) + 1) % 2 ^ 32 ∧ Raises (80 + k) 0xFF 0 s t ∧
        Framed ([Reg.OC.LEVEL k, Reg.OC.LATCHED k, Reg.OC.LAST_TRIP_TT k, Reg.OC.TRIPS k] ++ lives ++ countKeys) dt s t ∧
        t.dev.heart = s.dev.heart)) ∧
    Completes (.ocRelease dt oc) s (fun t => t.dev.get (Reg.OC.LEVEL k) = 0 ∧ Framed [Reg.OC.LEVEL k] dt s t ∧
      t.dev.inner = s.dev.inner) ∧
    (s.dev.get (Reg.OC.ENABLE k) ≠ 0 → far high.toNat (Reg.OC.UPPER k) ∨ far low.toNat (Reg.OC.LOWER k) →
      Completes (.ocReadback dt oc high low) s (fun t => t.dev.bit Reg.MEAS.LEAVES 7 = true ∧ Raises 110 0xFF 0 s t ∧
        Framed lives dt s t ∧ t.dev.heart = s.dev.heart)) ∧
    (¬far high.toNat (Reg.OC.UPPER k) → ¬far low.toNat (Reg.OC.LOWER k) → Completes (.ocReadback dt oc high low) s nothing)

/-- The grid angle units and Flue (spec R78, R234–R238, R241): a legal edge moves the quadrant and counts a cycle at the passage
between quadrants 3 and 0; the fifth of one direction gives FREQ; the second against DIR turns DIR with F108 or F109; an illegal
one counts and makes angle and frequency invalid with F104 or F105; FREQ_TIMEOUT gives STANDSTILL; a conversion places the angle
within the quadrant, and the eighth below AMP_MIN sets LOSS with F106 or F107; FLUE_DAT carries unit, state, angle and cycles,
and idles high between frames and low where it is off. The bits of GAU_STATE around LOSS are as log 38 says. (Stated while the
ash recorder rests.) -/
def Obligations.GridAngle : Prop :=
  ∀ (s : State) (dt : Nat) (gau : Gau) (q : Fin 4) (rev : Bool) (e1 e2 e3 e4 : Nat) (theta : BitVec 14) (amp : BitVec 16),
    let g := gau.val
    let d := s.met dt
    let x := s.dev.gau g
    let tt := s.ttAt dt
    let old := s.dev.quadrant g
    let cyc := s.dev.getI (Reg.GAU.CYCLES g) 32
    let loss := s.dev.gs g gsLOSS
    let edge := Instr.gauEdge dt gau q
    let meas := fun t : State => t.dev.heart = { s.dev.heart with meas := t.dev.meas }
    let noFreq := fun t : State => t.dev.get (Reg.GAU.FREQ g) = 0 ∧ t.dev.gs g gsFREQ_VALID = false
    let legal := fun t : State => t.dev.quadrant g = q.val ∧ t.dev.gs g gsSTANDSTILL = false ∧
      (loss = false → t.dev.gs g gsANGLE_VALID = true) ∧
      t.dev.get (Reg.GAU.CYCLES g) =
        if loss then s.dev.get (Reg.GAU.CYCLES g)
        else if !rev && old == 3 then ofSigned 32 (cyc + 1)
        else if rev && old == 0 then ofSigned 32 (cyc - 1) else s.dev.get (Reg.GAU.CYCLES g)
    s.dev.gauOn g = true → s.dev.cs g csARMED = false → s.dev.ashRunning = false →
    (x.known = true → q.val = (old + if rev then 3 else 1) % 4 →
      (rev = s.dev.gs g gsDIR → x.edges.take 4 = [(e1, rev), (e2, rev), (e3, rev), (e4, rev)] → e4 < tt →
        Completes edge s (fun t => legal t ∧ t.dev.gs g gsFREQ_VALID = true ∧ t.dev.gs g gsDIR = rev ∧
          t.dev.getF (Reg.GAU.FREQ g) = F32.ofRat (10000000000 / ((tt - e4 : Nat) : Rat)) ∧
          Framed ([Reg.GAU.STATUS g, Reg.GAU.CYCLES g, Reg.GAU.FREQ g] ++ countKeys) dt s t ∧ meas t)) ∧
      (rev ≠ s.dev.gs g gsDIR → x.against = 0 →
        Completes edge s (fun t => legal t ∧ t.dev.gs g gsDIR = s.dev.gs g gsDIR ∧
          Framed ([Reg.GAU.STATUS g, Reg.GAU.CYCLES g] ++ countKeys) dt s t ∧ meas t)) ∧
      (rev ≠ s.dev.gs g gsDIR → 1 ≤ x.against →
        Completes edge s (fun t => legal t ∧ t.dev.gs g gsDIR = rev ∧ noFreq t ∧ t.dev.bit (Reg.GAU.LEAVES g) 1 = true ∧
          Raises (108 + g) 0xFF 0 s t ∧
          Framed ([Reg.GAU.STATUS g, Reg.GAU.CYCLES g, Reg.GAU.FREQ g, Reg.GAU.LEAVES g] ++ summaryKeys ++ countKeys) dt s t ∧
          meas t))) ∧
    (x.known = true → q.val = (old + 2) % 4 →
      Completes edge s (fun t => t.dev.quadrant g = q.val ∧ noFreq t ∧ t.dev.gs g gsANGLE_VALID = false ∧
        t.dev.get (Reg.GAU.ILLEGAL_COUNT g) = (s.dev.get (Reg.GAU.ILLEGAL_COUNT g) + 1) % 2 ^ 32 ∧
        t.dev.bit (Reg.GAU.LEAVES g) 0 = true ∧ Raises (104 + g) 0xFF 0 s t ∧
        Framed ([Reg.GAU.STATUS g, Reg.GAU.FREQ g, Reg.GAU.ILLEGAL_COUNT g, Reg.GAU.LEAVES g] ++ summaryKeys) dt s t ∧ meas t)) ∧
    (x.lastEdge + s.dev.get (Reg.GAU.FREQ_TIMEOUT g) * 10000 ≤ tt →
      Completes (.gauStandstill dt gau) s (fun t => t.dev.gs g gsSTANDSTILL = true ∧ noFreq t ∧
        Framed [Reg.GAU.STATUS g, Reg.GAU.FREQ g] dt s t ∧ meas t)) ∧
    (let within := if theta.toNat / 4096 = old then theta.toNat % 4096 else if theta.toNat / 4096 = (old + 1) % 4 then 4095 else 0
     let placed := fun t : State => t.dev.get (Reg.GAU.ANGLE g) = (old * 4096 + within) * 2 ^ 18
     let low := amp.toNat < s.dev.get (Reg.GAU.AMP_MIN g)
     (¬low → loss = false → Completes (.gauConversion dt gau theta amp) s (fun t =>
       placed t ∧ Framed [Reg.GAU.ANGLE g] dt s t ∧ meas t)) ∧
     (low → loss = false → x.low = 7 → Completes (.gauConversion dt gau theta amp) s (fun t =>
       placed t ∧ t.dev.gs g gsLOSS = true ∧ t.dev.gs g gsANGLE_VALID = false ∧ noFreq t ∧ Raises (106 + g) 0xFF 0 s t ∧
       Framed [Reg.GAU.ANGLE g, Reg.GAU.STATUS g, Reg.GAU.FREQ g] dt s t ∧ meas t)) ∧
     (¬low → loss = true → x.high = 7 → Completes (.gauConversion dt gau theta amp) s (fun t =>
       placed t ∧ t.dev.gs g gsLOSS = false ∧ t.dev.gs g gsANGLE_VALID = true ∧
       Framed [Reg.GAU.ANGLE g, Reg.GAU.STATUS g] dt s t ∧ meas t))) ∧
    (s.dev.get Reg.FLUE.DAT_EN ≠ 0 → s.dev.get Reg.FLUE.SEL = g → tt % (s.dev.get Reg.FLUE.DAT_PERIOD * 10000) = 0 →
      Completes (.flueDatFrame dt) s (fun t =>
        let b := leBytes 1 0xA5 ++ leBytes 1 (g + 2 * b2n (s.dev.gs g gsDIR) + 4 * b2n (s.dev.gs g gsANGLE_VALID) +
          8 * b2n (s.dev.gs g gsFREQ_VALID) + 16 * b2n loss) ++ beBytes 2 (d.angleAt g tt / 65536) ++
          leBytes 1 (s.dev.get (Reg.GAU.CYCLES g) % 256)
        let bytes := b ++ leBytes 1 (crc8 b)
        t.dev.out = [.flue bytes] ∧ Framed [] dt s t ∧
        t.dev.inner = { s.dev.inner with meas := { s.dev.meas with flue := bytes, flueAt := tt } } ∧
        (∀ (n : Nat) (o : Byte), bytes[n]? = some o → t.dev.flueDat (tt + n * 10000) = false ∧
          t.dev.flueDat (tt + n * 10000 + 9000) = true ∧
          ∀ m, m < 8 → t.dev.flueDat (tt + n * 10000 + (m + 1) * 1000) = o.getLsbD m) ∧
        (∀ u, tt + 60000 ≤ u → t.dev.flueDat u = true))) ∧
    (s.dev.get Reg.FLUE.DAT_EN = 0 → Completes (.flueDatFrame dt) s (fun t =>
      t.dev.out = [] ∧ (∀ u, t.dev.flueDat u = false) ∧ Framed [] dt s t ∧ t.dev.inner = s.dev.inner))

/-- ARM_SAMPLE where no transition waits (spec R245–R250, R255, R258, R264, R265, R267): the error is 256 × (reference − code),
that of the last VALID word where this one is not; in CLOSED n_fb takes the feedback step of a VALID word outside the dwell; it
stays within the limits about n_ff; n_tgt is their sum within N_MIN and N_MAX; and an arm that runs asks its lane for as many
cells as it lacks, at most N_STEP_MAX, unless it dwells, in a deblock burst for up to four of them. A word that is not VALID
counts, but for reason CALIBRATING it lengthens the invalid run; the word that completes the run, or the sample that completes a
freeze, takes the arm to OPEN with its leaf and F112 + n, and a freeze takes back the feedback steps in its event range. No
removal of a cell waits for the sample. -/
def Obligations.ArmSampleLaw : Prop :=
  ∀ (s : State) (dt : Nat) (arm : Arm) (w : WordX) (rest : List WordX),
    let a := arm.val
    let d := s.met dt
    let x := s.dev.arm a
    let st := s.dev.armState a
    let r := x.frameOf w.si
    let lo := d.getAtI w.si (Reg.ARM.N_MIN a) 16
    let hi := d.getAtI w.si (Reg.ARM.N_MAX a) 16
    let nStep := d.getAt w.si (Reg.ARM.N_STEP_MAX a)
    let invalidMax := d.getAt w.si (Reg.ARM.INVALID_MAX a)
    let n := d.getAt w.si (Reg.ARM.FREEZE_N a)
    let lag := d.getAt w.si (Reg.ARM.FREEZE_LAG a)
    let nFf := boundedInt (d.ffCount a w.si r) lo hi 0
    let e := if w.valid then boundedInt (d.refCode a w.si r) (-2147483648) 2147483647 0 - 256 * w.data else x.tapErr
    let fb := if w.valid && st == asCLOSED && decide (x.dwellEnd ≤ w.si) then
        feedbackStep x w.si nStep e (d.getAt w.si (Reg.ARM.H_IN a)) (d.getAt w.si (Reg.ARM.H_OUT a)) else (0, false)
    let zb : Int := d.getAt w.si (Reg.ARM.ZERO_BAND a)
    let pos := if !w.valid then x.pos else if zb < w.data then true else if w.data < -zb then false else x.pos
    let run := if w.valid then 0 else if w.reason = 1 then x.invRun else x.invRun + 1
    let after := fun (now : Nat) (from_ step : Int) (t : State) =>
      let nFb := max (lo - nFf) (min (from_ + step) (hi - nFf))
      let nTgt := max lo (min (nFf + nFb) hi)
      let gap := (nTgt - x.nCmd).natAbs
      let k := min gap nStep
      let req : SelReq := { si := w.si, dir := if nTgt < x.nCmd then -1 else 1, asked := k, left := k, fb0 := from_, dFb := step, pos := pos }
      (t.dev.arm a).words = rest ∧ (t.dev.arm a).tapErr = e ∧ (t.dev.arm a).nFf = nFf ∧ (t.dev.arm a).nFb = nFb ∧
      (t.dev.arm a).nCmd = x.nCmd ∧ (t.dev.arm a).invRun = min run 64 ∧ t.dev.armState a = now ∧
      (t.dev.arm a).req = (if now ≠ asOPEN ∧ now ≠ asCLOSED then none
        else if x.burst = 1 ∨ x.burst = 2 then
          some { req with asked := 4, left := 4, dFb := 0, burst := true, need := gap, rest := x.burst == 2 }
        else if nTgt ≠ x.nCmd ∧ x.dwellEnd ≤ w.si then some req else none) ∧
      t.dev.get (Reg.ARM.INVALID_WORDS a) = (s.dev.get (Reg.ARM.INVALID_WORDS a) + b2n !w.valid) % 2 ^ 32 ∧
      (∀ o, o ≠ a → t.dev.arm o = s.dev.arm o) ∧ (∀ c, t.dev.cmdState c = s.dev.cmdState c) ∧ t.pending = s.pending
    let opened := fun (cause leaf : Nat) (t : State) => t.dev.armCause a = cause ∧ t.dev.bit (Reg.ARM.LEAVES a) leaf = true ∧
      (st = asCLOSED → t.dev.get (Reg.ARM.OPEN_TT a) = d.strobe a w.si) ∧
      ({ src := 112 + a, at_ := t.dev.now, arm := a, aux := a } : Raised) ∈ t.dev.damper.raised
    let last := ((w.data, w.leg) :: x.recent).take n
    let seen := match w.alone with
      | some leg => last.filter (fun c => c.2 == leg)
      | none => last
    let inRange := fun k : Nat => decide (w.si + 1 ≤ k + n + lag) && decide (k + lag + 4 ≤ w.si)
    let runs := st = asOPEN ∨ st = asCLOSED
    x.words = w :: rest → s.dev.live = true → s.dev.ds ≠ dsTAKEOVER → x.req = none → x.asks = [] → s.dev.ashRunning = false →
    s.dev.twin.take.left = 0 → s.dev.net.wait = none → s.dev.net.spiWait = none → (s.dev.lane a).removals = [] →
    F32.isNaN (d.ffCount a w.si r) = false → F32.isNaN (d.refCode a w.si r) = false →
    (x.events = [] → run < invalidMax → (st = asOPEN → s.dev.armCause a = caSOFTWARE ∧ x.closeFrame = none) →
      Completes (.armSample dt arm) s (fun t => after st x.nFb fb.1 t ∧ t.dev.armCause a = s.dev.armCause a)) ∧
    (x.events = [] → invalidMax ≤ run → w.valid = false → x.invDone = false → runs → x.transSi ≠ w.si →
      Completes (.armSample dt arm) s (fun t => after asOPEN x.nFb 0 t ∧ opened caINVALID 2 t ∧
        t.dev.get (Reg.ARM.ROLLBACKS a) = s.dev.get (Reg.ARM.ROLLBACKS a))) ∧
    (w.valid = true → 0 < invalidMax → runs → x.transSi ≠ w.si → x.frozen = false → n ≤ 64 → last.length = n → seen ≠ [] →
      (∀ p ∈ seen, ∀ q ∈ seen, p.1 - q.1 ≤ (d.getAt w.si (Reg.ARM.FREEZE_TOL a) : Int)) →
      (w.alone = none → (∃ p ∈ last, p.2 = 0) ∧ ∃ p ∈ last, p.2 = 1) → (∃ k ∈ x.events, inRange k = true) →
      Completes (.armSample dt arm) s (fun t =>
        after asOPEN (((x.steps.filter (fun q => inRange q.1)).getLast?.map Prod.snd).getD x.nFb) 0 t ∧ opened caFREEZE 1 t ∧
        t.dev.get (Reg.ARM.ROLLBACKS a) = (s.dev.get (Reg.ARM.ROLLBACKS a) + 1) % 2 ^ 32))

/-- ARM_CMD, the watchdog and the transitions of an arm (spec R254–R257, R259, R260, R270): a command that its state admits
waits for the first sample whose strobe lies after it, any other is refused; a transition that waits takes effect at the
processing of its sample (which sample that is, the model reads as log 39 says), and an arm that stays OPEN for T_OPEN_MAX goes
to HOLD, unless it has closed before the sample that would take it there; a leg-sum trip takes an arm that runs to OPEN (spec
R266); a deblock starts a burst with n_cmd 0 and every ACTIVE cell counted as BLK (spec R258). The sample at which a transition
acts is as log 39 says; OK is the status of the write where it is accepted, and the access itself is answered as log 20 says. -/
def Obligations.ArmTransitions : Prop :=
  ∀ (s : State) (dt : Nat) (arm : Arm) (w : WordX) (rest : List WordX) (k : ArmAsk),
    let a := arm.val
    let d := s.met dt
    let x := s.dev.arm a
    let st := s.dev.armState a
    let waits := fun (i : Instr) (ask : ArmAsk) => Completes i s (fun t =>
      t.dev.arm a = { x with asks := x.asks ++ [ask] } ∧ (∀ o, o ≠ a → t.dev.arm o = s.dev.arm o) ∧ Framed [] dt s t ∧
      t.dev.inner = { s.dev.inner with arms := t.dev.arms })
    let answers := fun (i : Instr) (v : Nat) => Completes i s (fun t => t.dev.status = v)
    let accepts := fun (i : Instr) (act : ArmAct) =>
      answers i stOK ∧ waits i { act := act, cause := caSOFTWARE, from_ := s.ttAt dt + 1, access := true }
    let refuses := fun (i : Instr) (v : Nat) => Completes i s (fun t =>
      t.dev.status = v ∧ Framed [] dt s t ∧ t.dev.inner = s.dev.inner)
    let runs := st = asOPEN ∨ st = asCLOSED
    let opens := (st = asCLOSED ∨ st = asHOLD) ∧ s.dev.ds ∈ [dsRUNNING, dsTAKEOVER]
    let closes := st = asOPEN ∧ s.dev.armCause a ≠ caTAKEOVER
    let deblocks := st = asBLOCKED ∧ s.dev.ds = dsRUNNING ∧ s.dev.armMapped a = true
    let takes := fun (new cause : Nat) => Completes (.armSample dt arm) s (fun t =>
      t.dev.armState a = new ∧ t.dev.armCause a = cause ∧ (t.dev.arm a).words = rest ∧ (t.dev.arm a).asks = [] ∧
      (st ≠ asOPEN → new = asOPEN → t.dev.get (Reg.ARM.OPEN_TT a) = d.strobe a w.si) ∧ t.pending = s.pending)
    (d.writable (Reg.ARM.ARM_CMD a) = true →
      (opens → accepts (.armOpen dt arm) .openArm) ∧ (¬opens → refuses (.armOpen dt arm) stSTATE) ∧
      (closes → s.dev.coefWaits a = false → accepts (.armClose dt arm) .close) ∧
      (closes → s.dev.coefWaits a = true → refuses (.armClose dt arm) stBUSY) ∧ (¬closes → refuses (.armClose dt arm) stSTATE) ∧
      (runs → accepts (.armHold dt arm) .hold) ∧ (¬runs → refuses (.armHold dt arm) stSTATE) ∧
      (st ≠ asBLOCKED → accepts (.armBlock dt arm) .block) ∧ (st = asBLOCKED → refuses (.armBlock dt arm) stSTATE) ∧
      (deblocks → accepts (.armDeblock dt arm) .deblock) ∧ (¬deblocks → refuses (.armDeblock dt arm) stSTATE)) ∧
    (st = asOPEN → x.openSince + d.getAt (siOf d.tt) (Reg.ARM.T_OPEN_MAX a) * 10000 ≤ d.tt → (∀ o ∈ x.asks, o.cause ≠ caWATCHDOG) →
      waits (.armWatchdogExpiry dt arm) { act := .hold, cause := caWATCHDOG, from_ := d.tt }) ∧
    (x.words = w :: rest → w.valid = true → x.req = none → x.asks = [k] → k.from_ ≤ d.strobe a w.si → x.transSi ≠ w.si →
      x.events = [] → 0 < d.getAt w.si (Reg.ARM.INVALID_MAX a) → s.dev.ashRunning = false → s.dev.twin.take.left = 0 →
      s.dev.net.wait = none → s.dev.net.spiWait = none →
      (k.act = .block → st ≠ asBLOCKED → takes asBLOCKED k.cause) ∧ (k.act = .hold → runs → (k.cause = caWATCHDOG → st = asOPEN) → takes asHOLD k.cause) ∧
      (k.act = .hold → k.cause = caWATCHDOG → st = asCLOSED → takes asCLOSED (s.dev.armCause a)) ∧
      (k.act = .openArm → opens → takes asOPEN caSOFTWARE) ∧ (k.act = .deblock → deblocks → takes asOPEN k.cause) ∧
      (k.act = .loss → runs → takes asOPEN caLEGSUM) ∧
      (k.act = .deblock → deblocks → Completes (.armSample dt arm) s (fun t => (t.dev.arm a).nCmd = 0 ∧ (t.dev.arm a).burst = 1 ∧
        ∀ c ∈ s.dev.laneSlots a, s.dev.cellState c = csACTIVE → t.dev.cmdState c = swBLK)) ∧
      (k.act = .close → closes → s.dev.fbLoss a = false → d.coefPending a w.si = false → takes asCLOSED caSOFTWARE))

/-- LANE_SELECTION and RANKING_SWITCH (spec R248, R249, R258, R278, R279, R285, R287): the lane commands the cell that it
chooses, whose commanded state, SEQ and the arm's count move, until the request is served; a request that finds no cell ends,
takes its step back and raises F124; in a deblock burst it inserts cell by cell and then bypasses every ACTIVE cell still in
BLK, each a level event, and the burst is complete with its last cell; the new ranking takes effect for every cell at once, and
a key that it has to limit sets KEY_SAT. With which estimate a key is taken is the model's choice (log 41). How often F152 rises
while a key stays limited is the model's reading (log 90). -/
def Obligations.LaneSelections : Prop :=
  ∀ (s : State) (dt : Nat) (arm : Arm) (r : SelReq) (c op : Nat) (l : LaneX) (v : KeyVals) (more : List Nat),
    let a := arm.val
    let d := s.met dt
    let x := s.dev.arm a
    let p := portOf c
    let seq := (s.dev.get (Reg.CELL.SEQ c) + 1) % 16
    let others := fun t : State => ∀ o, o ≠ a → t.dev.arm o = s.dev.arm o ∧ t.dev.lane o = s.dev.lane o
    let bypassed := fun (op : Nat) (still : List Nat) (burst need : Nat) (rest : Bool) (t : State) =>
      t.dev.cmdState c = opState op ∧ (t.dev.port p).stackQ = (s.dev.port p).stackQ ++ [{ dest := addrOf c, op := op, seq := some seq }] ∧
      (t.dev.arm a).nCmd = x.nCmd + countOf (opState op) ∧ t.dev.get (Reg.ARM.LAST_EVENT_SI a) = r.si ∧
      (t.dev.arm a).burst = (if still = [] then 0 else burst) ∧ ((t.dev.arm a).burstDone = true ↔ still = [] ∨ x.burstDone = true) ∧
      (t.dev.arm a).req = (if still = [] ∨ r.left = 1 then none
        else some { r with granted := r.granted + 1, left := r.left - 1, need := need, rest := rest }) ∧
      (∀ o, o ≠ c → t.dev.cell o = s.dev.cell o) ∧ others t
    (x.req = some r → 0 < r.left → r.burst = false → r.rest = false →
      (d.choose a r.si r.dir r.pos false = some (c, op, l) → s.dev.armOfSlot c = some a → s.dev.cmdState c ≠ opState op →
        (s.dev.port p).ban = false → (s.dev.port p).stackQ.length < 8 → 1 < r.left →
        Completes (.laneSelection dt arm) s (fun t =>
          t.dev.cmdState c = opState op ∧ t.dev.get (Reg.CELL.SEQ c) = seq ∧
          (t.dev.port p).stackQ = (s.dev.port p).stackQ ++ [{ dest := addrOf c, op := op, seq := some seq }] ∧
          t.dev.get (Reg.LANE.SELECTIONS a) = (s.dev.get (Reg.LANE.SELECTIONS a) + 1) % 2 ^ 64 ∧
          (t.dev.arm a).nCmd = x.nCmd + countOf (opState op) - countOf (s.dev.cmdState c) ∧
          (t.dev.arm a).req = some { r with granted := r.granted + 1, left := r.left - 1, need := r.need - 1 } ∧
          others t ∧ (∀ o, o ≠ c → t.dev.cell o = s.dev.cell o) ∧ (∀ o, o ≠ p → t.dev.port o = s.dev.port o) ∧
          Framed ([Reg.CELL.CMD_STATE c, Reg.CELL.SEQ c, Reg.CELL.STATE_TT c, Reg.CELL.SW_COUNT c, Reg.CELL.KEY c,
            Reg.LANE.SELECTIONS a, Reg.LANE.LEAVES a, Reg.STACKG.LAST_ARM, Reg.STACKG.LAST_CELL] ++ summaryKeys ++ countKeys) dt s t ∧
          t.dev.heart = { s.dev.heart with link := t.dev.link, cells := t.dev.cells, lanes := t.dev.lanes, arms := t.dev.arms })) ∧
      (d.choose a r.si r.dir r.pos false = none → r.granted = 0 → 0 < r.asked → s.dev.live = true →
        Completes (.laneSelection dt arm) s (fun t =>
          (t.dev.arm a).req = none ∧ (t.dev.arm a).nFb = x.nFb - r.dir * (min (r.asked : Int) (x.nFb - r.fb0).natAbs) ∧
          (t.dev.arm a).nCmd = x.nCmd ∧ t.dev.bit (Reg.ARM.LEAVES a) 5 = true ∧
          t.dev.get (Reg.ARM.NO_CELLS a) = (s.dev.get (Reg.ARM.NO_CELLS a) + 1) % 2 ^ 32 ∧ Raises 124 a a s t ∧ others t ∧
          Framed ([Reg.ARM.LEAVES a, Reg.ARM.NO_CELLS a, Reg.ARMG.LAST_ARM, Reg.ARM.N_FF a, Reg.ARM.N_FB a, Reg.ARM.N_CMD a] ++
            summaryKeys ++ countKeys) dt s t ∧
          t.dev.heart = { s.dev.heart with arms := t.dev.arms }))) ∧
    (x.req = some r → 0 < r.left → r.burst = true → (s.dev.port p).stackQ.length < 8 → s.dev.armOfSlot c = some a →
      (r.rest = false → 0 < r.need → d.choose a r.si r.dir r.pos true = some (c, op, l) → (s.dev.port p).ban = false →
        s.dev.cmdState c = swBLK → op ≠ opBYPASS → op ∈ [opPOS, opNEG] →
        Completes (.laneSelection dt arm) s (bypassed op ((s.dev.burstRest a).filter (· ≠ c)) x.burst (r.need - 1) r.rest)) ∧
      (r.rest = true ∨ r.need = 0 → s.dev.burstRest a = c :: more → (s.dev.port p).ban = false →
        Completes (.laneSelection dt arm) s (bypassed opBYPASS more 2 r.need true)) ∧
      (r.rest = true ∨ r.need = 0 → s.dev.burstRest a = [] →
        Completes (.laneSelection dt arm) s (fun t => (t.dev.arm a).req = none ∧ (t.dev.arm a).burst = 0 ∧
          (t.dev.arm a).burstDone = true ∧ (t.dev.arm a).nCmd = x.nCmd ∧ (∀ c, t.dev.cell c = s.dev.cell c) ∧ others t))) ∧
    ((s.dev.lane a).building = some v →
      let sum := fun c => s.dev.keyOf c v (s.dev.vcapWith c (s.dev.lane a).q v.cEst)
      let sat := fun c => F32.isNaN (sum c) || keyLimited (sum c)
      Completes (.rankingSwitch dt arm) s (fun t =>
        (t.dev.lane a) = { s.dev.lane a with vals := v, building := none } ∧ t.dev.get (Reg.LANE.REKEY_TT a) = s.ttAt dt ∧
        t.dev.getF (Reg.LANE.W_V_NOW a) = v.wV ∧ t.dev.getF (Reg.LANE.W_SOC_NOW a) = v.wSoc ∧
        t.dev.getF (Reg.LANE.W_T_NOW a) = v.wT ∧ t.dev.getF (Reg.LANE.W_W_NOW a) = v.wW ∧
        t.dev.getF (Reg.LANE.SOC_TARGET_NOW a) = v.socTarget ∧
        (∀ c ∈ s.dev.laneSlots a, t.dev.get (Reg.CELL.KEY c) =
          if F32.isNaN (sum c) then s.dev.get (Reg.CELL.KEY c) else ofSigned 32 (sat24 (sum c))) ∧
        (∀ c ∈ s.dev.laneSlots a, t.dev.cell c = { s.dev.cell c with keySat := sat c }) ∧
        (∀ c, c ∉ s.dev.laneSlots a → t.dev.cell c = s.dev.cell c) ∧
        ((∃ c ∈ s.dev.laneSlots a, sat c = true) → t.dev.bit (Reg.LANE.LEAVES a) 5 = true) ∧
        ((∀ c ∈ s.dev.laneSlots a, sat c = false) → t.dev.damper = s.dev.damper ∧
          Framed ([Reg.LANE.REKEY_TT a, Reg.LANE.W_V_NOW a, Reg.LANE.W_SOC_NOW a, Reg.LANE.W_T_NOW a, Reg.LANE.W_W_NOW a,
            Reg.LANE.SOC_TARGET_NOW a] ++ (s.dev.laneSlots a).map Reg.CELL.KEY) dt s t) ∧
        t.dev.heart = { s.dev.heart with lanes := t.dev.lanes, cells := t.dev.cells }))

/-- RETIRE, GROUPS, the audit of the lanes and the spare lane (spec R287, R288, R290, R295, R299–R301): RETIRE 1 takes a cell
out and bypasses it, an inserted one with the first arm sample after now; RETIRE 2 releases it with DEADMIT while its arm is
BLOCKED; GROUPS sends GROUP_SET for each place that changed; a lane that disagrees with the cell table raises F153; SPARE_IN
loads L6 for a BLOCKED or HOLD arm, and the end of the load carries the arm over with F154 or fails with F155, and with the last
spare gone F247 follows, once, as the count falls to 0 (spec R382; when a count falls, and what counts, is as log 49 says).
SPARE_LOAD_DONE stands for the first sample after the check (log 92). -/
def Obligations.CellsAndLanesChange : Prop :=
  ∀ (s : State) (dt : Nat) (slot : Slot) (a : Nat) (v : BitVec 64) (lane : Fin 7) (n : Byte),
    let c := slot.val
    let d := s.met dt
    let p := portOf c
    let x := s.dev.port p
    let old := s.dev.cmdState c
    let marks := [Reg.CELL.STATE c, Reg.CELL.CMD_STATE c, Reg.CELL.STATE_TT c, Reg.CELL.SW_COUNT c, Reg.CELL.FLAGS c, Reg.CELL.KEY c,
      Reg.LSTAT.LEAVES, Reg.LANE.LEAVES a, Reg.STACKG.LAST_ARM, Reg.STACKG.LAST_CELL] ++ summaryKeys
    let moved := fun t : State => (∀ o, o ≠ c → t.dev.cell o = s.dev.cell o) ∧ (∀ q, q ≠ p → t.dev.port q = s.dev.port q) ∧
      (∀ o, o ≠ a → t.dev.lane o = s.dev.lane o) ∧ Framed marks dt s t ∧
      t.dev.heart = { s.dev.heart with link := t.dev.link, cells := t.dev.cells, lanes := t.dev.lanes, arms := t.dev.arms }
    let ins := old ∈ [swPOS, swNEG]
    let leaves := (s.dev.lane a).removals.any (fun r => r.slot == c)
    let counted := s.dev.flag c flUNCONFIRMED = false
    let mine := x.otherQ.filter (fun q => !(q.isRepeat && q.dest == addrOf c))
    let sent := fun t : State => (t.dev.port p).otherQ = mine ++ [{ dest := addrOf c, op := opBYPASS }]
    let waits := fun (t : State) (new : Nat) (sends : Bool) => t.dev.cmdState c = old ∧
      t.dev.lane a = { s.dev.lane a with removals := (s.dev.lane a).removals ++ [{ slot := c, state := new, tt := s.ttAt dt, unicast := sends }] }
    let stays := fun t : State => t.dev.cmdState c = old ∧ t.dev.lane a = s.dev.lane a
    let answers := fun (i : Instr) (st : Nat) => Completes i s (fun t =>
      t.dev.status = st ∧ Framed [] dt s t ∧ t.dev.inner = s.dev.inner)
    let place := fun (w k : Nat) => w / 256 ^ k % 256
    let had := s.dev.get (Reg.CELL.GROUPS c)
    let sets := ((List.range 8).filter (fun k => place v.toNat k ≠ place had k)).map (fun k =>
      ({ dest := addrOf c, op := opGROUP_SET, limited := true
         exec := k * 256 + if place v.toNat k = 0 then place had k else 128 + place v.toNat k } : DlCmd))
    let seated := s.dev.cellState c ∈ [csACTIVE, csSTALE, csDISPUTED]
    let b := n.toNat - 1
    let ready := s.dev.hasLease = true ∧ s.dev.get Reg.SPARE.SPARE_STATE = 0 ∧ s.dev.bit Reg.SPARE.FAILED_LANES 6 = false ∧
      s.dev.armState b ∈ [asBLOCKED, asHOLD]
    let spent := fun t : State => t.dev.damper.raised = s.dev.damper.raised ++
      [{ src := 154, at_ := t.dev.now, arm := s.dev.spare.arm - 1, aux := s.dev.spare.arm - 1 }] ++
      (if s.dev.sparesLeft = 0 then [] else [{ src := 247, at_ := t.dev.now, arm := 0xFF, aux := 0 }])
    let lost := fun t : State => t.dev.damper.raised = s.dev.damper.raised ++
      [{ src := 155, at_ := t.dev.now, arm := s.dev.spare.arm - 1, aux := s.dev.spare.arm - 1 }] ++
      (if s.dev.sparesLeft = 0 then [] else [{ src := 247, at_ := t.dev.now, arm := 0xFF, aux := 0 }])
    let spare := fun (ok : Bool) (P : State → Prop) => Completes (.spareLoadDone dt ok) s P
    let loaded := s.dev.spare.arm - 1
    (d.writable (Reg.CELL.RETIRE c) = true → s.dev.armOfSlot c = some a →
      (seated → Completes (.cellRetire dt slot) s (fun t => t.dev.status = stOK ∧ t.dev.cellState c = csRETIRED ∧
        (old = swBYP ∨ x.ban = true ∨ ins ∧ leaves = true → stays t ∧ (t.dev.port p).otherQ = mine) ∧
        (ins → x.ban = false → leaves = false → counted → waits t swBYP true ∧ sent t) ∧
        (x.ban = false → old ≠ swBYP → ¬ins ∨ ¬counted ∧ leaves = false → t.dev.cmdState c = swBYP ∧ sent t) ∧ moved t)) ∧
      (¬seated → answers (.cellRetire dt slot) stSTATE) ∧
      (s.dev.cellState c = csRETIRED → s.dev.armState a = asBLOCKED →
        Completes (.cellRelease dt slot) s (fun t => t.dev.status = stOK ∧ t.dev.cellState c = csABSENT ∧
          (¬ins ∨ ¬counted ∧ leaves = false → t.dev.cmdState c = swBLK) ∧ (ins → leaves = true → t.dev.cmdState c = old ∧ t.dev.lane a = { s.dev.lane a with
            removals := (s.dev.lane a).removals.map (fun r => if r.slot == c then { r with state := swBLK, unicast := false } else r) }) ∧
          (ins → leaves = false → counted → waits t swBLK false) ∧ (t.dev.port p).mgmtQ = x.mgmtQ ++
            [{ bytes := beBytes 1 3 ++ beBytes 1 x.tidNext ++ beBytes 8 (s.dev.get (Reg.TURF.SERIAL c)) }] ∧
          moved t)) ∧
      (s.dev.cellState c ≠ csRETIRED ∨ s.dev.armState a ≠ asBLOCKED → answers (.cellRelease dt slot) stSTATE)) ∧
    (d.writable (Reg.CELL.GROUPS c) = true →
      ((∃ k, k < 8 ∧ 127 < place v.toNat k) → answers (.groupsWrite dt slot v) stRANGE) ∧
      ((∀ k, k < 8 → place v.toNat k ≤ 127) → Completes (.groupsWrite dt slot v) s (fun t => t.dev.status = stOK ∧
        t.dev.get (Reg.CELL.GROUPS c) = v.toNat ∧ (t.dev.port p).otherQ = x.otherQ ++ (if seated then sets else []) ∧
        (∀ q, q ≠ p → t.dev.port q = s.dev.port q) ∧ Framed [Reg.CELL.GROUPS c] dt s t ∧
        t.dev.inner = { s.dev.inner with link := t.dev.link, twin := t.dev.twin }))) ∧
    (s.dev.live = true → s.dev.maintSpares = s.dev → Completes (.laneAudit dt lane true) s (fun t => Framed [] dt s t ∧ t.dev.inner = s.dev.inner) ∧
      (s.dev.laneArm lane.val = some a → Completes (.laneAudit dt lane false) s (fun t =>
        t.dev.bit (Reg.LANE.LEAVES a) 4 = true ∧ Raises 153 a a s t ∧
        Framed ([Reg.LANE.LEAVES a, Reg.STACKG.LAST_ARM] ++ summaryKeys) dt s t ∧ t.dev.heart = s.dev.heart))) ∧
    (d.writable Reg.SPARE.SPARE_IN = true →
      (n = 0 ∨ 6 < n.toNat → answers (.spareIn dt n) stRANGE) ∧
      (n ≠ 0 → n.toNat ≤ 6 → s.dev.get Reg.SPARE.SPARE_STATE = 1 → answers (.spareIn dt n) stBUSY) ∧
      (n ≠ 0 → n.toNat ≤ 6 → s.dev.get Reg.SPARE.SPARE_STATE ≠ 1 → ¬ready → answers (.spareIn dt n) stSTATE) ∧
      (n ≠ 0 → n.toNat ≤ 6 → ready → Completes (.spareIn dt n) s (fun t => t.dev.status = stOK ∧
        t.dev.get Reg.SPARE.SPARE_STATE = 1 ∧ Framed [Reg.SPARE.SPARE_STATE] dt s t ∧
        t.dev.inner = { s.dev.inner with spare := { s.dev.spare with arm := n.toNat } }))) ∧
    (s.dev.live = true → s.dev.maintSpares = s.dev → s.dev.get Reg.SPARE.SPARE_STATE = 1 → loaded < 6 → (∀ j, j < 4 → s.dev.get (Reg.MSLOT.STATUS j) ≠ 1) →
      spare true (fun t => t.dev.get Reg.SPARE.SPARE_STATE = 2 ∧ t.dev.get Reg.SPARE.SERVES = loaded ∧
        field (t.dev.get Reg.SPARE.LANE_MAP) (4 * loaded) 4 = 6 ∧ t.dev.get (Reg.LANE.PHYS_LANE loaded) = 6 ∧
        t.dev.bit Reg.SPARE.FAILED_LANES (field (s.dev.get Reg.SPARE.LANE_MAP) (4 * loaded) 4) = true ∧
        t.dev.get Reg.SPARE.LAST_RESULT = 1 ∧ t.dev.bit Reg.STACKG.LEAVES 0 = true ∧ spent t ∧ t.dev.bit Reg.MAINT.LEAVES 1 = true ∧
        Framed ([Reg.SPARE.SPARE_STATE, Reg.SPARE.SERVES, Reg.SPARE.LANE_MAP, Reg.SPARE.FAILED_LANES, Reg.SPARE.LAST_RESULT,
          Reg.LANE.PHYS_LANE loaded, Reg.STACKG.LEAVES, Reg.STACKG.LAST_ARM, Reg.MAINT.LEAVES] ++ summaryKeys) dt s t) ∧
      spare false (fun t => t.dev.get Reg.SPARE.SPARE_STATE = 3 ∧ t.dev.get Reg.SPARE.LAST_RESULT = 2 ∧
        t.dev.bit Reg.SPARE.FAILED_LANES 6 = true ∧ t.dev.bit Reg.STACKG.LEAVES 1 = true ∧ lost t ∧ t.dev.bit Reg.MAINT.LEAVES 1 = true ∧
        Framed ([Reg.SPARE.SPARE_STATE, Reg.SPARE.FAILED_LANES, Reg.SPARE.LAST_RESULT, Reg.STACKG.LEAVES, Reg.STACKG.LAST_ARM,
          Reg.MAINT.LEAVES] ++ summaryKeys) dt s t))

/-- KILN_GRANT, NODE_COMPLETE, RG_DEADLINE and NODE_CANCEL (spec R17, R304, R308, R311, R317–R323, R326, R327, R334): an ACTIVE
core that waits, where no lower one can take a node, gets the first ready node of the lowest rate group, not before the group's
snapshot is complete, and a deadline that has come cancels first; a completed node writes the results of its opcode, a loop's by
its gate, or with a non-finite one keeps its outputs STALE with F165; the two copies of a DUP node must agree, else F164; at the
deadline the nodes that have not ended are cancelled and the group overruns with F160 + k; software cancels a node that waits or
is ready, and no other. Where a formula rounds between its operations is the model's reading (log 30), as is when late words
complete the snapshot (log 44). -/
def Obligations.KilnPeriods : Prop :=
  ∀ (s : State) (dt n : Nat) (core : Fin 18) (rg : Fin 4) (node : Fin 4096) (more : List Nat) (same : Bool),
    let c := core.val
    let k := rg.val
    let d := s.met dt
    let x := s.dev.node n
    let g := s.dev.rgx k
    let y := s.dev.kcore c
    let r := evalOp x.op (d.opInput n)
    let finite := F32.isFinite r.o0 && F32.isFinite r.o1 && r.s.all F32.isFinite
    let runs := s.dev.kiln.run = true ∧ s.dev.kiln.halted = false
    let kiln := fun t : State => t.dev.heart = { s.dev.heart with kiln := t.dev.kiln }
    let others := fun t : State => ∀ m, m ≠ n → (s.dev.node m).phase ≠ npWAITING → t.dev.node m = s.dev.node m
    let own := [Reg.NODE.STATUS n, Reg.NODE.LAST_CORE n, Reg.NODE.LAST_EXEC n, Reg.NODE.RUNS n, Reg.RG.LAST_SPAN x.rg,
      Reg.RG.MAX_SPAN x.rg] ++ (List.range 4).map (Reg.NODE.S n)
    let faulty := own ++ [Reg.KILN.LEAVES, Reg.KILN.NONFINITE, Reg.KILN.DUP_MISMATCHES, Reg.KILN.MISMATCH_CORES,
      Reg.KILN.LAST_NODE] ++ summaryKeys
    let dur := min ((s.dev.now + dt - y.grantAt) / 16) 65535
    let cmd := Instr.nodeComplete dt core same
    let i := node.val
    let z := s.dev.node i
    let v := d.opInput n
    let a := v.arg 0
    let b := v.arg 1
    let q := v.arg 2
    let T := v.t
    let S := v.st
    let K := v.kc
    let low := Kf.add (S 0) (Kf.div (Kf.mul (Kf.sub a (S 0)) T) (Kf.add (K 0) T))
    let slew := Kf.add (S 0) (Kf.clamp (Kf.sub a (S 0)) (Kf.mul (F32.neg (K 1)) T) (Kf.mul (K 0) T))
    let hold := if Kf.isTrue b then a else S 0
    let hyst := if Kf.gt a (K 1) then F32.one else if F32.lt a (K 0) then F32.zero else S 0
    let latch := if Kf.isTrue b then F32.zero else if Kf.isTrue a then F32.one else S 0
    let sum := if Kf.isTrue (v.arg 3) then K 3 else Kf.clamp (Kf.add (S 0) (Kf.mul (Kf.mul (K 0) a) T)) (K 1) (K 2)
    let timed := if Kf.isTrue a then Kf.add (S 0) T else F32.zero
    let plain : List (Nat × F32) := [(0x01, a), (0x02, K 0), (0x03, v.fold Kf.add), (0x04, Kf.sub a b), (0x05, Kf.mul a b),
      (0x06, Kf.fma a b q), (0x07, Kf.div a b), (0x08, Kf.fma (K 0) a (K 1)), (0x09, F32.abs a), (0x0A, v.fold F32.min),
      (0x0B, v.fold F32.max), (0x0C, Kf.sqrt a), (0x0D, Kf.mag a b), (0x0F, Kf.floor a), (0x11, kAtan2 a b), (0x12, kExp a),
      (0x13, kLog a), (0x14, Kf.sub a (Kf.mul (K 1) (Kf.floor (Kf.div (Kf.sub a (K 0)) (K 1))))), (0x22, Kf.clamp a (K 0) (K 1)),
      (0x23, if F32.le (F32.abs a) (K 0) then F32.zero else Kf.sub a (if F32.sign a then F32.neg (K 0) else K 0)),
      (0x26, if Kf.isTrue a then b else q), (0x27, Kf.logic (v.conn.all Kf.isTrue)), (0x28, Kf.logic (v.conn.any Kf.isTrue)),
      (0x29, Kf.logic ((v.conn.filter Kf.isTrue).length % 2 == 1)), (0x2A, Kf.logic (!Kf.isTrue a)),
      (0x2F, Kf.add (Kf.mul (Kf.add (Kf.mul (Kf.add (Kf.mul (K 3) a) (K 2)) a) (K 1)) a) (K 0))]
    let double : List (Nat × F32 × F32) := [(0x10, kSin a, kCos a),
      (0x15, Kf.div (Kf.sub (Kf.sub (Kf.mul (F32.ofNat 2) a) b) q) (F32.ofNat 3), Kf.div (Kf.sub b q) Kf.root3),
      (0x16, Kf.add (Kf.mul a (kCos q)) (Kf.mul b (kSin q)), Kf.add (Kf.mul (F32.neg a) (kSin q)) (Kf.mul b (kCos q))),
      (0x17, Kf.sub (Kf.mul a (kCos q)) (Kf.mul b (kSin q)), Kf.add (Kf.mul a (kSin q)) (Kf.mul b (kCos q))),
      (0x25, Kf.logic (Kf.gt (Kf.sub a b) (K 0)), Kf.logic (F32.lt (Kf.sub a b) (F32.neg (K 0))))]
    let storing : List (Nat × F32 × F32) := [(0x1A, sum, sum), (0x1B, low, low), (0x1D, Kf.div (Kf.sub a (S 0)) T, a), (0x1E, S 0, a),
      (0x1F, hold, hold), (0x20, slew, slew), (0x24, hyst, hyst), (0x2B, latch, latch),
      (0x2C, Kf.logic (Kf.isTrue a && !Kf.isTrue (S 0)), Kf.logic (Kf.isTrue a)),
      (0x2D, Kf.logic (F32.le (K 0) timed), timed)]
    let err := Kf.sub a b
    let dif := if x.op ≠ 0x19 then F32.zero else if v.reinit then F32.zero
      else Kf.div (Kf.add (Kf.mul (K 6) (S 2)) (Kf.mul (K 5) (Kf.sub (S 3) b))) (Kf.add (K 6) T)
    let prop := Kf.mul (K 0) err
    let integ := Kf.clamp (if ¬ v.reinit then Kf.add (S 0) (Kf.mul (Kf.mul (K 1) T) err)
      else if x.op = 0x19 then Kf.sub (Kf.sub (Kf.sub (S 1) prop) q) dif else Kf.sub (Kf.sub (S 1) prop) q) (K 2) (K 3)
    let loop := Kf.clamp (Kf.add (if x.op = 0x19 then Kf.add (Kf.add prop integ) dif else Kf.add prop integ) q) (K 2) (K 3)
    let wrote := fun (t : State) (j : Nat) (z : F32) => t.dev.getF (Reg.NODE.S n j) = F32.flush z
    let results := fun t : State =>
      (∀ o, (x.op, o) ∈ plain → (t.dev.node n).work0 = F32.flush o) ∧
      (∀ o o1, (x.op, o, o1) ∈ double → (t.dev.node n).work0 = F32.flush o ∧ (t.dev.node n).work1 = F32.flush o1) ∧
      (∀ o z, (x.op, o, z) ∈ storing → (t.dev.node n).work0 = F32.flush o ∧ wrote t 0 z) ∧
      (x.op ∈ [0x18, 0x19] → v.closed = true →
        (t.dev.node n).work0 = F32.flush loop ∧ wrote t 0 integ ∧ wrote t 1 loop ∧ (x.op = 0x19 → wrote t 2 dif ∧ wrote t 3 b)) ∧
      (x.op ∈ [0x18, 0x19] → v.closed = false →
        (t.dev.node n).work0 = F32.flush (if v.preset then K 4 else S 1) ∧ wrote t 0 (S 0) ∧
        wrote t 1 (if v.preset then K 4 else S 1) ∧ t.dev.bit (Reg.NODE.STATUS n) 3 = s.dev.bit (Reg.NODE.STATUS n) 3)
    let due := fun j => (s.dev.rgx j).running = true ∧ (s.dev.rgx j).done = false ∧ d.rgDue j ≤ s.ttAt dt
    s.dev.get Reg.TRACE.ENABLE = 0 →
    (runs → s.dev.get (Reg.CORES.STATE c) = kcACTIVE → y.node = none → (∀ b, b < c → d.kcoreTakes b = false) →
      (∀ j, j < k → (s.dev.rgx j).ready = []) → (∀ j, j < 4 → ¬ due j) → (g.start = s.dev.frame.bn → d.snapOpen = false) →
      g.ready = n :: more → x.phase = npREADY →
      Completes (.kilnGrant dt core) s (fun t => (t.dev.kcore c).node = some n ∧ (t.dev.kcore c).grantAt = t.dev.now ∧
        t.dev.node n = { x with phase := npGRANTED } ∧ (∀ m, m ≠ n → t.dev.node m = s.dev.node m) ∧
        n ∉ (t.dev.rgx k).ready ∧ t.dev.get (Reg.CORES.GRANTS c) = (s.dev.get (Reg.CORES.GRANTS c) + 1) % 2 ^ 64 ∧
        Framed (Reg.CORES.GRANTS c :: countKeys) dt s t ∧ kiln t)) ∧
    (runs → y.node = none → (∀ j, j < 4 → ¬ due j) →
      (∀ j, j < 4 → (s.dev.rgx j).ready = [] ∨ (d.snapOpen = true ∧ (s.dev.rgx j).start = s.dev.frame.bn)) →
      Completes (.kilnGrant dt core) s (fun t => Framed [] dt s t ∧ t.dev.inner = s.dev.inner)) ∧
    (s.dev.live = true → runs → due k → (∀ e ∈ s.dev.kiln.cores, e.2.leave = none) →
      Completes (.kilnGrant dt core) s (fun t => (t.dev.rgx k).done = true ∧ (t.dev.rgx k).overran = true ∧
        (∀ m ∈ s.dev.rgNodes k, (s.dev.node m).ended = false → (t.dev.node m).phase = npCANCELLED) ∧ t.pending = s.pending)) ∧
    (s.dev.live = true → y.node = some n → y.leave = none →
      (x.phase = npGRANTED ∧ x.dup = false ∨ x.phase = npDUP_GRANTED ∧ same = true →
        (finite = true → Completes cmd s (fun t =>
          t.dev.node n = { x with phase := npCOMPLETE, reinit := false, work0 := F32.flush r.o0, work1 := F32.flush r.o1, stale0 := d.staleIn n,
                                  stale1 := d.staleIn n } ∧
          t.dev.bit (Reg.NODE.STATUS n) 0 = true ∧ t.dev.get (Reg.NODE.LAST_CORE n) = c ∧ t.dev.get (Reg.NODE.LAST_EXEC n) = dur ∧
          t.dev.get (Reg.NODE.RUNS n) = (s.dev.get (Reg.NODE.RUNS n) + 1) % 2 ^ 32 ∧ (t.dev.kcore c).node = none ∧
          results t ∧ others t ∧ Framed own dt s t ∧ kiln t)) ∧
        (finite = false → Completes cmd s (fun t =>
          t.dev.node n = { x with phase := npCOMPLETE, stale0 := true, stale1 := true } ∧
          t.dev.bit (Reg.NODE.STATUS n) 5 = true ∧ t.dev.bit Reg.KILN.LEAVES 1 = true ∧
          t.dev.get Reg.KILN.NONFINITE = (s.dev.get Reg.KILN.NONFINITE + 1) % 2 ^ 32 ∧ t.dev.get Reg.KILN.LAST_NODE = n ∧
          Raises 165 0xFF n s t ∧ (t.dev.kcore c).node = none ∧ others t ∧ Framed faulty dt s t ∧ kiln t))) ∧
      (x.phase = npGRANTED → x.dup = true → Completes cmd s (fun t =>
        t.dev.node n = { x with phase := npDUP_READY, core1 := c, readyAt := t.dev.now } ∧
        (t.dev.rgx 0).ready = n :: (s.dev.rgx 0).ready ∧ (t.dev.kcore c).node = none ∧ Framed [] dt s t ∧ kiln t)) ∧
      (x.phase = npDUP_GRANTED → same = false → Completes cmd s (fun t =>
        t.dev.node n = { x with phase := npMISMATCHED, stale0 := true, stale1 := true } ∧
        t.dev.bit (Reg.NODE.STATUS n) 6 = true ∧ t.dev.bit Reg.KILN.LEAVES 0 = true ∧
        t.dev.get Reg.KILN.DUP_MISMATCHES = (s.dev.get Reg.KILN.DUP_MISMATCHES + 1) % 2 ^ 32 ∧
        t.dev.get Reg.KILN.MISMATCH_CORES = x.core1 * 256 + c ∧ Raises 164 0xFF n s t ∧ others t ∧ Framed faulty dt s t ∧
        kiln t))) ∧
    (s.dev.live = true → runs → g.running = true → g.done = false → d.rgDue k ≤ s.ttAt dt →
      (∀ e ∈ s.dev.kiln.cores, e.2.leave = none) →
      Completes (.rgDeadline dt rg) s (fun t => (∀ m ∈ s.dev.rgNodes k, (t.dev.node m).ended = true) ∧
        (∀ m ∈ s.dev.rgNodes k, (s.dev.node m).ended = false → (t.dev.node m).phase = npCANCELLED ∧ (t.dev.node m).stale0 = true ∧
          (t.dev.node m).work0 = (s.dev.node m).work0) ∧
        (t.dev.rgx k).done = true ∧ (t.dev.rgx k).overran = true ∧ t.dev.bit Reg.KILN.LEAVES 9 = true ∧ Raises (160 + k) 0xFF 0 s t ∧
        t.dev.get Reg.KILN.OVERRUNS = (s.dev.get Reg.KILN.OVERRUNS + 1) % 2 ^ 32 ∧
        t.dev.get (Reg.RG.OVERRUNS k) = (s.dev.get (Reg.RG.OVERRUNS k) + 1) % 2 ^ 32 ∧
        t.dev.get (Reg.RG.LAST_OVERRUN_FRAME k) = s.dev.frame.n % 2 ^ 32 ∧
        Framed ([Reg.KILN.OVERRUNS, Reg.RG.OVERRUNS k, Reg.RG.LAST_OVERRUN_FRAME k, Reg.RG.LAST_SPAN k, Reg.RG.MAX_SPAN k,
          Reg.KILN.LEAVES] ++ summaryKeys ++ (s.dev.rgNodes k).map Reg.NODE.STATUS) dt s t ∧ kiln t)) ∧
    (d.writable (Reg.NODE.CANCEL i) = true →
      (let free := s.dev.kiln.run = true ∧ z.phase ∈ [npWAITING, npREADY] ∧ (s.dev.rgx z.rg).running = true
       (free → Completes (.nodeCancel dt node 1) s (fun t => t.dev.status = stOK ∧
          t.dev.node i = { z with phase := npCANCELLED, stale0 := true, stale1 := true } ∧
          t.dev.bit (Reg.NODE.STATUS i) 4 = true ∧ t.dev.get Reg.KILN.CANCELS = (s.dev.get Reg.KILN.CANCELS + 1) % 2 ^ 32 ∧
          Framed [Reg.NODE.STATUS i, Reg.KILN.CANCELS, Reg.RG.LAST_SPAN z.rg, Reg.RG.MAX_SPAN z.rg] dt s t ∧ kiln t)) ∧
       (¬free → Completes (.nodeCancel dt node 1) s (fun t =>
          t.dev.status = stSTATE ∧ Framed [] dt s t ∧ t.dev.inner = s.dev.inner))))

/-- GATE_CMD, CHECK, DEBUG_HALT, DEBUG_RESUME, STAT_CLEAR, TRACE_RESTART and STATS_WINDOW_END (spec R324, R325, R329, R333,
R335, R336, R338, R353): a gate of LOOP changes at its next period; the check runs once at a time and reports what it finds; the
halt holds kiln and PWM until the resume, which abandons the periods; the window publishes its figures together. CHECK_NODE
where several faults hold is as log 46 says. -/
def Obligations.KilnService : Prop :=
  ∀ (s : State) (dt : Nat) (node : Fin 4096),
    let n := node.val
    let d := s.met dt
    let x := s.dev.node n
    let e := s.dev.graphError
    let loop := isLoopOp x.op
    let answers := fun (i : Instr) (st : Nat) => Completes i s (fun t =>
      t.dev.status = st ∧ Framed [] dt s t ∧ t.dev.inner = s.dev.inner)
    let turns := fun (i : Instr) (gate : Nat) => Completes i s (fun t => t.dev.status = stOK ∧ t.dev.nodeGate n = gtCHANGING ∧
      t.dev.node n = { x with gateTo := some gate } ∧ (∀ m, m ≠ n → t.dev.node m = s.dev.node m) ∧
      Framed [Reg.NODE.STATUS n] dt s t ∧ t.dev.inner = { s.dev.inner with kiln := t.dev.kiln })
    let windowKeys := [Reg.STATS.WINDOWS, Reg.STATS.LAST_FRAME] ++ (List.range 4).map Reg.STATRG.QDEPTH_MAX ++
      (List.range 4).map Reg.STATRG.QDEPTH_MEAN ++ (List.range 4).map Reg.STATRG.WAIT_MAX ++
      (List.range 4).map Reg.STATRG.WAIT_MEAN ++ (List.range 4).map Reg.STATRG.GRANTS ++ (List.range 18).map Reg.STATK.LOAD ++
      (List.range 18).map Reg.STATK.LOAD_PEAK ++ (List.range 18).map Reg.STATK.NODES
    let haltKeys := [Reg.KILN.STATE, Reg.KILN.LEAVES, Reg.KILN.HALTS, Reg.PWMG.LEAVES] ++ (List.range 6).map Reg.PWM.STATUS
    (d.writable (Reg.NODE.GATE_CMD n) = true →
      (loop = true → s.dev.nodeGate n = gtCLOSED → turns (.gateOpen dt node) gtOPEN) ∧
      (loop = false ∨ s.dev.nodeGate n ≠ gtCLOSED → answers (.gateOpen dt node) stSTATE) ∧
      (loop = true → s.dev.nodeGate n = gtOPEN → s.dev.nodeCoefPending n = false → turns (.gateClose dt node) gtCLOSED) ∧
      (loop = true → s.dev.nodeGate n = gtOPEN → s.dev.nodeCoefPending n = true → answers (.gateClose dt node) stBUSY) ∧
      (loop = false ∨ s.dev.nodeGate n ≠ gtOPEN → answers (.gateClose dt node) stSTATE)) ∧
    (d.writable Reg.KILN.CHECK = true →
      (s.dev.get Reg.KILN.CHECK_STATE = 1 → answers (.graphCheck dt 1) stBUSY) ∧
      (s.dev.get Reg.KILN.CHECK_STATE ≠ 1 → Completes (.graphCheck dt 1) s (fun t => t.dev.status = stOK ∧
        t.dev.get Reg.KILN.CHECK_STATE = 1 ∧ Framed [Reg.KILN.CHECK_STATE] dt s t ∧ t.dev.inner = s.dev.inner))) ∧
    (s.dev.get Reg.KILN.CHECK_STATE = 1 → Completes (.graphCheckDone dt) s (fun t =>
      t.dev.get Reg.KILN.CHECK_STATE = (if e.1 = 0 then 2 else 3) ∧ t.dev.get Reg.KILN.CHECK_ERROR = e.1 ∧
      t.dev.get Reg.KILN.CHECK_NODE = e.2 ∧ t.dev.bit Reg.KILN.LEAVES 8 = true ∧
      Framed ([Reg.KILN.CHECK_STATE, Reg.KILN.CHECK_ERROR, Reg.KILN.CHECK_NODE, Reg.KILN.LEAVES] ++ summaryKeys) dt s t ∧
      t.dev.heart = s.dev.heart)) ∧
    (s.dev.kiln.halted = false → Completes (.debugHalt dt) s (fun t => t.dev.kiln = { s.dev.kiln with halted := true } ∧
      t.dev.get Reg.KILN.STATE = 2 ∧ t.dev.bit Reg.KILN.LEAVES 7 = true ∧ t.dev.bit Reg.PWMG.LEAVES 0 = true ∧
      t.dev.get Reg.KILN.HALTS = (s.dev.get Reg.KILN.HALTS + 1) % 2 ^ 32 ∧
      (∀ c, c < 6 → (s.dev.pw c).run = true → t.dev.bit (Reg.PWM.STATUS c) psFROZEN = true) ∧
      Framed (haltKeys ++ summaryKeys) dt s t ∧
      t.dev.heart = { s.dev.heart with kiln := t.dev.kiln, jtag := { s.dev.jtag with ir := 0x20 } })) ∧
    (s.dev.kiln.halted = true → (∀ e ∈ s.dev.kiln.cores, e.2.leave = none) → Completes (.debugResume dt) s (fun t => t.dev.kiln.halted = false ∧
      t.dev.get Reg.KILN.STATE = b2n s.dev.kiln.run ∧ t.dev.bit Reg.KILN.LEAVES 7 = false ∧ t.dev.bit Reg.PWMG.LEAVES 0 = false ∧
      (∀ k, k < 4 → (t.dev.rgx k).running = false) ∧
      (∀ c, c < 6 → (s.dev.pw c).run = true → t.dev.bit (Reg.PWM.STATUS c) psFROZEN = false ∧ (t.dev.pw c).fresh = true) ∧
      Framed haltKeys dt s t ∧
      t.dev.heart = { s.dev.heart with kiln := t.dev.kiln, pwm := t.dev.pwm, jtag := { s.dev.jtag with ir := 0x20 } })) ∧
    (d.writable Reg.KILN.STAT_CLEAR = true → Completes (.statClear dt 1) s (fun t => t.dev.status = stOK ∧
      (∀ k, k < 4 → t.dev.get (Reg.RG.MAX_SPAN k) = 0) ∧ Framed ((List.range 4).map Reg.RG.MAX_SPAN) dt s t ∧
      t.dev.inner = s.dev.inner)) ∧
    (d.writable Reg.TRACE.RESTART = true → Completes (.traceRestart dt 1) s (fun t => t.dev.status = stOK ∧
      t.dev.get Reg.TRACE.WR_INDEX = 0 ∧ t.dev.get Reg.TRACE.WRAPPED = 0 ∧ t.dev.get Reg.TRACE.STOPPED = 0 ∧
      Framed [Reg.TRACE.WR_INDEX, Reg.TRACE.WRAPPED, Reg.TRACE.STOPPED] dt s t ∧
      t.dev.inner = { s.dev.inner with kiln := { s.dev.kiln with tracePost := none } })) ∧
    (s.dev.get Reg.STATS.WINDOW ≤ s.dev.kiln.winFrames → Completes (.statsWindowEnd dt) s (fun t =>
      (∀ k, k < 4 → t.dev.get (Reg.STATRG.GRANTS k) = (s.dev.kiln.stats.get k {}).grants ∧
        t.dev.get (Reg.STATRG.WAIT_MAX k) = (s.dev.kiln.stats.get k {}).waitMax / 10) ∧
      (∀ c, c < 18 → t.dev.get (Reg.STATK.NODES c) = (s.dev.kcore c).nodes) ∧
      t.dev.get Reg.STATS.WINDOWS = (s.dev.get Reg.STATS.WINDOWS + 1) % 2 ^ 32 ∧ t.dev.kiln.stats = [] ∧
      t.dev.kiln.winFrames = 0 ∧ t.dev.kiln.winStart = s.dev.kiln.winStart ∧ Framed windowKeys dt s t ∧
      t.dev.inner = { s.dev.inner with kiln := t.dev.kiln }))

/-- The PWM unit (spec R341–R351): a period takes the compare from the shadow and counts; the reference falls at the compare;
each output turns on when its dead time has passed; a masked trip input forces the channel for the rest of the period, counts it
once and latches the channel off at TRIP_LIMIT; a compare write travels to the shadow; CLEAR is refused while a trip input is
high or rises in its tick. No frame boundary falls before what is stated. Coincidences of one tick are as logs 48 and 96 say. -/
def Obligations.PwmChannels : Prop :=
  ∀ (s : State) (dt t0 w : Nat) (pw pin : Pw) (high late : Bool) (v : BitVec 32) (rest : List (Nat × Bool)),
    let n := pw.val
    let d := s.met dt
    let x := s.dev.pw n
    let tt := s.ttAt dt
    let on := decide (s.dev.get (Reg.PWM.ENABLE n) ≠ 0)
    let p := s.dev.get (Reg.PWM.PERIOD n)
    let free := s.dev.kiln.halted = false ∧ s.dev.pwmWanted = true
    let plain := fun code => ∀ k ∈ [12, 13, 14, 15, 16, 17], s.dev.get (Reg.CV.START_SRC k) ≠ code ∧ s.dev.get (Reg.CV.URGENT_SRC k) ≠ code
    let pwm := fun t : State => (∀ o, o ≠ n → t.dev.pw o = s.dev.pw o) ∧ t.dev.heart = { s.dev.heart with pwm := t.dev.pwm }
    let answers := fun (i : Instr) (st : Nat) => Completes i s (fun t =>
      t.dev.status = st ∧ Framed [] dt s t ∧ t.dev.inner = s.dev.inner)
    let count := s.dev.get (Reg.PWM.TRIP_COUNT n)
    let edge := ∃ k, k < 6 ∧ (s.dev.pwMask n).testBit k = true ∧ s.dev.pwm.edges.find k = some d.tick
    let noFrame := fun t => d.frameDue = false ∨ t < s.dev.frame.next
    (free → (x.run = true ∧ t0 = d.pwNext n ∧ t0 ≤ tt) ∨
        (x.run = false ∧ t0 = d.tick ∧ pwTick d.tick p (s.dev.get (Reg.PWM.PHASE n)) = d.tick) → on = true →
      noFrame t0 → plain (0x20 + n) → plain (0x28 + n) → field (s.dev.get (Reg.PWM.TRIP_MASK n)) 0 6 &&& s.dev.pwm.trips = 0 → s.dev.pwLatched n = false →
      count < s.dev.get (Reg.PWM.TRIP_LIMIT n) →
      Completes (.pwmPeriodStart dt pw) s (fun t => (t.dev.pw n).run = true ∧ (t.dev.pw n).start = t0 ∧
        (t.dev.pw n).fin = t0 + 16 * p ∧ (t.dev.pw n).c = x.shadow ∧ (t.dev.pw n).r = decide (0 < x.shadow) ∧
        (t.dev.pw n).fall = (if 0 < x.shadow ∧ x.shadow < 16 * p ∧ x.shadow ≠ 0xFFFFFFF then some (t0 + x.shadow) else none) ∧
        (t.dev.pw n).force = false ∧ (t.dev.pw n).tripped = false ∧ t.dev.get (Reg.PWM.COMPARE_NOW n) = x.shadow ∧
        t.dev.get (Reg.PWM.PERIODS n) = (s.dev.get (Reg.PWM.PERIODS n) + 1) % 2 ^ 64 ∧
        Framed ([Reg.PWM.COMPARE_NOW n, Reg.PWM.PERIODS n, Reg.PWM.STATUS n, Reg.PWM.TRIP_COUNT n] ++ countKeys) dt s t ∧ pwm t)) ∧
    (free → x.run = true → d.pwNext n ≤ tt → on = false → noFrame (d.pwNext n) → plain (0x28 + n) →
      Completes (.pwmPeriodStart dt pw) s (fun t => (t.dev.pw n).run = false ∧ (t.dev.pw n).aOn = false ∧ (t.dev.pw n).bOn = false ∧
        t.dev.bit (Reg.PWM.STATUS n) 0 = false ∧ Framed [Reg.PWM.STATUS n, Reg.PWM.TRIP_COUNT n] dt s t ∧ pwm t)) ∧
    (x.run = true → x.fresh = false → s.dev.kiln.halted = false →
      (x.fall = some t0 → t0 ≤ tt → plain (0x28 + n) →
        Completes (.pwmCompareEvent dt pw) s (fun t => (t.dev.pw n).r = false ∧ (t.dev.pw n).aOn = false ∧
          (t.dev.pw n).bOn = (x.bOn || x.dtB == 0) ∧ (t.dev.pw n).bDue = (if x.bOn || x.dtB == 0 then none else some (t0 + x.dtB)) ∧
          (t.dev.pw n).fall = none ∧ Framed [Reg.PWM.STATUS n] dt s t ∧ pwm t)) ∧
      ((if high then x.aDue else x.bDue) = some t0 → t0 ≤ tt →
        Completes (.deadTimeExpiry dt pw high) s (fun t =>
          t.dev.pw n = (if high then { x with aOn := true, aDue := none } else { x with bOn := true, bDue := none }) ∧
          Framed [Reg.PWM.STATUS n] dt s t ∧ pwm t))) ∧
    ((∀ o, o < 6 → (s.dev.pw o).run = true → tt < d.pwNext o) → noFrame d.tick →
      Completes (.pwmTrip dt pin false) s (fun t => t.dev.pwm.trips.testBit pin.val = false ∧
        (∀ o, t.dev.pw o = s.dev.pw o) ∧ Framed [] dt s t ∧ t.dev.inner = { s.dev.inner with pwm := t.dev.pwm }) ∧
      (free → s.dev.live = true → x.run = true → x.mask.testBit pin.val = true → x.tripped = false → x.edgeSeen = false →
        (∀ u, x.cleared = some u → u.1 ≠ d.tick) →
        (∀ o, o < 6 → o ≠ n → (s.dev.pwMask o).testBit pin.val = false) → s.dev.pwLatched n = false → count < 255 →
        Completes (.pwmTrip dt pin true) s (fun t => (t.dev.pw n).force = true ∧ (t.dev.pw n).tripped = true ∧
          t.dev.bit (Reg.PWM.STATUS n) 1 = true ∧ t.dev.get (Reg.PWM.TRIP_COUNT n) = count + 1 ∧
          t.dev.get (Reg.PWM.TRIPS n) = (s.dev.get (Reg.PWM.TRIPS n) + 1) % 2 ^ 32 ∧ t.dev.get (Reg.PWM.LAST_TRIP_TT n) = tt ∧
          t.dev.bit (Reg.PWM.LEAVES n) 0 = true ∧
          (count + 1 < x.limit → t.dev.pwLatched n = false ∧ t.dev.damper = s.dev.damper) ∧
          (x.limit ≤ count + 1 → t.dev.pwLatched n = true ∧ t.dev.bit (Reg.PWM.LEAVES n) 1 = true ∧ Raises (192 + n) 0xFF n s t) ∧
          Framed ([Reg.PWM.STATUS n, Reg.PWM.TRIP_COUNT n, Reg.PWM.TRIPS n, Reg.PWM.LAST_TRIP_TT n, Reg.PWM.LEAVES n,
            Reg.PWMG.LAST_CHANNEL] ++ summaryKeys ++ countKeys) dt s t ∧ pwm t))) ∧
    (d.writable (Reg.PWM.COMPARE n) = true →
      (2 ^ 28 ≤ v.toNat → answers (.pwmCompareWrite dt pw v) stRANGE) ∧
      (v.toNat < 2 ^ 28 → (if x.run then x.src else s.dev.get (Reg.PWM.DUTY_SRC n)) = 1 → answers (.pwmCompareWrite dt pw v) stSTATE) ∧
      (v.toNat < 2 ^ 28 → (if x.run then x.src else s.dev.get (Reg.PWM.DUTY_SRC n)) ≠ 1 →
        Completes (.pwmCompareWrite dt pw v) s (fun t => t.dev.status = stOK ∧ t.dev.pw n = { x with transit := x.transit ++ [(v.toNat, false)] } ∧ (∀ o, o ≠ n → t.dev.pw o = s.dev.pw o) ∧
          Framed [] dt s t ∧ t.dev.inner = { s.dev.inner with pwm := t.dev.pwm, twin := t.dev.twin }))) ∧
    (x.transit = (w, late) :: rest →
      Completes (.pwmCompareArrival dt pw) s (fun t => t.dev.pw n = { x with shadow := w, transit := rest } ∧
        (late = false → Framed [] dt s t) ∧
        (late = true → t.dev.bit (Reg.PWM.LEAVES n) 2 = true ∧
          t.dev.get (Reg.PWM.LATE_WRITES n) = (s.dev.get (Reg.PWM.LATE_WRITES n) + 1) % 2 ^ 32 ∧
          Framed ([Reg.PWM.LEAVES n, Reg.PWM.LATE_WRITES n] ++ summaryKeys) dt s t) ∧ pwm t)) ∧
    (d.writable (Reg.PWM.CLEAR n) = true →
      (s.dev.tripHigh n = true ∨ edge → Completes (.pwmClear dt pw 1) s (fun t => t.dev.status = stSTATE ∧
        t.dev.bit (Reg.PWM.LEAVES n) 4 = true ∧ Framed (Reg.PWM.LEAVES n :: summaryKeys) dt s t ∧ t.dev.heart = s.dev.heart)) ∧
      (s.dev.tripHigh n = false → ¬edge →
        Completes (.pwmClear dt pw 1) s (fun t => t.dev.status = stOK ∧ t.dev.get (Reg.PWM.TRIP_COUNT n) = 0 ∧
          t.dev.pwLatched n = false ∧ Framed [Reg.PWM.TRIP_COUNT n, Reg.PWM.STATUS n] dt s t ∧ pwm t)))

/-- DAMPER_EVENT and DAMPER_WINDOW_END (spec R358, R360–R362, R367, R373): an event of a source counts, stamps it, counts in its
window and makes the source PENDING with the highest class acted; the class is that of REACT, of SEVERE_REACT where COUNT_N is
reached, ALARM for a self-test source, and falls back to ALARM or CONVERTER_BLOCK where its reaction has nothing to act on. LOG
and ALARM leave everything else alone; the others ask arms to HOLD or BLOCKED, leave RUNNING, or lead to SAFE; the event is
logged at LOG_CLASS and above. The TT stamped is that of the recognition, the model's choice (log 52). Raises of one instant and
windows are as logs 52 and 53 say. -/
def Obligations.DamperClassifiesAndReacts : Prop :=
  ∀ (s : State) (dt w : Nat) (src : Byte) (at_ arm aux : Nat),
    let f := src.toNat
    let d := s.met dt
    let named := if arm < 6 then 1 <<< arm else 0
    let arms := s.dev.armSetOf f named
    let opened := decide (d.now < s.dev.damper.winEnd.get f 0)
    let n := if opened then min (s.dev.get (Reg.FSRC.IN_WINDOW f) + 1) 255 else 1
    let severe := s.dev.bit (Reg.FSRC.STATUS f) ssSEVERE || decide (s.dev.get (Reg.FSRC.COUNT_N f) ≤ n)
    let newly := severe && !s.dev.bit (Reg.FSRC.STATUS f) ssSEVERE
    let wanted := if srcSelfTest f then ALARM
      else s.dev.get (if severe then Reg.FSRC.SEVERE_REACT f else Reg.FSRC.REACT f)
    let cls := s.dev.acted wanted arms
    let was := s.dev.get (Reg.FSRC.CLASS f)
    let cmd := Instr.damperEvent dt
    let i := s.dev.get Reg.DAMP.LOG_INDEX
    let logged := s.dev.get Reg.DAMP.LOG_CLASS ≤ cls ∨ newly = true
    let ofSource := [Reg.FSRC.STATUS f, Reg.FSRC.CLASS f, Reg.FSRC.IN_WINDOW f, Reg.FSRC.EVENTS f, Reg.FSRC.FIRST_TT f,
      Reg.FSRC.LAST_TT f]
    let ofDamper := [Reg.DAMP.EVENTS, Reg.DAMP.LAST_TT, Reg.DAMP.LAST_SOURCE, Reg.DAMP.LEAVES, Reg.DAMP.LOG_INDEX, Reg.DAMP.LOG_WRAPPED]
    (s.dev.damper.raised = [] → Completes cmd s (fun t => Framed [] dt s t ∧ t.dev.inner = s.dev.inner)) ∧
    (s.dev.damper.raised = [{ src := f, at_ := at_, arm := arm, aux := aux }] → s.dev.live = true →
      s.dev.eventAt f at_ = none → s.dev.damper.clears.find f = none → s.dev.damper.rateN < 2000 → i < 8192 →
      f ≠ 164 → ¬(6 ≤ f ∧ f ≤ 11) → f ≠ 153 → f ≠ 223 → s.dev.acq.engineOpen = false → s.dev.ashRunning = false →
      Completes cmd s (fun t =>
        t.dev.get (Reg.FSRC.EVENTS f) = (s.dev.get (Reg.FSRC.EVENTS f) + 1) % 2 ^ 32 ∧
        t.dev.get Reg.DAMP.EVENTS = (s.dev.get Reg.DAMP.EVENTS + 1) % 2 ^ 64 ∧
        t.dev.get (Reg.FSRC.LAST_TT f) = d.tt ∧ t.dev.get Reg.DAMP.LAST_TT = d.tt ∧ t.dev.get Reg.DAMP.LAST_SOURCE = f ∧
        t.dev.get (Reg.FSRC.FIRST_TT f) =
          (if s.dev.bit (Reg.FSRC.STATUS f) ssPENDING then s.dev.get (Reg.FSRC.FIRST_TT f) else d.tt) ∧
        t.dev.get (Reg.FSRC.IN_WINDOW f) = n ∧ t.dev.bit (Reg.FSRC.STATUS f) ssPENDING = true ∧
        t.dev.bit (Reg.FSRC.STATUS f) ssSEVERE = severe ∧
        t.dev.get (Reg.FSRC.CLASS f) = (if was = 0xFF then cls else max was cls) ∧
        (newly = true → t.dev.bit Reg.DAMP.LEAVES 4 = true) ∧
        (ALARM ≤ cls → t.dev.bit Reg.UNITSUM.UNIT_SUMMARY uDAMPER = true) ∧
        (logged → t.dev.get Reg.DAMP.LOG_INDEX = (i + 1) % 8192 ∧
          t.mem.bytes (Mem.log + 32 * i) 32 = LogRec.bytes { tt := d.tt, src := f, cls := cls, state := s.dev.ds, arm := arm
                                                             inWindow := n, aux := aux
                                                             flags := b2n severe + 8 * b2n (srcFixed f) }) ∧
        (¬logged → t.dev.get Reg.DAMP.LOG_INDEX = i ∧ ∀ a, t.mem.read a = s.mem.read a) ∧
        (∀ a, ¬(Mem.log + 32 * i ≤ a ∧ a < Mem.log + 32 * i + 32) → t.mem.read a = s.mem.read a) ∧
        (cls ≤ ALARM → s.dev.ds ≠ dsREADY → KeepsBut (ofSource ++ ofDamper ++ summaryKeys ++ countKeys) s.dev t.dev ∧
          t.dev.heart = { s.dev.heart with damper := { t.dev.damper with raised := [] } }) ∧
        (cls = ARM_HOLD → ∀ a ∈ arms, ⟨.hold, caDAMPER, d.tt, false⟩ ∈ (t.dev.arm a).asks) ∧
        (cls = ARM_BLOCK → ∀ a ∈ arms, ⟨.block, caDAMPER, d.tt, false⟩ ∈ (t.dev.arm a).asks) ∧
        (cls = CONVERTER_BLOCK → (∀ a, a < 6 → s.dev.armState a ≠ asBLOCKED → ⟨.block, caDAMPER, d.tt, false⟩ ∈ (t.dev.arm a).asks) ∧
          (was = 0xFF ∨ was ≤ CONVERTER_BLOCK → s.dev.ds ∈ [dsREADY, dsRUNNING, dsTAKEOVER] → t.dev.ds = dsADMITTED)) ∧
        (cls = TAKEOVER_REQUEST → t.dev.twin.yielded = true ∧ t.dev.interlock = true ∧ t.dev.get Reg.TWIN.ROLE = 3) ∧
        (cls = SAFE_REACTION → t.dev.ds = dsSAFE ∧ t.dev.tripReq = true ∧ t.dev.errLow = true) ∧
        t.pending = s.pending)) ∧
    (s.dev.damper.winEnd.find f = some w →
      (w ≤ d.now → Completes (.damperWindowEnd dt src) s (fun t =>
        t.dev.get (Reg.FSRC.IN_WINDOW f) = (if s.dev.get (Reg.FSRC.IN_WINDOW f) < s.dev.get (Reg.FSRC.COUNT_N f) then 0
          else s.dev.get (Reg.FSRC.IN_WINDOW f)) ∧
        t.dev.damper.winEnd.find f = none ∧ Framed [Reg.FSRC.IN_WINDOW f] dt s t ∧
        t.dev.inner = { s.dev.inner with damper := t.dev.damper })) ∧
      (d.now < w → Completes (.damperWindowEnd dt src) s (fun t => Framed [] dt s t ∧ t.dev.inner = s.dev.inner)))

/-- FAULT_FORCE, FAULT_CLEAR and FAULT_CLEAR_ALL (spec R360, R367, R368, R373, R418): FORCE injects an event of its source while
FORCE_EN stands; a clear takes PENDING, SEVERE, CLASS and the window of a source whose cause is gone, is refused while LIVE, and
gives way to an event of the same instant. A forced event carries FORCED in STATUS and in its record, which is always written,
and sets the event leaf FORCED; F223 is never classified. A CLEAR meets an event of its instant as log 97 says; what a FORCE of
F223 does is log 102, and the TT stamped is that of the recognition (log 52). -/
def Obligations.FaultForceAndClear : Prop :=
  ∀ (s : State) (dt : Nat) (src : Byte) (at_ : Nat),
    let i := s.dev.get Reg.DAMP.LOG_INDEX
    let f := src.toNat
    let d := s.met dt
    let leaves := Reg.DAMP.LEAVES :: summaryKeys
    let cleared := fun (t : State) (g : Nat) => t.dev.get (Reg.FSRC.STATUS g) = 0 ∧ t.dev.get (Reg.FSRC.CLASS g) = 0xFF ∧
      t.dev.get (Reg.FSRC.IN_WINDOW g) = 0
    let refused := fun (i : Instr) (st : Nat) => Completes i s (fun t =>
      t.dev.status = st ∧ Framed [] dt s t ∧ t.dev.inner = s.dev.inner)
    let steady := s.dev.ds = dsREADY → s.dev.readyOk = true
    let damps := fun t : State => t.dev.heart = { s.dev.heart with damper := { t.dev.damper with raised := [] } } ∧
      t.dev.damper.raised = s.dev.damper.raised
    (d.writable (Reg.FSRC.FORCE f) = true →
      (s.dev.get Reg.DAMP.FORCE_EN = 0 → refused (.faultForce dt src 1) stSTATE) ∧
      (s.dev.get Reg.DAMP.FORCE_EN ≠ 0 → Completes (.faultForce dt src 1) s (fun t =>
        t.dev.status = stOK ∧
        t.dev.damper.raised = s.dev.damper.raised ++ [{ src := f, at_ := d.now, arm := 0xFF, aux := 0, forced := true }] ∧
        Framed [] dt s t ∧ t.dev.heart = s.dev.heart))) ∧
    (s.dev.damper.raised = [{ src := f, at_ := at_, arm := 0xFF, aux := 0, forced := true }] → s.dev.live = true →
      s.dev.eventAt f at_ = none → s.dev.damper.clears.find f = none → s.dev.damper.rateN < 2000 → i < 8192 →
      s.dev.acq.engineOpen = false →
      (f ≠ 223 → f ≠ 164 → ¬(6 ≤ f ∧ f ≤ 11) → f ≠ 153 → Completes (.damperEvent dt) s (fun t =>
        t.dev.bit (Reg.FSRC.STATUS f) ssFORCED = true ∧ t.dev.bit (Reg.FSRC.STATUS f) ssPENDING = true ∧
        t.dev.bit Reg.DAMP.LEAVES 2 = true ∧ t.dev.get Reg.DAMP.LOG_INDEX = (i + 1) % 8192 ∧
        (t.mem.bytes (Mem.log + 32 * i + 8) 2 = leBytes 2 f) ∧
        (∃ b, t.mem.bytes (Mem.log + 32 * i + 11) 1 = [b] ∧ b.getLsbD 1 = true) ∧ t.pending = s.pending)) ∧
      (f = 223 → s.dev.damper.events.any (fun e => e.1 == 223 && e.2.at_ == at_) = false →
        Completes (.damperEvent dt) s (fun t => t.dev.bit (Reg.FSRC.STATUS f) ssFORCED = true ∧
          t.dev.get (Reg.FSRC.CLASS f) = s.dev.get (Reg.FSRC.CLASS f) ∧
          t.dev.bit (Reg.FSRC.STATUS f) ssPENDING = s.dev.bit (Reg.FSRC.STATUS f) ssPENDING ∧
          t.dev.get (Reg.FSRC.IN_WINDOW f) = s.dev.get (Reg.FSRC.IN_WINDOW f) ∧ t.dev.bit Reg.DAMP.LEAVES 2 = true ∧
          t.dev.get Reg.DAMP.LOG_INDEX = (i + 1) % 8192 ∧ (s.dev.ds ≠ dsREADY → t.dev.ds = s.dev.ds) ∧ t.pending = s.pending))) ∧
    (d.writable (Reg.FSRC.CLEAR f) = true →
      (s.dev.srcLive f = true → refused (.faultClear dt src 1) stSTATE) ∧
      (s.dev.srcLive f = false → d.srcNow f = true → refused (.faultClear dt src 1) stSUPERSEDED) ∧
      (s.dev.srcLive f = false → d.srcNow f = false → steady → Completes (.faultClear dt src 1) s (fun t =>
        t.dev.status = stOK ∧ cleared t f ∧ t.dev.damper.winEnd.find f = none ∧
        Framed ([Reg.FSRC.STATUS f, Reg.FSRC.CLASS f, Reg.FSRC.IN_WINDOW f] ++ leaves) dt s t ∧ damps t))) ∧
    (d.writable Reg.DAMP.CLEAR_ALL = true → steady →
      Completes (.faultClearAll dt 1) s (fun t => t.dev.status = stOK ∧
        (∀ g, g < 256 → if s.dev.srcLive g || d.srcNow g then
            t.dev.get (Reg.FSRC.STATUS g) = s.dev.get (Reg.FSRC.STATUS g) ∧ t.dev.get (Reg.FSRC.CLASS g) = s.dev.get (Reg.FSRC.CLASS g)
          else cleared t g) ∧
        (∀ k, k ∉ leaves → k % 256 ∉ [0x07, 0x08, 0x0E] → t.dev.get k = s.dev.get k) ∧ t.pending = s.pending ∧
        (∀ a, t.mem.read a = s.mem.read a) ∧ damps t))

/-- CORE_STALL, INVALID_DUAL_RAIL, PARITY_ERROR, MEMORY_READ_ERROR and SCRUB_PASS (spec R15, R369, R370, R372, R373, R378,
R391): each raises the source of its path, row or block; the damper's own stall takes the device to SAFE; a stall of a path
whose handshakes renew ACT_OUT ends it and closes the interlock; in KINDLING a stall is raised for its record (R369). AUX is the
unit's LAST_* value or 0 (R373). Where MISMATCH_CORES holds the core of a stall is the model's reading (log 93), which paths
renew ACT_OUT is log 58, and what an exhausted spare does to a wanted repair is log 49. -/
def Obligations.StallsAndMemoryErrors : Prop :=
  ∀ (s : State) (dt : Nat) (arm : Arm) (lane : Fin 7) (core : Fin 18) (port : Port) (row : Fin 20480) (block : Fin 1024) (slot : Fin 2)
    (st : Fin 16) (b : Nat) (path : CorePath) (use : SramUse),
    let same := fun (t : State) => Framed [] dt s t ∧ t.dev.heart = s.dev.heart
    let raises := fun (i : Instr) (src arm aux : Nat) => Completes i s (fun t => Raises src arm aux s t ∧ same t)
    let steady := s.dev.maintSpares = s.dev
    let quiet := fun (p : CorePath) => steady ∧ (Config.renewPath (pathSource p) = false ∨ s.dev.twinEn = false)
    let stalls := fun (p : CorePath) (src arm aux : Nat) => quiet p → raises (.coreStall dt p) src arm aux
    let counted := fun (t : State) => t.dev.get Reg.MAINT.CE_COUNT = (s.dev.get Reg.MAINT.CE_COUNT + 1) % 2 ^ 32 ∧
      Framed [Reg.MAINT.CE_COUNT] dt s t ∧ t.dev.heart = { s.dev.heart with maint := t.dev.maint }
    let recent := (s.dev.maint.ce.get row.val []).filter (fun t => decide ((s.met dt).now < t + s.dev.get Reg.MAINT.CE_WINDOW * 10000000000))
    (s.dev.ds ∈ [dsRESET, dsBANKED] →
      Completes (.coreStall dt path) s (fun t => Framed [] dt s t ∧ t.dev.inner = s.dev.inner)) ∧
    (s.dev.ds = dsKINDLING → quiet (.arm arm) → Completes (.coreStall dt (.arm arm)) s (fun t => same t ∧
      t.dev.damper.raised = s.dev.damper.raised ++
        [{ src := arm.val, at_ := t.dev.now, arm := arm.val, aux := 0, kindling := some ALARM }])) ∧
    (s.dev.ds = dsKINDLING → Completes (.coreStall dt .damper) s (fun t => t.dev.ds = dsSAFE ∧ t.pending = s.pending ∧
      { src := 18, at_ := t.dev.now, arm := 0xFF, aux := 0, kindling := some SAFE_REACTION } ∈ t.dev.damper.raised)) ∧
    (s.dev.live = true →
      stalls (.arm arm) arm.val arm.val 0 ∧ stalls .scheduler 14 0xFF 0 ∧ stalls .fabric 15 0xFF 0 ∧ stalls .acquisition 17 0xFF 0 ∧
      (∀ a, s.dev.laneArm lane.val = some a → stalls (.lane lane) (6 + lane.val) a 0) ∧
      (s.dev.laneArm lane.val = none → stalls (.lane lane) (6 + lane.val) 0xFF 0) ∧
      (quiet (.link port) → Completes (.coreStall dt (.link port)) s (fun t => Raises 16 0xFF port.val s t ∧
        t.dev.get Reg.LINK.LAST_FAULT_PORT = port.val ∧ Framed [Reg.LINK.LAST_FAULT_PORT] dt s t ∧ t.dev.heart = s.dev.heart)) ∧
      Completes (.coreStall dt (.kilnCore core)) s (fun t => t.dev.get (Reg.CORES.STATE core.val) = kcRETIRED ∧
        t.dev.get Reg.KILN.MISMATCH_CORES = core.val * 256 + 0xFF ∧
        { src := 13, at_ := t.dev.now, arm := 0xFF, aux := 0 } ∈ t.dev.damper.raised ∧ t.pending = s.pending) ∧
      Completes (.coreStall dt .damper) s (fun t => t.dev.ds = dsSAFE ∧ t.dev.kindle.sosc = true ∧ t.dev.tripReq = true ∧
        t.dev.errLow = true ∧ t.pending = s.pending) ∧
      Completes (.coreStall dt path) s (fun t => Config.renewPath (pathSource path) = true → s.dev.twinEn = true →
        t.dev.twin.stalled = true ∧ t.dev.active = false ∧ t.dev.interlock = true) ∧
      raises (.invalidDualRail dt) 19 0xFF 0 ∧ raises (.parityError dt) 21 0xFF 0 ∧
      raises (.memoryReadError dt (.mram block) false) 244 0xFF 0 ∧
      raises (.memoryReadError dt (.sram row .control) false) 241 0xFF 0 ∧
      raises (.memoryReadError dt (.sram row .capture) false) 242 0xFF 0 ∧
      Completes (.memoryReadError dt (.sram row (.retention slot)) false) s (fun t => Raises 241 0xFF 0 s t ∧ Framed [] dt s t ∧
        t.dev.heart = { s.dev.heart with twin := { s.dev.twin with retError := true } }) ∧
      (s.dev.acqState ∉ [acFILLING, acARMED] → Completes (.memoryReadError dt (.sram row (.record st b)) false) s (fun t =>
        Raises 242 0xFF 0 s t ∧
        (∀ q ∈ t.dev.acq.blocks, q.stream = st → q.block = b → q.invalid = true) ∧
        (∀ q ∈ t.dev.acq.streams, q.1 = st → q.2.block = b → q.2.invalid = true) ∧ Framed [] dt s t ∧
        t.dev.heart = { s.dev.heart with acq := { t.dev.acq with ecTick := 0, ecSeen := [] } })) ∧
      (s.dev.acqState ∈ [acFILLING, acARMED] → Completes (.memoryReadError dt (.sram row (.record st b)) false) s (fun t =>
        t.dev.acqState = acABORTED ∧ t.dev.bit Reg.ACQ.LEAVES 2 = true ∧ t.dev.damper.raised = s.dev.damper.raised ++
          [{ src := 242, at_ := t.dev.now, arm := 0xFF, aux := 0 }, { src := 253, at_ := t.dev.now, arm := 0xFF, aux := 0 }])) ∧
      (recent.length + 1 < s.dev.get Reg.MAINT.CE_LIMIT →
        Completes (.memoryReadError dt (.sram row use) true) s (fun t => Raises 240 0xFF 0 s t ∧ counted t ∧
          t.dev.maint = { s.dev.maint with ce := s.dev.maint.ce.put row.val ((s.met dt).now :: recent) })) ∧
      (s.dev.get Reg.MAINT.CE_LIMIT ≤ recent.length + 1 → s.dev.bit Reg.MAINT.AUTO 2 = true →
        (s.dev.get Reg.MAINT.SRAM_SPARE_ROWS = 0 → Completes (.memoryReadError dt (.sram row use) true) s (fun t => counted t ∧
          t.dev.damper.raised = s.dev.damper.raised ++
            [{ src := 240, at_ := t.dev.now, arm := 0xFF, aux := 0 }, { src := 248, at_ := t.dev.now, arm := 0xFF, aux := 0 }])) ∧
        (s.dev.get Reg.MAINT.SRAM_SPARE_ROWS ≠ 0 → Completes (.memoryReadError dt (.sram row use) true) s (fun t => counted t ∧
          Raises 240 0xFF 0 s t ∧ ∃ w ∈ t.dev.maint.want, w.code = maSRAM_REPAIR ∧ w.inst = row.val))) ∧
      (block.val ∉ s.dev.maint.mramCe → Completes (.memoryReadError dt (.mram block) true) s (fun t => counted t ∧
        Raises 243 0xFF 0 s t ∧ t.dev.maint = { s.dev.maint with mramCe := block.val :: s.dev.maint.mramCe })) ∧
      (block.val ∈ s.dev.maint.mramCe → s.dev.bit Reg.MAINT.AUTO 3 = true → s.dev.get Reg.MAINT.MRAM_SPARE_BLOCKS ≠ 0 →
        Completes (.memoryReadError dt (.mram block) true) s (fun t => counted t ∧ Raises 243 0xFF 0 s t ∧
          ∃ w ∈ t.dev.maint.want, w.code = maMRAM_RETIRE ∧ w.inst = block.val)) ∧
      Completes (.scrubPass dt) s (fun t => t.dev.get Reg.MAINT.SCRUB_PASSES = (s.dev.get Reg.MAINT.SCRUB_PASSES + 1) % 2 ^ 32 ∧
        Framed [Reg.MAINT.SCRUB_PASSES] dt s t ∧ t.dev.inner = s.dev.inner))

/-- MAINT_START, MAINT_ABORT, MAINT_ACTIVITY_DONE, MAINT_AUTO_START and PROOF_DUE (spec R383–R388): a start is judged in the
order running, state, overlap, coverage, own condition, and an accepted offline one ends READY; an abort leaves ABORTED; a
repair takes a spare, a failure sets ACTIVITY_FAILED and raises F249, a test that finds a fault F250 and its unit's source too;
the engine starts what it wants in the lowest free slot once its instant has passed (log 98), or tries again 1,000 ms later; it
no longer wants what AUTO no longer names, nor a repair without a spare, which raises F248; PROOF_AGE above its interval raises
F252. The status of an invalid code, RESULT of a repair, what counts as a fault found, and a want that is tried again or dropped
are as log 49 says. -/
def Obligations.MaintenanceActivities : Prop :=
  ∀ (s : State) (dt : Nat) (slot : Fin 4) (ok : Bool) (value : BitVec 32) (w : WantX) (free : Nat),
    let n := slot.val
    let d := s.met dt
    let code := s.dev.maCode n
    let inst := s.dev.maInst n
    let known := fun c i => ∃ l, maLast c = some l ∧ i ≤ l
    let inState := fun c => s.dev.ds ∈ (if 8 ≤ c then [dsREADY] else [dsCONFIGURED, dsLINKS_UP, dsADMITTED, dsREADY, dsRUNNING])
    let overlap := fun c i => ∃ o, o < 4 ∧ s.dev.maRunning o = true ∧
      ∃ r ∈ s.dev.maScope (s.dev.maCode o) (s.dev.maInst o), r ∈ s.dev.maScope c i
    let uncovered := fun c => maCoverage c = true ∧ ∃ o, o < 4 ∧ s.dev.maRunning o = true ∧ maCoverage (s.dev.maCode o) = true
    let admits := fun c i => known c i ∧ inState c ∧ ¬overlap c i ∧ ¬uncovered c ∧ d.maOwn c i = 0
    let plain := fun c => c ∈ [3, 4, 5, 7, 8, 9, 10, 11]
    let start := Instr.maintStart dt slot 1
    let refused := fun (i : Instr) (st why : Nat) => Completes i s (fun t =>
      t.dev.status = st ∧ t.dev.get Reg.MAINT.LAST_REFUSAL = why ∧ Framed [Reg.MAINT.LAST_REFUSAL] dt s t ∧ t.dev.inner = s.dev.inner)
    let plainEnd := fun t : State => t.dev.get (Reg.MSLOT.END_TT n) = d.tt ∧ t.dev.heart = { s.dev.heart with maint := t.dev.maint }
    let endKeys := [Reg.MSLOT.STATUS n, Reg.MSLOT.END_TT n, Reg.MAINT.LEAVES] ++ summaryKeys
    let failed := fun (t : State) (l : List Nat) => t.dev.bit Reg.MAINT.LEAVES 0 = true ∧
      ∃ more, t.dev.damper.raised = s.dev.damper.raised ++
        l.map (fun f => { src := f, at_ := t.dev.now, arm := 0xFF, aux := 0 }) ++ more
    let sec := 10000000000
    let quiet := d.now < s.dev.maint.calAt + s.dev.get Reg.MAINT.CAL_INTERVAL * sec ∧
      d.now < s.dev.maint.adcAt + s.dev.get Reg.MAINT.ADC_CAL_INTERVAL * sec ∧ d.now < s.dev.maint.wearAt + sec
    let bit := s.dev.bit Reg.MAINT.AUTO (w.code - 1)
    let drops := fun t : State => t.dev.maint = { s.dev.maint with want := [] } ∧ Framed [] dt s t ∧
      t.dev.heart = { s.dev.heart with maint := t.dev.maint }
    let again := fun t : State => t.dev.maint = { s.dev.maint with want := [{ w with at_ := d.now + sec }] } ∧
      t.dev.heart = { s.dev.heart with maint := t.dev.maint }
    (d.writable (Reg.MSLOT.START n) = true →
      (s.dev.maRunning n = true → (s.dev.ds = dsREADY → s.dev.readyOk = true) →
        Completes start s (fun t => t.dev.status = stBUSY ∧ Framed [] dt s t ∧ t.dev.inner = s.dev.inner)) ∧
      (s.dev.maRunning n = false → (s.dev.ds = dsREADY → s.dev.readyOk = true) →
        (¬(known code inst ∧ inState code) → refused start stSTATE 3) ∧
        (known code inst → inState code → overlap code inst → refused start stBUSY 1) ∧
        (known code inst → inState code → ¬overlap code inst → uncovered code → refused start stBUSY 2) ∧
        (known code inst → inState code → ¬overlap code inst → ¬uncovered code → d.maOwn code inst ≠ 0 →
          refused start stSTATE (d.maOwn code inst)) ∧
        (admits code inst → Completes start s (fun t => t.dev.status = stOK ∧ t.dev.get (Reg.MSLOT.STATUS n) = 1 ∧
          t.dev.get (Reg.MSLOT.FLAGS n) = 4 * b2n (maCoverage code) ∧ t.dev.get (Reg.MSLOT.START_TT n) = d.tt ∧
          (8 ≤ code → t.dev.ds = dsADMITTED) ∧
          (code = maLANE_SPARE → t.dev.get Reg.SPARE.SPARE_STATE = 1) ∧
          (plain code → code < 8 → Framed [Reg.MSLOT.STATUS n, Reg.MSLOT.FLAGS n, Reg.MSLOT.START_TT n] dt s t ∧
            t.dev.inner = s.dev.inner) ∧ t.pending = s.pending)))) ∧
    (d.writable (Reg.MSLOT.ABORT n) = true →
      (s.dev.maRunning n = false → Completes (.maintAbort dt slot 1 none) s (fun t =>
        t.dev.status = stSTATE ∧ Framed [] dt s t ∧ t.dev.inner = s.dev.inner)) ∧
      (s.dev.maRunning n = true → plain code → Completes (.maintAbort dt slot 1 none) s (fun t =>
        t.dev.status = stOK ∧ t.dev.get (Reg.MSLOT.STATUS n) = 4 ∧ plainEnd t ∧ Framed endKeys dt s t)) ∧
      (s.dev.maRunning n = true → plain code → Completes (.maintAbort dt slot 1 (some true)) s (fun t =>
        t.dev.status = stOK ∧ t.dev.get (Reg.MSLOT.STATUS n) = 2 ∧ t.dev.bit (Reg.MSLOT.FLAGS n) 0 = true ∧
        t.dev.get (Reg.MSLOT.END_TT n) = d.tt))) ∧
    (s.dev.maRunning n = false → Completes (.maintActivityDone dt slot ok value) s (fun t => Framed [] dt s t ∧ t.dev.inner = s.dev.inner)) ∧
    (s.dev.maRunning n = true → s.dev.live = true →
      (plain code → code ≠ 5 → Completes (.maintActivityDone dt slot true value) s (fun t => t.dev.get (Reg.MSLOT.STATUS n) = 2 ∧
        plainEnd t ∧
        (code = maSRAM_REPAIR → t.dev.get Reg.MAINT.SRAM_SPARE_ROWS = s.dev.get Reg.MAINT.SRAM_SPARE_ROWS - 1 ∧
          t.dev.get (Reg.MSLOT.RESULT n) = inst ∧ ∃ more, t.dev.damper.raised = s.dev.damper.raised ++
            [{ src := 245, at_ := t.dev.now, arm := 0xFF, aux := 0 }] ++ more) ∧
        (code = maMRAM_RETIRE → t.dev.get Reg.MAINT.MRAM_SPARE_BLOCKS = s.dev.get Reg.MAINT.MRAM_SPARE_BLOCKS - 1 ∧
          t.dev.get (Reg.MSLOT.RESULT n) = inst ∧ ∃ more, t.dev.damper.raised = s.dev.damper.raised ++
            [{ src := 246, at_ := t.dev.now, arm := 0xFF, aux := 0 }] ++ more) ∧
        (code = maWEAR → F32.isFinite value = true → t.dev.get Reg.MAINT.WEAR_NOW = value.toNat) ∧
        (8 ≤ code → Framed (Reg.MSLOT.RESULT n :: endKeys) dt s t))) ∧
      (plain code → Completes (.maintActivityDone dt slot false value) s (fun t => t.dev.get (Reg.MSLOT.STATUS n) = 3 ∧
        (code ∈ [3, 4, 7] → failed t [249]) ∧ (code = maOC_TEST → failed t [249, 250, 111]) ∧
        (code = maLOOP_TEST → failed t [249, 250, 143]) ∧ (code ∈ [10, 11] → failed t [249, 250, 31]))) ∧
      (code = maCORE_TEST → inst ≤ 17 → Completes (.maintActivityDone dt slot ok value) s (fun t =>
        t.dev.get (Reg.CORES.STATE inst) = (if ok then kcSPARE else kcRETIRED) ∧
        t.dev.get (Reg.MSLOT.STATUS n) = (if ok then 2 else 3)))) ∧
    (s.dev.live = true → quiet →
      (s.dev.maint.want = [] → Completes (.maintAutoStart dt) s (fun t => Framed [] dt s t ∧ t.dev.inner = s.dev.inner)) ∧
      (s.dev.maint.want = [w] → bit = false → Completes (.maintAutoStart dt) s (fun t => drops t ∧
        t.dev.damper.raised = s.dev.damper.raised)) ∧
      (s.dev.maint.want = [w] → bit = true → s.dev.maSpent w.code = true → Completes (.maintAutoStart dt) s (fun t => drops t ∧
        Raises 248 0xFF 0 s t)) ∧
      (s.dev.maint.want = [w] → bit = true → s.dev.maSpent w.code = false → d.now ≤ w.at_ → Completes (.maintAutoStart dt) s (fun t =>
        Framed [] dt s t ∧ t.dev.inner = s.dev.inner)) ∧
      (s.dev.maint.want = [w] → bit = true → s.dev.maSpent w.code = false → w.at_ < d.now →
        (s.dev.maFree = none → Completes (.maintAutoStart dt) s (fun t => again t ∧ Framed [] dt s t)) ∧
        (s.dev.maFree = some free → ¬(known w.code w.inst ∧ inState w.code) → Completes (.maintAutoStart dt) s (fun t =>
          again t ∧ t.dev.get Reg.MAINT.LAST_REFUSAL = 3 ∧ Framed [Reg.MAINT.LAST_REFUSAL] dt s t)) ∧
        (s.dev.maFree = some free → admits w.code w.inst → Completes (.maintAutoStart dt) s (fun t =>
          t.dev.get (Reg.MSLOT.CODE free) = w.code ∧ t.dev.get (Reg.MSLOT.INSTANCE free) = w.inst ∧
          t.dev.get (Reg.MSLOT.STATUS free) = 1 ∧ t.dev.bit (Reg.MSLOT.FLAGS free) 1 = true ∧ t.dev.maint.want = [] ∧
          t.pending = s.pending)))) ∧
    (s.dev.live = true →
      (s.dev.get Reg.MAINT.PROOF_INTERVAL < d.proofAge → s.dev.bit Reg.MAINT.LEAVES 4 = false →
        Completes (.proofDue dt) s (fun t => t.dev.bit Reg.MAINT.LEAVES 4 = true ∧ Raises 252 0xFF 0 s t ∧
          Framed (Reg.MAINT.LEAVES :: summaryKeys) dt s t ∧ t.dev.heart = s.dev.heart)) ∧
      (d.proofAge ≤ s.dev.get Reg.MAINT.PROOF_INTERVAL →
        Completes (.proofDue dt) s (fun t => Framed [] dt s t ∧ t.dev.inner = s.dev.inner)))

/-- HEARTBEAT_SEND, HEARTBEAT_RECEIVE, STATUS_FRAME_RECEIVE, HB_IN_EDGE and TWIN_PATH_LOST (spec R396–R399, R401, R403, R416,
R417): the link runs with twin operation enabled from CONFIGURED on; each interval, 1,000 ns or more after the one before, opens
with a HEARTBEAT, followed by the next EMBER or a due STATUS frame; a good frame renews its path, shows the partner in 0x2C01
and takes the two-way offset of the clocks; a frame that fails its CRC counts alone; a path silent for T_HB is lost, and with
the other one bad a BANKED device takes over. From when the partner is judged is log 55; that STATUS is due each 100 µs is log
59. -/
def Obligations.HeartbeatsAndPaths : Prop :=
  ∀ (s : State) (dt : Nat) (h h0 : Heartbeat) (st : TwinStatus) (crcOk fibre : Bool) (slot : Fin 2) (off : Fin 512) (e : BitVec 64)
    (bytes : List Byte) (em : Config.Ember) (t0 tt0 : Nat),
    let d := s.met dt
    let x := s.dev.twin
    let active := s.dev.active = true
    let idle := fun i : Instr => Completes i s (fun t => Framed [] dt s t ∧ t.dev.inner = s.dev.inner)
    let twin := fun t : State => t.dev.heart = { s.dev.heart with twin := t.dev.twin }
    let pathKeys := [Reg.TWIN.PATHS, Reg.TWIN.LEAVES, Reg.PARTNER.UNFIT_REASON] ++ summaryKeys
    let send := Instr.heartbeatSend dt
    let receive := Instr.heartbeatReceive dt h true
    let hears := [Reg.PARTNER.STATE, Reg.PARTNER.FIT, Reg.PARTNER.GENERATION, Reg.PARTNER.TWIN_ID]
    let due := max x.judgeFrom (if fibre then (x.hb.map (fun p => p.2.1)).getD 0 else x.hbAt.getD 0) + s.dev.get Reg.TWIN.T_HB * 10000
    let short := match x.hbAt with
      | some a => decide (d.now < a + 1500)
      | none => false
    (s.dev.hbRuns = false → bytes.length = 384 → idle send ∧ idle (.heartbeatReceive dt h crcOk) ∧ idle (.statusFrameReceive dt st crcOk) ∧
      idle (.hbInEdge dt) ∧ idle (.emberFrameReceive dt slot off e bytes crcOk)) ∧
    (s.dev.hbRuns = true → bytes.length = 384 → ∀ i ∈ [Instr.heartbeatReceive dt h false, .statusFrameReceive dt st false,
        .emberFrameReceive dt slot off e bytes false],
      Completes i s (fun t => t.dev.get Reg.TWIN.LINK_ERRORS = (s.dev.get Reg.TWIN.LINK_ERRORS + 1) % 2 ^ 32 ∧
        Framed [Reg.TWIN.LINK_ERRORS] dt s t ∧ t.dev.inner = s.dev.inner)) ∧
    (d.hbDue = false → idle send) ∧
    (s.dev.hbRuns = true →
      (d.hbDue = true → x.stream = none → s.dev.ds ≠ dsBANKED → Completes send s (fun t => (∃ o : Heartbeat, t.dev.out = [.heartbeat o] ∧
        o.devState.toNat = s.dev.ds % 256 ∧ o.launch.toNat = d.tt ∧ o.generation.toNat = s.dev.get Reg.KINDLE.GENERATION % 2 ^ 32 ∧
        (x.frozen = none → ∀ a, a < 6 → o.armBits.getLsbD a =
          (s.dev.armState a != asBLOCKED && s.dev.ds != dsSAFE && !x.stalled)) ∧
        (o.lease.val = 1 ↔ s.dev.get Reg.TWIN.LEASE = 1) ∧ (o.failed = none ↔ x.failed = none) ∧
        (x.hb = some (h0, t0, tt0) → o.echoLaunch = h0.launch ∧ o.echoArrival.toNat = tt0 % 2 ^ 64)) ∧
        Framed [] dt s t ∧ t.dev.inner = { s.dev.inner with twin := { x with sentAt := some d.now } })) ∧
      (d.hbDue = true → x.stream = some em → active → x.streamOff < 512 → Completes send s (fun t =>
        (∃ o, t.dev.out = [.heartbeat o, .twinEmber x.slot x.streamOff em.e (emberPart em x.streamOff)]) ∧
        Framed [] dt s t ∧ t.dev.inner = { s.dev.inner with twin := { x with sentAt := some d.now, streamOff := x.streamOff + 1 } })) ∧
      (d.hbDue = true → x.stream = none → s.dev.ds = dsBANKED → x.statusAt + 1000000 ≤ d.now → Completes send s (fun t =>
        (∃ o f, t.dev.out = [.heartbeat o, .twinStatus f] ∧ o.fit = d.fit ∧ f.devState.toNat = dsBANKED ∧
          f.serial.toNat = s.dev.get Reg.IDENT.SERIAL % 2 ^ 32) ∧
        Framed [] dt s t ∧ t.dev.inner = { s.dev.inner with twin := { x with sentAt := some d.now, statusAt := d.now } })) ∧
      Completes receive s (fun t => t.dev.twin.hb = some (h, d.now, d.tt) ∧ t.dev.twin.linkLost = false ∧
        t.dev.get Reg.PARTNER.STATE = h.devState.toNat ∧ t.dev.get Reg.PARTNER.FIT = b2n h.fit ∧
        t.dev.get Reg.PARTNER.GENERATION = h.generation.toNat ∧ t.dev.get Reg.PARTNER.TWIN_ID = h.twinId.val ∧
        (h.echoLaunch ≠ 0 ∨ h.echoArrival ≠ 0 → s.dev.ds ≠ dsBANKED →
          let out := diffW 64 h.echoArrival.toNat h.echoLaunch.toNat
          let back := diffW 64 d.tt h.launch.toNat
          t.dev.getI Reg.TWIN.DELTA_TT 64 = (out - back) / 2 ∧ t.dev.getI Reg.TWIN.LINK_DELAY 32 = toSigned 32 (ofSigned 32 ((out + back) / 2))) ∧
        (h.lease.val = 1 → s.dev.get Reg.TWIN.LEASE = 1 → s.dev.ds ≠ dsBANKED → t.dev.bit Reg.TWIN.LEAVES 9 = true ∧
          t.dev.get Reg.TWIN.LEASE = (if s.dev.twinId = 1 then 2 else 1)) ∧
        (h.lease.val = 2 → s.dev.get Reg.TWIN.LEASE ≠ 1 → active → t.dev.get Reg.TWIN.LEASE = 1 ∧ t.dev.twin.annLeft = 3) ∧
        (s.dev.ds ≠ dsBANKED → KeepsBut (hears ++ pathKeys ++ [Reg.TWIN.DELTA_TT, Reg.TWIN.LINK_DELAY, Reg.TWIN.LEASE]) s.dev t.dev ∧
          (∀ a, t.mem.read a = s.mem.read a) ∧ twin t) ∧ t.pending = s.pending) ∧
      Completes (.statusFrameReceive dt st true) s (fun t => t.dev.get Reg.PARTNER.STATE = st.devState.toNat ∧
        t.dev.get Reg.PARTNER.SERIAL = st.serial.toNat ∧ t.dev.get Reg.PARTNER.EMBER_AGE = st.emberAge.toNat ∧
        t.dev.get Reg.PARTNER.PROOF_AGE = st.proofAge.toNat ∧ t.dev.get Reg.PARTNER.WEAR_NOW = st.wearNow.toNat ∧
        Framed (hears ++ [Reg.PARTNER.SERIAL, Reg.PARTNER.EMBER_AGE, Reg.PARTNER.PROOF_AGE, Reg.PARTNER.WEAR_NOW] ++ pathKeys) dt s t ∧
        t.dev.heart = { s.dev.heart with twin := { x with stReason := st.reason.toNat } }) ∧
      (s.dev.ds ≠ dsBANKED → Completes (.hbInEdge dt) s (fun t =>
        t.dev.twin = { x with hbAt := some d.now, hbLost := false, hbShort := if short then min (x.hbShort + 1) 4 else 0
                              hbFailed := short && decide (3 ≤ x.hbShort) } ∧ Framed pathKeys dt s t ∧ twin t))) ∧
    (s.dev.judges = false ∨ d.now < due → idle (.twinPathLost dt fibre)) ∧
    (s.dev.judges = true → due ≤ d.now →
      (active → Completes (.twinPathLost dt fibre) s (fun t =>
        t.dev.twin = (if fibre then { x with linkLost := true } else { x with hbLost := true }) ∧
        t.dev.bit Reg.TWIN.PATHS (if fibre then 0 else 1) = false ∧ t.dev.bit Reg.TWIN.LEAVES (if fibre then 1 else 2) = true ∧
        (s.dev.bit Reg.TWIN.LEAVES (if fibre then 1 else 2) = false → { src := if fibre then 208 else 209, at_ := d.now, arm := 0xFF
                                                                        aux := 0 } ∈ t.dev.damper.raised) ∧
        Framed pathKeys dt s t ∧ twin t)) ∧
      (s.dev.ds = dsBANKED → (if fibre then s.dev.hbBad else s.dev.linkBad) = true →
        Completes (.twinPathLost dt fibre) s (fun t => t.dev.ds = dsTAKEOVER ∧ t.dev.get Reg.TKO.DETECT_TT = d.tt ∧
          t.dev.twin.released = !x.actIn ∧ t.dev.get Reg.TKO.RESULT = 0 ∧ t.pending = s.pending)))

/-- LEASE_EXPIRY, IDENTITY_ANNOUNCE, ACT_IN_TOGGLE and ACT_IN_QUIET (spec R392, R393, R400–R402, R406): an ACTIVE device takes
the lease once the partner released it or no HOLD was heard for LEASE_TIME and LEASE_MARGIN, and waits until then (counted from
where the twin link began to run where no HOLD was heard, log 99); with the take the primary identity is announced three times;
a toggling ACT_IN closes the interlock, and its end opens it, which in TAKEOVER makes the device ACTIVE. -/
def Obligations.LeaseIdentityAndInterlock : Prop :=
  ∀ (s : State) (dt : Nat),
    let d := s.met dt
    let x := s.dev.twin
    let may := s.dev.twinEn = true ∧ s.dev.active = true ∧ s.dev.get Reg.TWIN.LEASE ≠ 1
    let free := s.dev.partnerReleased = true ∨ d.leaseFreeAt ≤ d.now
    let idle := fun i : Instr => Completes i s (fun t => Framed [] dt s t ∧ t.dev.inner = s.dev.inner)
    let announces := 0 < x.annLeft ∧ s.dev.get Reg.TWIN.LEASE = 1 ∧ x.annAt + (3 - x.annLeft) * 500000000 ≤ d.now
    let quietPorts := fun t : State => ∀ p, p < 24 → (t.dev.port p).live = false ∧ (t.dev.port p).freeSince = none
    (¬may → idle (.leaseExpiry dt)) ∧
    (may → free → Completes (.leaseExpiry dt) s (fun t => t.dev.get Reg.TWIN.LEASE = 1 ∧ Framed [Reg.TWIN.LEASE] dt s t ∧
      t.dev.inner = { s.dev.inner with twin := { x with annLeft := 3, annAt := d.now } })) ∧
    (may → ¬free → Completes (.leaseExpiry dt) s (fun t => t.dev.get Reg.TWIN.LEASE = 2 ∧ Framed [Reg.TWIN.LEASE] dt s t ∧
      t.dev.inner = s.dev.inner)) ∧
    (¬announces → idle (.identityAnnounce dt)) ∧
    (announces → Completes (.identityAnnounce dt) s (fun t =>
      (s.dev.get Reg.CONVIP.V4_EN ≠ 0 → ∀ n ∈ (if s.dev.prp then [0] else [0, 1]), ∀ o ∈ s.dev.copies (s.dev.txPorts n)
        (.arp (s.dev.get Reg.CONVIP.V4_ADDR) true), o ∈ t.dev.out) ∧
      (s.dev.get Reg.CONVIP.V6_EN ≠ 0 → ∀ n ∈ (if s.dev.prp then [0] else [0, 1]), ∀ p ∈ s.dev.txPorts n, ∃ tag,
        .frame p (s.dev.mac p) tag (.neighbour (s.dev.get Reg.CONVIP.V6_ADDR_HI * 2 ^ 64 + s.dev.get Reg.CONVIP.V6_ADDR_LO) true) ∈
          t.dev.out) ∧
      (∀ n, n < 2 → s.dev.get (Reg.NETP.TX_FRAMES n) < 2 ^ 64 → t.dev.get (Reg.NETP.TX_FRAMES n) = (s.dev.get (Reg.NETP.TX_FRAMES n) +
        (if s.dev.netLive n then b2n (s.dev.on Reg.CONVIP.V4_EN) + b2n (s.dev.on Reg.CONVIP.V6_EN) else 0)) % 2 ^ 64) ∧
      Framed [Reg.NETP.TX_FRAMES 0, Reg.NETP.TX_FRAMES 1] dt s t ∧
      (s.dev.prp = false → t.dev.net = s.dev.net) ∧
      t.dev.inner = { s.dev.inner with
        twin := { x with annLeft := x.annLeft - 1 }, net := { s.dev.net with txSeq := t.dev.net.txSeq } })) ∧
    (¬(s.dev.twinEn = true ∧ s.dev.twinId = 1 ∧ s.dev.sameTwinId = false ∧ s.dev.ds ∈ [dsLINKS_UP, dsADMITTED, dsREADY]) → s.dev.live = true →
      Completes (.actInToggle dt) s (fun t =>
        t.dev.bit Reg.TWIN.PATHS 2 = true ∧ t.dev.interlock = true ∧ quietPorts t ∧
        t.dev.bit Reg.TWIN.LEAVES 10 = s.dev.active ∧
        (s.dev.active = true → s.dev.bit Reg.TWIN.LEAVES 10 = false → Raises 216 0xFF 0 s t) ∧
        Framed ([Reg.TWIN.PATHS, Reg.TWIN.LEAVES] ++ summaryKeys) dt s t ∧
        t.dev.heart = { s.dev.heart with twin := { x with actIn := true, actSeen := true }, link := t.dev.link })) ∧
    (s.dev.twinEn = true → x.yielded = false → s.dev.twinId = 1 → s.dev.sameTwinId = false → s.dev.ds ∈ [dsLINKS_UP, dsADMITTED, dsREADY] →
      Completes (.actInToggle dt) s (fun t => t.dev.ds = dsBANKED ∧ t.dev.active = false ∧ t.dev.cells = [] ∧ t.dev.shadow = [] ∧
        t.dev.get Reg.TWIN.ROLE = 2 ∧ t.pending = s.pending)) ∧
    (s.dev.twinEn = true → s.dev.ds = dsTAKEOVER → x.released = false → x.yielded = false → x.stalled = false →
      Completes (.actInQuiet dt) s (fun t => t.dev.twin.actIn = false ∧ t.dev.twin.released = true ∧ t.dev.active = true ∧
        t.dev.interlock = false ∧ t.dev.get Reg.TWIN.ROLE = 5 ∧ t.pending = s.pending)) ∧
    (s.dev.ds ≠ dsTAKEOVER → Completes (.actInQuiet dt) s (fun t => t.dev.bit Reg.TWIN.PATHS 2 = false ∧
      t.dev.bit Reg.TWIN.LEAVES 10 = false ∧ t.dev.interlock = (x.yielded || x.stalled) ∧
      Framed [Reg.TWIN.PATHS, Reg.TWIN.LEAVES] dt s t ∧
      t.dev.inner = { s.dev.inner with twin := { x with actIn := false }, link := t.dev.link }))

/-- EMBER_FRAME_RECEIVE, EMBER_STREAM_DONE and SLOW_COPY (spec R403, R405, R414): a part of an ember goes to its place in the
slot and a new ember starts the slot over, the newest complete one then being the other's; a slot with all its parts completes
where its CRC checks; the ember sent shows in 0x2C02, and the one of a swap hands over to BANKED; in BANKED the newest slot is
copied to MRAM every SLOW_PERIOD. From where the first SLOW_PERIOD counts, and a slot whose parts or CRC do not agree, are as
log 57 says. -/
def Obligations.EmbersAndSlowCopy : Prop :=
  ∀ (s : State) (dt : Nat) (slot : Fin 2) (off : Fin 512) (e : BitVec 64) (bytes : List Byte) (em : Config.Ember) (n : Nat),
    let d := s.met dt
    let x := s.dev.twin
    let old := x.slots.get slot.val {}
    let fresh := decide (old.e ≠ e.toNat) || old.complete
    let got := setBit (if fresh then 0 else old.got) off.val
    let place := Mem.ember slot.val + 384 * off.val
    let receive := Instr.emberFrameReceive dt slot off e bytes true
    let idle := fun i : Instr => Completes i s (fun t => Framed [] dt s t ∧ t.dev.inner = s.dev.inner)
    let copies := s.dev.ds = dsBANKED ∧ x.slowAt.getD x.judgeFrom + s.dev.get Reg.TWIN.SLOW_PERIOD * 10000000000 ≤ d.now
    (s.Inv → s.dev.hbRuns = true → bytes.length = 384 → s.dev.ds ≠ dsBANKED →
      Completes receive s (fun t => t.mem.bytes place 384 = bytes ∧
        (∀ a, ¬(place ≤ a ∧ a < place + 384) → t.mem.read a = s.mem.read a) ∧ (t.dev.twin.slots.get slot.val {}).got = got ∧
        (t.dev.twin.slots.get slot.val {}).complete = (decide (got = 2 ^ 512 - 1) && (d.emberAt t.mem (Mem.ember slot.val)).isSome) ∧
        ((t.dev.twin.slots.get slot.val {}).complete = true → t.dev.twin.newest = some slot.val ∧
          t.dev.get Reg.EMBER.SLOT = slot.val) ∧
        (got ≠ 2 ^ 512 - 1 → t.dev.twin.newest = (if x.newest = some slot.val then
              (if (x.slots.get (1 - slot.val) {}).complete then some (1 - slot.val) else none) else x.newest) ∧
          t.dev.inner = { s.dev.inner with twin := t.dev.twin } ∧
          KeepsBut (if x.newest = some slot.val then [Reg.EMBER.SLOT] else []) s.dev t.dev) ∧ t.pending = s.pending)) ∧
    (x.stream = none → idle (.emberStreamDone dt)) ∧
    (x.stream = some em → x.streamOff < 512 → idle (.emberStreamDone dt)) ∧
    (x.stream = some em → 512 ≤ x.streamOff →
      (¬(em.swap = true ∧ x.swap = 2) → Completes (.emberStreamDone dt) s (fun t =>
        t.dev.get Reg.EMBER.SENT = (s.dev.get Reg.EMBER.SENT + 1) % 2 ^ 32 ∧ t.dev.get Reg.EMBER.LAST_FRAME = em.e % 2 ^ 32 ∧
        t.dev.get Reg.EMBER.LAST_TT = em.be ∧ t.dev.get Reg.EMBER.SLOT = x.slot ∧
        Framed [Reg.EMBER.SENT, Reg.EMBER.LAST_FRAME, Reg.EMBER.LAST_TT, Reg.EMBER.SLOT] dt s t ∧
        t.dev.inner = { s.dev.inner with twin := { x with stream := none, streamOff := 0, slot := 1 - x.slot } })) ∧
      (em.swap = true → x.swap = 2 → s.dev.ds = dsRUNNING → Completes (.emberStreamDone dt) s (fun t =>
        t.dev.ds = dsBANKED ∧ t.dev.twin.failed = some 1 ∧ t.dev.twin.swap = 0 ∧ t.dev.active = false ∧ t.pending = s.pending))) ∧
    (x.newest = none ∨ ¬copies → idle (.slowCopy dt)) ∧
    (x.newest = some n → n < 2 → copies → s.Inv → Completes (.slowCopy dt) s (fun t =>
      (∀ i, i < 196608 → t.mem.read (Mem.slow + i) = s.mem.read (Mem.ember n + i)) ∧
      (∀ a, ¬(Mem.slow ≤ a ∧ a < Mem.slow + 196608) → t.mem.read a = s.mem.read a) ∧
      t.dev.get Reg.EMBER.SLOW_TT = d.tt ∧ t.dev.get Reg.EMBER.SLOW_WRITES = (s.dev.get Reg.EMBER.SLOW_WRITES + 1) % 2 ^ 32 ∧
      KeepsBut [Reg.EMBER.SLOW_TT, Reg.EMBER.SLOW_WRITES] s.dev t.dev ∧
      t.dev.inner = { s.dev.inner with twin := { x with slowAt := some d.now } } ∧ t.pending = s.pending))

/-- CORE_WAKE_DONE, EMBER_LOAD_DONE and TAKEOVER_RESUME (spec R406–R411): once released, a takeover wakes the core, whose
station inputs start from their present levels, or goes to SAFE where its check fails; it loads the newest complete ember that
checks, or none; frames restart at the last TT multiple of 1,000 with the count that the ember gives, and its arms that were not
BLOCKED go to OPEN with CAUSE TAKEOVER. Station inputs and RTT after the wake are as logs 88 and 87 say; a takeover without an
ember goes on with its own count (log 57), and the boundary from which frames restart is the last multiple of 1,000 (log 117).
-/
def Obligations.TakeoverWakesLoadsAndResumes : Prop :=
  ∀ (s : State) (dt : Nat) (ok : Bool) (em : Config.Ember),
    let d := s.met dt
    let k := s.dev.twin.take
    let idle := fun i : Instr => Completes i s (fun t => Framed [] dt s t ∧ t.dev.inner = s.dev.inner)
    let wakes := s.dev.ds = dsTAKEOVER ∧ s.dev.twin.released = true ∧ k.awake = false
    let loads := s.dev.ds = dsTAKEOVER ∧ k.awake = true ∧ k.loaded = false
    let resumes := s.dev.ds = dsTAKEOVER ∧ k.loaded = true ∧ s.dev.frame.run = false
    let bm := d.tt - d.tt % 1000
    let grid := fun (t : State) (n : Nat) => t.dev.frame = { s.dev.frame with
      run := true, started := true, n := n, bnOld := bm, bn := bm, next := bm + s.dev.get Reg.LINK.TF * 1000 }
    (¬wakes → idle (.coreWakeDone dt ok)) ∧
    (wakes → Completes (.coreWakeDone dt true) s (fun t => t.dev.twin.take = { k with awake := true } ∧ t.dev.ds = dsTAKEOVER ∧
      (∀ n, n < 8 → t.dev.bit Reg.STN.IN_LEVEL n = s.dev.stnNow n) ∧
      Framed ([Reg.STN.IN_LEVEL, Reg.STN.LEAVES] ++ summaryKeys) dt s t ∧
      t.dev.heart = { s.dev.heart with twin := { s.dev.twin with take := { k with awake := true } } })) ∧
    (wakes → Completes (.coreWakeDone dt false) s (fun t => t.dev.ds = dsSAFE ∧ t.dev.tripReq = true ∧ t.pending = s.pending)) ∧
    (¬loads → idle (.emberLoadDone dt)) ∧
    (loads → Completes (.emberLoadDone dt) s (fun t => t.dev.twin.take.loaded = true ∧ t.dev.ds = dsTAKEOVER ∧
      (∀ n, n < 16 → t.dev.bit (Reg.TC.STATUS n) tcARMED = false) ∧ t.dev.get Reg.COMMIT.TIME_ARMED = 0 ∧
      (match d.chooseEmber s.mem with
        | none => t.dev.twin.take.ember = none
        | some (src, e) => t.dev.twin.take.ember = some e ∧ t.dev.get Reg.TKO.SOURCE = src ∧
            t.dev.get Reg.EMBER.LAST_FRAME = e.e % 2 ^ 32 ∧
            (src = 2 → t.dev.bit Reg.TWIN.LEAVES 3 = true)) ∧ t.pending = s.pending)) ∧
    (¬resumes → idle (.takeoverResume dt)) ∧
    (resumes → k.ember = none → Completes (.takeoverResume dt) s (fun t => grid t (s.dev.frame.n + 1) ∧
      t.dev.get Reg.TKO.RESULT = 2 ∧ t.dev.get Reg.TKO.RESUME_TT = bm ∧ t.dev.bit Reg.TWIN.LEAVES 4 = true ∧
      t.dev.twin.take.resumed = 0 ∧ t.pending = s.pending)) ∧
    (resumes → k.ember = some em → Completes (.takeoverResume dt) s (fun t =>
      let bits := match k.bits with
        | some b => b
        | none => (List.range 6).foldl (fun v a => putBit v a ((em.arms.getD a (0, 0)).1 != asBLOCKED)) 0
      grid t ((em.e : Int) + diffW 64 (ofSigned 64 ((bm : Int) + s.dev.deltaTt)) em.be / (s.dev.get Reg.LINK.TF * 1000 : Int) + 1).toNat ∧
      t.dev.get Reg.TKO.RESUME_TT = bm ∧ t.dev.get Reg.TKO.DURATION = (bm - k.declTt) / 10 + 40 ∧
      (∀ a, a < 6 → t.dev.twin.take.resumed.testBit a = (bits.testBit a && s.dev.armMapped a)) ∧
      (∀ a, a < 6 → bits.testBit a = true → s.dev.armMapped a = true →
        t.dev.armState a = asOPEN ∧ t.dev.armCause a = caTAKEOVER) ∧
      t.dev.get Reg.TKO.RESULT = (if t.dev.twin.take.resumed = 0 then 3 else 1) ∧ t.pending = s.pending))

/-- ACQ_ARM, ACQ_ABORT, ACQ_PRETIME_ELAPSED, ACQ_RECORD_DONE and SEGMENT_RELEASE (spec R419, R423, R425–R429): an ARM is refused
by device state, a running record, rate, need, want of a stream and want of a segment, in that order; an admitted one fills the
lowest EMPTY segment; PRE_TIME later the record is ARMED; at end TT it is DONE in its segment; an abort before end TT leaves an
ABORTED record, after it sets ABORT_LATE; a RELEASE empties a segment. A record is DONE once every stream has written its
entries. Which segment OVERWRITE frees, the rounding of the need, and the order of the refusals are as log 42 says. -/
def Obligations.AcquisitionRecords : Prop :=
  ∀ (s : State) (dt : Nat) (seg : Fin 16) (tt0 si w : Nat),
    let d := s.met dt
    let x := s.dev.acq
    let g := s.dev.get Reg.ACQ.SEGMENT
    let st := s.dev.acqState
    let arm := Instr.acqArm dt 1
    let abort := Instr.acqAbort dt 1
    let refused := fun (i : Instr) (v : Nat) => Completes i s (fun t =>
      t.dev.status = v ∧ Framed [] dt s t ∧ t.dev.inner = s.dev.inner)
    let denied := fun (v why : Nat) => Completes arm s (fun t => t.dev.status = v ∧ t.dev.get Reg.ACQ.ARM_RESULT = why ∧
      Framed [Reg.ACQ.ARM_RESULT] dt s t ∧ t.dev.inner = s.dev.inner)
    let fast := (4000000000 : Rat) < s.dev.acqRate
    let big := Mem.acqSize < s.dev.acqNeed * s.dev.get Reg.ACQ.SEGMENTS
    let bare := ∀ n, n < 16 → s.dev.get (Reg.STRM.KIND n) = 0
    let may := s.dev.ds ∈ [dsCONFIGURED, dsLINKS_UP, dsADMITTED, dsREADY, dsRUNNING] ∧ s.dev.acqBusy = false
    let acq := fun t : State => t.dev.heart = { s.dev.heart with acq := { t.dev.acq with ecTick := 0, ecSeen := [] } }
    let base := Mem.acq + g * x.segBytes
    let written := fun (t : State) (code : Nat) => 96 ≤ t.dev.get (Reg.SEG.LENGTH g) ∧
      t.mem.bytes base 8 = [0x54, 0x59, 0x41, 0x43, 1, 0] ++ leBytes 1 g ++ leBytes 1 code ∧
      (∀ a, ¬(base ≤ a ∧ a < base + max x.segBytes (t.dev.get (Reg.SEG.LENGTH g))) → t.mem.read a = s.mem.read a)
    let ended := x.trig = some (tt0, si, w) ∧ si * 1000 + x.postTime ≤ d.tt
    let running := x.trig = some (tt0, si, w) ∧ d.tt < si * 1000 + x.postTime
    (d.writable Reg.ACQ.ARM = true →
      (¬may → refused arm stSTATE) ∧
      (may → fast → denied stRANGE 1) ∧ (may → ¬fast → big → denied stRANGE 2) ∧ (may → ¬fast → ¬big → bare → denied stRANGE 3) ∧
      (may → ¬fast → ¬big → ¬bare → s.dev.segFree = none → denied stBUSY 4) ∧
      (∀ f, may → ¬fast → ¬big → ¬bare → s.dev.segFree = some f → f < 16 → Completes arm s (fun t =>
        t.dev.status = stOK ∧ t.dev.acqState = acFILLING ∧ t.dev.get Reg.ACQ.SEGMENT = f ∧ t.dev.get (Reg.SEG.STATE f) = 1 ∧
        t.dev.get Reg.ACQ.ARM_RESULT = 0 ∧ t.dev.get Reg.ACQ.RECORD_BYTES = s.dev.acqNeed ∧ t.dev.acq.armTt = d.tt ∧
        t.dev.acq.preTime = s.dev.get Reg.ACQ.PRE_TIME * 10000 ∧ t.dev.acq.postTime = s.dev.get Reg.ACQ.POST_TIME * 10000 ∧
        t.dev.acq.engineOpen = true ∧ t.dev.acq.trig = none ∧ t.dev.acq.blocks = [] ∧
        Framed ([Reg.ACQ.ARM_RESULT, Reg.ACQ.ADMITTED_RATE, Reg.ACQ.RECORD_BYTES, Reg.ACQ.SEGMENT, Reg.ACQ.STATE, Reg.SEG.STATE f,
          Reg.SEG.LENGTH f, Reg.SEG.TRIG_TT f] ++ (List.range 16).map Reg.STRM.RATE ++ countKeys) dt s t ∧ acq t))) ∧
    (st = acFILLING → x.armTt + x.preTime ≤ d.tt → Completes (.acqPretimeElapsed dt) s (fun t => t.dev.acqState = acARMED ∧
      Framed (Reg.ACQ.STATE :: countKeys) dt s t ∧ acq t)) ∧
    (¬(st = acFILLING ∧ x.armTt + x.preTime ≤ d.tt) →
      Completes (.acqPretimeElapsed dt) s (fun t => Framed [] dt s t ∧ t.dev.inner = s.dev.inner)) ∧
    (s.Inv → g < 16 → st = acPOST → ended → (∀ e ∈ x.streams, d.strmComplete e.2 s.dev.acqEnd = true) →
      s.dev.get Reg.ACQ.AUTO_REARM = 0 → Completes (.acqRecordDone dt) s (fun t =>
      t.dev.acqState = acDONE ∧ t.dev.get (Reg.SEG.STATE g) = 2 ∧ t.dev.bit Reg.ACQ.LEAVES 0 = true ∧
      t.dev.get Reg.ACQ.RECORDS = (s.dev.get Reg.ACQ.RECORDS + 1) % 2 ^ 32 ∧ written t 1 ∧
      KeepsBut ([Reg.ACQ.STATE, Reg.ACQ.RECORDS, Reg.ACQ.LEAVES, Reg.SEG.STATE g, Reg.SEG.LENGTH g] ++ summaryKeys ++ countKeys)
        s.dev t.dev ∧ acq t ∧ t.pending = s.pending)) ∧
    (¬(st = acPOST ∧ s.dev.acqEnd ≤ d.tt ∧ ∀ e ∈ x.streams, d.strmComplete e.2 s.dev.acqEnd = true) →
      Completes (.acqRecordDone dt) s (fun t => Framed [] dt s t ∧ t.dev.inner = s.dev.inner)) ∧
    (d.writable Reg.ACQ.ABORT = true → g < 16 →
      (s.dev.acqBusy = false → refused abort stSTATE) ∧
      (st ∈ [acFILLING, acARMED] → Completes abort s (fun t => t.dev.status = stOK ∧ t.dev.acqState = acABORTED ∧
        t.dev.get (Reg.SEG.STATE g) = 0 ∧ Framed ([Reg.ACQ.STATE, Reg.SEG.STATE g] ++ countKeys) dt s t ∧ acq t)) ∧
      (s.Inv → st = acPOST → running → Completes abort s (fun t => t.dev.status = stOK ∧ t.dev.acqState = acABORTED ∧
        t.dev.get (Reg.SEG.STATE g) = 3 ∧ written t 2 ∧
        KeepsBut ([Reg.ACQ.STATE, Reg.SEG.STATE g, Reg.SEG.LENGTH g] ++ countKeys) s.dev t.dev ∧ acq t ∧ t.pending = s.pending)) ∧
      (st = acPOST → ended → Completes abort s (fun t => t.dev.status = stOK ∧ t.dev.acqState = acPOST ∧
        t.dev.bit Reg.ACQ.LEAVES 1 = true ∧ t.dev.acq.abortLate = true ∧ Framed (Reg.ACQ.LEAVES :: summaryKeys) dt s t ∧ acq t))) ∧
    (d.writable (Reg.SEG.RELEASE seg.val) = true → seg.val < s.dev.get Reg.ACQ.SEGMENTS →
      (s.dev.get (Reg.SEG.STATE seg.val) = 1 → refused (.segmentRelease dt seg 1) stSTATE) ∧
      (s.dev.get (Reg.SEG.STATE seg.val) = 0 → refused (.segmentRelease dt seg 1) stOK) ∧
      (2 ≤ s.dev.get (Reg.SEG.STATE seg.val) → Completes (.segmentRelease dt seg 1) s (fun t => t.dev.status = stOK ∧
        t.dev.get (Reg.SEG.STATE seg.val) = 0 ∧ t.dev.get (Reg.SEG.LENGTH seg.val) = 0 ∧ t.dev.get (Reg.SEG.TRIG_TT seg.val) = 0 ∧
        Framed [Reg.SEG.STATE seg.val, Reg.SEG.LENGTH seg.val, Reg.SEG.TRIG_TT seg.val] dt s t ∧
        t.dev.inner = { s.dev.inner with acq := { x with segOrder := x.segOrder.filter (fun o => o != seg.val) } })))

/-- TRIG_IN_EDGE, XTRIG_EDGE, XTRIG_STUCK, XTRIG_RELEASED, XTRIG_DRIVE_END, TRIGGER_FORCE, TRIGGER_RESOLVE, ASH_ARM, ASH_STOP,
ASH_POST_DONE and EC_SNAP (spec R431–R433, R436, R437, R439, R442): an enabled condition counts while the engine is open and,
for XTRIG, not while the device drives the line or finds it stuck; the conditions of the earliest SI make the trigger once that
SI has passed, which ends the record POST_TIME later, is stored and drives TRIG_OUT and XTRIG; ash starts at the next SI and
stops by command or POST rows after a trigger, the rows of every SI that has ended being written first; a snapshot copies every
counter at one tick. An ash row takes its values where log 100 says, and the moment at which conditions resolve into a trigger
is log 67. -/
def Obligations.TriggersAshAndSnapshots : Prop :=
  ∀ (s : State) (dt : Nat) (pin : Fin 2) (rising : Bool) (si w t0 : Nat),
    let d := s.met dt
    let x := s.dev.acq
    let takes := fun b t => x.engineOpen = true ∧ s.dev.bit Reg.TRIG.ENABLE b = true ∧ x.openTt ≤ t
    let leaves := fun (i : Instr) (a : AcqX) => Completes i s (fun t => Framed [] dt s t ∧ t.dev.inner = { s.dev.inner with acq := a })
    let edge := Instr.trigInEdge dt pin rising
    let selected := s.dev.live = true ∧ rising ≠ s.dev.bit Reg.TRIG.TRIG_IN_EDGE pin.val
    let blocked := x.xBlocked && decide (d.now < x.xHighAt + 10000)
    let fell := { x with xLowAt := some d.now, xBlocked := blocked }
    let counts := s.dev.live = true ∧ d.xDriving = false ∧ blocked = false ∧ takes 2 d.tick
    let stuck := s.dev.live = true ∧ d.xDriving = false ∧ ∃ t, x.xLowAt = some t ∧ t + s.dev.get Reg.TRIG.XTRIG_STUCK * 10000 < d.now
    let sameBut := fun (t : State) (a : AcqX) => t.dev.heart = { s.dev.heart with acq := { a with ecTick := 0, ecSeen := [] } }
    let ashLeaves := [Reg.ASH.ASH_STATE, Reg.ASH.LAST_ROW_SI, Reg.ASH.TRIG_ROW, Reg.ACQ.LEAVES] ++ summaryKeys
    let halts := fun t : State => t.dev.get Reg.ASH.ASH_STATE = 2 ∧ t.dev.get Reg.ASH.LAST_ROW_SI = x.ashSi ∧
      t.dev.get Reg.ASH.TRIG_ROW = (match x.ashTrig with
        | some c => s.dev.ashRowOf c
        | none => 0xFFFF) ∧
      t.dev.bit Reg.ACQ.LEAVES 5 = true ∧ Framed ashLeaves dt s t ∧ sameBut t t.dev.acq
    let refused := fun (i : Instr) (v : Nat) => Completes i s (fun t =>
      t.dev.status = v ∧ Framed [] dt s t ∧ t.dev.inner = s.dev.inner)
    let rowsDone := s.dev.ashRunning = false ∨ d.siDone < x.ashNext
    (selected → takes pin.val d.tick → leaves edge { x with conds := x.conds ++ [(pin.val, d.tick)] }) ∧
    (¬(selected ∧ takes pin.val d.tick) → leaves edge x) ∧
    (counts → leaves (.xtrigEdge dt) { fell with conds := x.conds ++ [(2, d.tick)] }) ∧
    (¬counts → leaves (.xtrigEdge dt) fell) ∧
    (¬stuck → leaves (.xtrigStuck dt) x) ∧
    (stuck → s.dev.bit Reg.ACQ.LEAVES 3 = false → Completes (.xtrigStuck dt) s (fun t => t.dev.bit Reg.ACQ.LEAVES 3 = true ∧
      t.dev.acq.xBlocked = true ∧ Raises 254 0xFF 0 s t ∧ Framed (Reg.ACQ.LEAVES :: summaryKeys) dt s t ∧ sameBut t t.dev.acq)) ∧
    Completes (.xtrigReleased dt) s (fun t => t.dev.bit Reg.ACQ.LEAVES 3 = false ∧ Framed [Reg.ACQ.LEAVES] dt s t ∧
      t.dev.inner = { s.dev.inner with acq := { x with xLowAt := none, xHighAt := d.now } }) ∧
    (d.xDriving = true → leaves (.xtrigDriveEnd dt) x) ∧
    (d.xDriving = false → leaves (.xtrigDriveEnd dt) { x with xDrive := none }) ∧
    (d.writable Reg.TRIG.FORCE = true → (x.engineOpen = false → refused (.triggerForce dt 1) stSTATE) ∧
      (takes 9 d.tt → Completes (.triggerForce dt 1) s (fun t => t.dev.status = stOK ∧ Framed [] dt s t ∧
        t.dev.inner = { s.dev.inner with acq := { x with conds := x.conds ++ [(9, d.tt)] } }))) ∧
    (rowsDone → x.conds = [] ∨ x.engineOpen = false → leaves (.triggerResolve dt) x) ∧
    (rowsDone → x.engineOpen = true → x.conds ≠ [] → (∀ c ∈ x.conds, si ≤ siOf c.2) → (∃ c ∈ x.conds, siOf c.2 = si) →
      (d.tt < (si + 1) * 1000 → leaves (.triggerResolve dt) x) ∧
      ((si + 1) * 1000 ≤ d.tt → (∀ b, w.testBit b = true ↔ ∃ c ∈ x.conds, c.1 = b ∧ siOf c.2 = si) →
        (∀ c ∈ x.conds, siOf c.2 = si → t0 ≤ c.2) → (∃ c ∈ x.conds, siOf c.2 = si ∧ c.2 = t0) →
        Completes (.triggerResolve dt) s (fun t => t.dev.get Reg.TRIG.LAST_WORD = w ∧ t.dev.get Reg.TRIG.LAST_SI = si ∧
          t.dev.get Reg.TRIG.LAST_TT = t0 ∧ t.dev.acq.conds = [] ∧
          (s.dev.acqState ∈ [acFILLING, acARMED] → t.dev.acqState = acPOST ∧ t.dev.acq.trig = some (t0, si, w) ∧
            t.dev.acq.shortPre = decide (s.dev.acqState = acFILLING)) ∧
          (∀ p, p < 2 → s.dev.live = true → s.dev.bit Reg.TRIG.TRIG_OUT p = true → s.dev.time.trig.find p = none →
            t.dev.time.trig.find p = some (d.tt, d.tt + 10000)) ∧
          t.dev.acq.xDrive = (if s.dev.live && s.dev.on Reg.TRIG.XTRIG_DRIVE then some (d.tt + s.dev.get Reg.TRIG.XTRIG_WIDTH * 10000)
            else x.xDrive) ∧
          (s.dev.ashRunning = true → s.dev.on Reg.ASH.STOP_TRIG = true → x.ashTrig = none →
            t.dev.acq.ashTrig = some si ∧ t.dev.acq.ashPost = some (s.dev.get Reg.ASH.POST)) ∧
          (∀ a, t.mem.read a = s.mem.read a) ∧ t.pending = s.pending))) ∧
    (d.writable Reg.ASH.ASH_ARM = true → (s.dev.ashRunning = true → refused (.ashArm dt 1) stBUSY) ∧
      (s.Inv → s.dev.ashRunning = false → Completes (.ashArm dt 1) s (fun t => t.dev.status = stOK ∧ t.dev.ashRunning = true ∧
        t.dev.get Reg.ASH.TRIG_ROW = 0xFFFF ∧ t.dev.get Reg.ASH.WRAPPED = 0 ∧ t.dev.acq.ashNext = siOf d.tt + 1 ∧ t.dev.acq.ashRows = 0 ∧
        KeepsBut [Reg.ASH.ASH_STATE, Reg.ASH.WRAPPED, Reg.ASH.TRIG_ROW, Reg.ASH.LAST_ROW_SI] s.dev t.dev ∧ sameBut t t.dev.acq ∧
        (∀ a, t.mem.read a = if Mem.ash ≤ a ∧ a < Mem.ash + Mem.ashSize then Memory.empty else s.mem.read a)))) ∧
    (d.writable Reg.ASH.ASH_STOP = true → (s.dev.ashRunning = false → refused (.ashStop dt 1) stSTATE) ∧
      (s.dev.ashRunning = true → Completes (.ashStop dt 1) s (fun t => t.dev.status = stOK ∧ t.dev.get Reg.ASH.ASH_STATE = 2 ∧
        t.dev.bit Reg.ACQ.LEAVES 5 = true ∧ (rowsDone → halts t) ∧ t.pending = s.pending))) ∧
    (rowsDone → s.dev.ashRunning = true → x.ashPost = some 0 → Completes (.ashPostDone dt) s halts) ∧
    (rowsDone → ¬(s.dev.ashRunning = true ∧ x.ashPost = some 0) → leaves (.ashPostDone dt) x) ∧
    (d.writable Reg.EC.SNAP = true → Completes (.ecSnap dt 1) s (fun t => t.dev.status = stOK ∧
      (∀ n, n < 32 → t.dev.get (Reg.ECN.SNAP_VALUE n) = s.dev.get (Reg.ECN.COUNT n)) ∧ t.dev.get Reg.EC.SNAP_TT = d.tick ∧
      Framed (Reg.EC.SNAP_TT :: (List.range 32).map Reg.ECN.SNAP_VALUE) dt s t ∧
      t.dev.inner = { s.dev.inner with acq := { x with snapTick := some d.tick } }))

/-- An image is loaded (spec R87–R90): at the end of the image phase, by BOOT_SRC, the first source whose image passes its
checks, after a network boot that times out the images of MRAM, and in the wait for a delivery the image that VERIFY has
checked, whose path SOURCE names (log 101). Its records are applied and strobed, LOCKS is written, and kindling, that of a
RELOAD too, ends in CONFIGURED, where a device without twin operation goes on at once; TARGET is the other slot (spec R94). A
record that is refused leaves the image REFUSED with FAIL_OFFSET and F239, and where no other source is left kindling waits (log
14). -/
def Obligations.ImagesAreLoadedOrRefused : Prop :=
  ∀ (s : State) (dt src shown : Nat) (flash : List Byte) (i : Instr) (before after : List Nat), s.dev.ds = dsKINDLING →
    let bytes := fun x => if x = 3 then flashBytes flash else s.dev.slotBytes s.mem (x - 1)
    let d := s.met dt
    let look := fun (d : Dev) (x : Nat) =>
      if x = 3 then (d.send (.qspi 0x6B 0 8)).examine 3 (bytes 3) else (d.examine 1 (bytes 1)).examine 2 (bytes 2)
    let verified := Dev.targetSync (Dev.set { d with kindle := { d.kindle with verify := none } } (imageKey src)
      (imageCheck (d.get Reg.IDENT.REVISION) (bytes src))) s.mem
    let found := if i = .imageVerifyDone dt then verified else (before ++ [src]).foldl look d
    let len := imageLength (bytes src)
    let applied := Dev.applyRecords s.mem len found 32 (bytes src 32 (len - 32)) []
    let sources := before ++ src :: after
    ((i = .imagePhaseDone dt flash ∧ s.dev.get Reg.KINDLE.PHASE = 5 ∧ shown = src ∧
        sources = (if s.dev.bootSrc = 1 then 3 :: s.dev.mramOrder s.mem else s.dev.mramOrder s.mem ++ [3])) ∨
      (i = .networkBootTimeout dt ∧ s.dev.kindle.netBoot = true ∧ shown = src ∧ sources = s.dev.mramOrder s.mem ∧
        ∃ t0, s.dev.kindle.netLinkAt = some t0 ∧ t0 + 600000000000 ≤ s.dev.now + dt) ∨
      (i = .imageVerifyDone dt ∧ s.dev.kindle.verify = some src ∧ src ∈ [1, 2] ∧ s.dev.kindle.waiting = true ∧
        shown = (if s.dev.kindle.verifyNet then 4 else 5) ∧ before = [] ∧
        after = (if s.dev.kindle.netBoot then (s.dev.mramOrder s.mem).filter (· ≠ src) else []))) →
    (∀ x ∈ before, found.get (imageKey x) ≠ igVALID) → found.get (imageKey src) = igVALID →
    (applied.2.2 = none →
      Completes i s (fun t =>
        t.dev.get Reg.KINDLE.SOURCE = shown ∧ t.dev.get Reg.KINDLE.GENERATION = imageGeneration (bytes src) ∧
        t.dev.get (imageKey src) = igVALID ∧ t.dev.get Reg.KINDLE.PHASE = 7 ∧ t.dev.kindle.waiting = false ∧
        t.dev.get Reg.LOCK.LOCK % 32 = s.dev.get Reg.LOCK.LOCK % 32 ||| imageLocks (bytes src) % 32 ∧
        t.dev.frame.run = true ∧ (src ∈ [1, 2] → t.dev.get Reg.IMAGE.TARGET = 3 - src) ∧
        (s.dev.kindle.reload = true → t.dev.get Reg.KINDLE.KINDLE_US = s.dev.get Reg.KINDLE.KINDLE_US) ∧
        t.dev.kindle.reload = false ∧ t.dev.ds ≠ dsKINDLING ∧
        (t.dev.twinEn = true → t.dev.ds = dsCONFIGURED ∧ t.dev.get Reg.DEV.PREV_STATE = dsKINDLING) ∧ t.pending = s.pending)) ∧
    (∀ off, applied.2.2 = some off →
      (∀ x ∈ after, found.get (imageKey x) ≠ igVALID ∧
        (found.get (imageKey x) = igUNREAD → imageCheck (s.dev.get Reg.IDENT.REVISION) (bytes x) ≠ igVALID)) →
      Completes i s (fun t =>
        t.dev.get (imageKey src) = igREFUSED ∧ t.dev.get Reg.KINDLE.FAIL_OFFSET = off ∧ t.dev.ds = dsKINDLING ∧
        t.dev.get Reg.KINDLE.SOURCE = s.dev.get Reg.KINDLE.SOURCE ∧ t.dev.shadow = [] ∧
        (∃ r ∈ t.dev.damper.raised, r.src = 239 ∧ r.at_ = t.dev.now) ∧ t.pending = s.pending))
end

