-- ==== Sys2Proof/Laws/Memory.lean ====
section
/-!
SUPPORT. The byte areas: what a byte reads as after a store or a clear, and that every operation keeps the canonical form.
-/
namespace Sys2Proof.Machine

/-! Reads. -/

theorem Memory.read_lt {m : Memory} {lo a : Nat} (h : Memory.wfFrom lo m = true) (ha : a < lo) :
    m.read a = Memory.empty := by
  cases m with
  | nil => rfl
  | cons e m =>
    obtain ⟨k, b⟩ := e
    simp only [Memory.wfFrom, Bool.and_eq_true, decide_eq_true_eq] at h
    have hk := h.1.1
    simp only [Memory.read]
    rw [if_neg (by omega), if_pos (by omega)]

theorem Memory.wfFrom_mono {m : Memory} {lo lo' : Nat} (h : Memory.wfFrom lo m = true) (hl : lo' ≤ lo) :
    Memory.wfFrom lo' m = true := by
  cases m with
  | nil => rfl
  | cons e m =>
    simp only [Memory.wfFrom, Bool.and_eq_true, decide_eq_true_eq] at h ⊢
    exact ⟨⟨by omega, h.1.2⟩, h.2⟩

theorem Memory.wfFrom_cons {a : Nat} {b : Byte} {m : Memory} {lo : Nat} (hl : lo ≤ a)
    (h : Memory.wfFrom (a + 1) m = true) : Memory.wfFrom lo (Memory.cons a b m) = true := by
  simp only [Memory.cons]
  split
  · exact Memory.wfFrom_mono h (by omega)
  · rename_i hb; simp [Memory.wfFrom, hl, h, hb]

theorem Memory.read_cons {a : Nat} {b : Byte} {m : Memory} (h : Memory.wfFrom (a + 1) m = true) (x : Nat) :
    (Memory.cons a b m).read x = if x = a then b else m.read x := by
  simp only [Memory.cons]
  split
  · rename_i hb
    split
    · rename_i hx; rw [Memory.read_lt h (by omega), hb]
    · rfl
  · simp only [Memory.read]
    split
    · rfl
    · split
      · exact (Memory.read_lt h (by omega)).symm
      · rfl

/-! One store. -/

theorem Memory.wfFrom_put {m : Memory} {lo a : Nat} (b : Byte) (h : Memory.wfFrom lo m = true) (ha : lo ≤ a) :
    Memory.wfFrom lo (m.put a b) = true := by
  induction m generalizing lo with
  | nil => exact Memory.wfFrom_cons ha rfl
  | cons e m ih =>
    obtain ⟨k, c⟩ := e
    have h0 := h
    simp only [Memory.wfFrom, Bool.and_eq_true, decide_eq_true_eq] at h
    simp only [Memory.put]
    split
    · rename_i hak
      refine Memory.wfFrom_cons ha ?_
      simp only [Memory.wfFrom, Bool.and_eq_true, decide_eq_true_eq]
      exact ⟨⟨by omega, h.1.2⟩, h.2⟩
    · split
      · rename_i hak; subst hak; exact Memory.wfFrom_cons ha h.2
      · simp only [Memory.wfFrom, Bool.and_eq_true, decide_eq_true_eq]
        exact ⟨⟨h.1.1, h.1.2⟩, ih h.2 (by omega)⟩

theorem Memory.read_put_from {m : Memory} {lo : Nat} (h : Memory.wfFrom lo m = true) (a : Nat) (b : Byte) (x : Nat) :
    (m.put a b).read x = if x = a then b else m.read x := by
  induction m generalizing lo with
  | nil => exact Memory.read_cons rfl x
  | cons e m ih =>
    obtain ⟨k, c⟩ := e
    simp only [Memory.wfFrom, Bool.and_eq_true, decide_eq_true_eq] at h
    simp only [Memory.put]
    split
    · rename_i hak
      refine Memory.read_cons ?_ x
      simp only [Memory.wfFrom, Bool.and_eq_true, decide_eq_true_eq]
      exact ⟨⟨by omega, h.1.2⟩, h.2⟩
    · split
      · rename_i hak; subst hak
        rw [Memory.read_cons h.2]
        by_cases hx : x = a
        · simp [hx]
        · simp only [if_neg hx, Memory.read]
          split
          · rw [Memory.read_lt h.2 (by omega)]
          · rfl
      · rename_i h1 h2
        simp only [Memory.read, ih h.2]
        by_cases hx : x = k
        · subst hx; rw [if_pos rfl, if_neg (by omega), if_pos rfl]
        · simp only [if_neg hx]
          split
          · rw [if_neg (by omega)]
          · rfl

theorem Memory.wf_put {m : Memory} (a : Nat) (b : Byte) (h : m.wf = true) : (m.put a b).wf = true :=
  Memory.wfFrom_put b h (Nat.zero_le a)

theorem Memory.read_put {m : Memory} (h : m.wf = true) (a : Nat) (b : Byte) (x : Nat) :
    (m.put a b).read x = if x = a then b else m.read x :=
  Memory.read_put_from h a b x

/-! Several stores. -/

theorem Memory.wf_write {m : Memory} (a : Nat) (bs : List Byte) (h : m.wf = true) : (m.write a bs).wf = true := by
  induction bs generalizing m a with
  | nil => exact h
  | cons b bs ih => exact ih (a + 1) (Memory.wf_put a b h)

/-- A byte outside the stored range reads as before. -/
theorem Memory.read_write_out {m : Memory} (h : m.wf = true) (a : Nat) (bs : List Byte) (x : Nat)
    (hx : x < a ∨ a + bs.length ≤ x) : (m.write a bs).read x = m.read x := by
  induction bs generalizing m a with
  | nil => rfl
  | cons b bs ih =>
    simp only [Memory.write]
    simp only [List.length_cons] at hx
    rw [ih (Memory.wf_put a b h) (a + 1) (by omega), Memory.read_put h, if_neg (by omega)]

/-- A byte inside the stored range reads as stored. -/
theorem Memory.read_write_in {m : Memory} (h : m.wf = true) (a : Nat) (bs : List Byte) (i : Nat) (hi : i < bs.length) :
    (m.write a bs).read (a + i) = bs[i] := by
  induction bs generalizing m a i with
  | nil => simp at hi
  | cons b bs ih =>
    simp only [Memory.write]
    cases i with
    | zero => rw [Memory.read_write_out (Memory.wf_put a b h) (a + 1) bs _ (by omega), Memory.read_put h]; simp
    | succ i =>
      have := ih (Memory.wf_put a b h) (a + 1) i (by simpa using hi)
      rw [show a + (i + 1) = a + 1 + i by omega, this]; rfl

/-! Clears. -/

theorem Memory.wfFrom_filter {m : Memory} {lo : Nat} (p : Nat × Byte → Bool) (h : Memory.wfFrom lo m = true) :
    Memory.wfFrom lo (m.filter p) = true := by
  induction m generalizing lo with
  | nil => rfl
  | cons e m ih =>
    obtain ⟨k, b⟩ := e
    simp only [Memory.wfFrom, Bool.and_eq_true, decide_eq_true_eq] at h
    simp only [List.filter_cons]
    split
    · simp only [Memory.wfFrom, Bool.and_eq_true, decide_eq_true_eq]; exact ⟨h.1, ih h.2⟩
    · exact Memory.wfFrom_mono (ih h.2) (by omega)

theorem Memory.wf_clear {m : Memory} (a len : Nat) (h : m.wf = true) : (m.clear a len).wf = true :=
  Memory.wfFrom_filter _ h

theorem Memory.read_clear_from {m : Memory} {lo : Nat} (h : Memory.wfFrom lo m = true) (a len x : Nat) :
    (m.clear a len).read x = if a ≤ x ∧ x < a + len then Memory.empty else m.read x := by
  induction m generalizing lo with
  | nil => simp [Memory.clear, Memory.read]
  | cons e m ih =>
    obtain ⟨k, b⟩ := e
    simp only [Memory.wfFrom, Bool.and_eq_true, decide_eq_true_eq] at h
    have ihm := ih h.2
    simp only [Memory.clear] at ihm
    simp only [Memory.clear, List.filter_cons]
    split
    · rename_i hk
      simp only [Bool.or_eq_true, decide_eq_true_eq] at hk
      simp only [Memory.read, ihm]
      by_cases hx : x = k
      · subst hx; rw [if_pos rfl, if_neg (by omega), if_pos rfl]
      · simp only [if_neg hx]; split <;> simp
    · rename_i hk
      simp only [Bool.or_eq_true, decide_eq_true_eq] at hk
      rw [ihm]
      split
      · rfl
      · rename_i hx
        simp only [Memory.read]
        rw [if_neg (by omega)]
        split
        · exact Memory.read_lt h.2 (by omega)
        · rfl

theorem Memory.read_clear {m : Memory} (h : m.wf = true) (a len x : Nat) :
    (m.clear a len).read x = if a ≤ x ∧ x < a + len then Memory.empty else m.read x :=
  Memory.read_clear_from h a len x

/-! What a command asks. -/

theorem Memory.wf_apply {m : Memory} (ops : List MemOp) (h : m.wf = true) : (m.apply ops).wf = true := by
  induction ops generalizing m with
  | nil => exact h
  | cons o ops ih =>
    refine ih ?_
    cases o with
    | write a bs => exact Memory.wf_write a bs h
    | clear a len => exact Memory.wf_clear a len h

@[simp] theorem Memory.apply_nil (m : Memory) : m.apply [] = m := rfl

theorem Memory.apply_append (m : Memory) (a b : List MemOp) : m.apply (a ++ b) = (m.apply a).apply b := by
  simp [Memory.apply, List.foldl_append]

end Sys2Proof.Machine
end

