-- ==== Sys2Proof/Laws/State.lean ====
section
/-!
SUPPORT. One lemma per field per update of the device: what an update leaves as it was.
-/
namespace Sys2Proof.Machine

variable (d : Dev)

@[simp] theorem Dev.set_now (k : Nat) (v : Nat) : (d.set k v).now = d.now := rfl
@[simp] theorem Dev.set_ttZero (k : Nat) (v : Nat) : (d.set k v).ttZero = d.ttZero := rfl
@[simp] theorem Dev.set_rt (k : Nat) (v : Nat) : (d.set k v).rt = d.rt := rfl
@[simp] theorem Dev.set_shadow (k : Nat) (v : Nat) : (d.set k v).shadow = d.shadow := rfl
@[simp] theorem Dev.set_lastApply (k : Nat) (v : Nat) : (d.set k v).lastApply = d.lastApply := rfl
@[simp] theorem Dev.set_refused (k : Nat) (v : Nat) : (d.set k v).refused = d.refused := rfl
@[simp] theorem Dev.set_hist (k : Nat) (v : Nat) : (d.set k v).hist = d.hist := rfl
@[simp] theorem Dev.set_status (k : Nat) (v : Nat) : (d.set k v).status = d.status := rfl
@[simp] theorem Dev.set_data (k : Nat) (v : Nat) : (d.set k v).data = d.data := rfl
@[simp] theorem Dev.set_freeCtr (k : Nat) (v : Nat) : (d.set k v).freeCtr = d.freeCtr := rfl
@[simp] theorem Dev.set_out (k : Nat) (v : Nat) : (d.set k v).out = d.out := rfl
@[simp] theorem Dev.set_memQ (k : Nat) (v : Nat) : (d.set k v).memQ = d.memQ := rfl
@[simp] theorem Dev.set_net (k : Nat) (v : Nat) : (d.set k v).net = d.net := rfl
@[simp] theorem Dev.set_kindle (k : Nat) (v : Nat) : (d.set k v).kindle = d.kindle := rfl
@[simp] theorem Dev.set_jtag (k : Nat) (v : Nat) : (d.set k v).jtag = d.jtag := rfl
@[simp] theorem Dev.set_frame (k : Nat) (v : Nat) : (d.set k v).frame = d.frame := rfl
@[simp] theorem Dev.set_time (k : Nat) (v : Nat) : (d.set k v).time = d.time := rfl
@[simp] theorem Dev.set_link (k : Nat) (v : Nat) : (d.set k v).link = d.link := rfl
@[simp] theorem Dev.set_cells (k : Nat) (v : Nat) : (d.set k v).cells = d.cells := rfl
@[simp] theorem Dev.set_lanes (k : Nat) (v : Nat) : (d.set k v).lanes = d.lanes := rfl
@[simp] theorem Dev.set_arms (k : Nat) (v : Nat) : (d.set k v).arms = d.arms := rfl
@[simp] theorem Dev.set_legSum (k : Nat) (v : Nat) : (d.set k v).legSum = d.legSum := rfl
@[simp] theorem Dev.set_spare (k : Nat) (v : Nat) : (d.set k v).spare = d.spare := rfl
@[simp] theorem Dev.set_damper (k : Nat) (v : Nat) : (d.set k v).damper = d.damper := rfl
@[simp] theorem Dev.set_acq (k : Nat) (v : Nat) : (d.set k v).acq = d.acq := rfl
@[simp] theorem Dev.set_meas (k : Nat) (v : Nat) : (d.set k v).meas = d.meas := rfl
@[simp] theorem Dev.set_kiln (k : Nat) (v : Nat) : (d.set k v).kiln = d.kiln := rfl
@[simp] theorem Dev.set_pwm (k : Nat) (v : Nat) : (d.set k v).pwm = d.pwm := rfl
@[simp] theorem Dev.set_maint (k : Nat) (v : Nat) : (d.set k v).maint = d.maint := rfl
@[simp] theorem Dev.set_twin (k : Nat) (v : Nat) : (d.set k v).twin = d.twin := rfl

@[simp] theorem Dev.setI_now (k : Nat) (w : Nat) (i : Int) : (d.setI k w i).now = d.now := rfl
@[simp] theorem Dev.setI_ttZero (k : Nat) (w : Nat) (i : Int) : (d.setI k w i).ttZero = d.ttZero := rfl
@[simp] theorem Dev.setI_rt (k : Nat) (w : Nat) (i : Int) : (d.setI k w i).rt = d.rt := rfl
@[simp] theorem Dev.setI_shadow (k : Nat) (w : Nat) (i : Int) : (d.setI k w i).shadow = d.shadow := rfl
@[simp] theorem Dev.setI_lastApply (k : Nat) (w : Nat) (i : Int) : (d.setI k w i).lastApply = d.lastApply := rfl
@[simp] theorem Dev.setI_refused (k : Nat) (w : Nat) (i : Int) : (d.setI k w i).refused = d.refused := rfl
@[simp] theorem Dev.setI_hist (k : Nat) (w : Nat) (i : Int) : (d.setI k w i).hist = d.hist := rfl
@[simp] theorem Dev.setI_status (k : Nat) (w : Nat) (i : Int) : (d.setI k w i).status = d.status := rfl
@[simp] theorem Dev.setI_data (k : Nat) (w : Nat) (i : Int) : (d.setI k w i).data = d.data := rfl
@[simp] theorem Dev.setI_freeCtr (k : Nat) (w : Nat) (i : Int) : (d.setI k w i).freeCtr = d.freeCtr := rfl
@[simp] theorem Dev.setI_out (k : Nat) (w : Nat) (i : Int) : (d.setI k w i).out = d.out := rfl
@[simp] theorem Dev.setI_memQ (k : Nat) (w : Nat) (i : Int) : (d.setI k w i).memQ = d.memQ := rfl
@[simp] theorem Dev.setI_net (k : Nat) (w : Nat) (i : Int) : (d.setI k w i).net = d.net := rfl
@[simp] theorem Dev.setI_kindle (k : Nat) (w : Nat) (i : Int) : (d.setI k w i).kindle = d.kindle := rfl
@[simp] theorem Dev.setI_jtag (k : Nat) (w : Nat) (i : Int) : (d.setI k w i).jtag = d.jtag := rfl
@[simp] theorem Dev.setI_frame (k : Nat) (w : Nat) (i : Int) : (d.setI k w i).frame = d.frame := rfl
@[simp] theorem Dev.setI_time (k : Nat) (w : Nat) (i : Int) : (d.setI k w i).time = d.time := rfl
@[simp] theorem Dev.setI_link (k : Nat) (w : Nat) (i : Int) : (d.setI k w i).link = d.link := rfl
@[simp] theorem Dev.setI_cells (k : Nat) (w : Nat) (i : Int) : (d.setI k w i).cells = d.cells := rfl
@[simp] theorem Dev.setI_lanes (k : Nat) (w : Nat) (i : Int) : (d.setI k w i).lanes = d.lanes := rfl
@[simp] theorem Dev.setI_arms (k : Nat) (w : Nat) (i : Int) : (d.setI k w i).arms = d.arms := rfl
@[simp] theorem Dev.setI_legSum (k : Nat) (w : Nat) (i : Int) : (d.setI k w i).legSum = d.legSum := rfl
@[simp] theorem Dev.setI_spare (k : Nat) (w : Nat) (i : Int) : (d.setI k w i).spare = d.spare := rfl
@[simp] theorem Dev.setI_damper (k : Nat) (w : Nat) (i : Int) : (d.setI k w i).damper = d.damper := rfl
@[simp] theorem Dev.setI_acq (k : Nat) (w : Nat) (i : Int) : (d.setI k w i).acq = d.acq := rfl
@[simp] theorem Dev.setI_meas (k : Nat) (w : Nat) (i : Int) : (d.setI k w i).meas = d.meas := rfl
@[simp] theorem Dev.setI_kiln (k : Nat) (w : Nat) (i : Int) : (d.setI k w i).kiln = d.kiln := rfl
@[simp] theorem Dev.setI_pwm (k : Nat) (w : Nat) (i : Int) : (d.setI k w i).pwm = d.pwm := rfl
@[simp] theorem Dev.setI_maint (k : Nat) (w : Nat) (i : Int) : (d.setI k w i).maint = d.maint := rfl
@[simp] theorem Dev.setI_twin (k : Nat) (w : Nat) (i : Int) : (d.setI k w i).twin = d.twin := rfl

@[simp] theorem Dev.setF_now (k : Nat) (x : F32) : (d.setF k x).now = d.now := rfl
@[simp] theorem Dev.setF_ttZero (k : Nat) (x : F32) : (d.setF k x).ttZero = d.ttZero := rfl
@[simp] theorem Dev.setF_rt (k : Nat) (x : F32) : (d.setF k x).rt = d.rt := rfl
@[simp] theorem Dev.setF_shadow (k : Nat) (x : F32) : (d.setF k x).shadow = d.shadow := rfl
@[simp] theorem Dev.setF_lastApply (k : Nat) (x : F32) : (d.setF k x).lastApply = d.lastApply := rfl
@[simp] theorem Dev.setF_refused (k : Nat) (x : F32) : (d.setF k x).refused = d.refused := rfl
@[simp] theorem Dev.setF_hist (k : Nat) (x : F32) : (d.setF k x).hist = d.hist := rfl
@[simp] theorem Dev.setF_status (k : Nat) (x : F32) : (d.setF k x).status = d.status := rfl
@[simp] theorem Dev.setF_data (k : Nat) (x : F32) : (d.setF k x).data = d.data := rfl
@[simp] theorem Dev.setF_freeCtr (k : Nat) (x : F32) : (d.setF k x).freeCtr = d.freeCtr := rfl
@[simp] theorem Dev.setF_out (k : Nat) (x : F32) : (d.setF k x).out = d.out := rfl
@[simp] theorem Dev.setF_memQ (k : Nat) (x : F32) : (d.setF k x).memQ = d.memQ := rfl
@[simp] theorem Dev.setF_net (k : Nat) (x : F32) : (d.setF k x).net = d.net := rfl
@[simp] theorem Dev.setF_kindle (k : Nat) (x : F32) : (d.setF k x).kindle = d.kindle := rfl
@[simp] theorem Dev.setF_jtag (k : Nat) (x : F32) : (d.setF k x).jtag = d.jtag := rfl
@[simp] theorem Dev.setF_frame (k : Nat) (x : F32) : (d.setF k x).frame = d.frame := rfl
@[simp] theorem Dev.setF_time (k : Nat) (x : F32) : (d.setF k x).time = d.time := rfl
@[simp] theorem Dev.setF_link (k : Nat) (x : F32) : (d.setF k x).link = d.link := rfl
@[simp] theorem Dev.setF_cells (k : Nat) (x : F32) : (d.setF k x).cells = d.cells := rfl
@[simp] theorem Dev.setF_lanes (k : Nat) (x : F32) : (d.setF k x).lanes = d.lanes := rfl
@[simp] theorem Dev.setF_arms (k : Nat) (x : F32) : (d.setF k x).arms = d.arms := rfl
@[simp] theorem Dev.setF_legSum (k : Nat) (x : F32) : (d.setF k x).legSum = d.legSum := rfl
@[simp] theorem Dev.setF_spare (k : Nat) (x : F32) : (d.setF k x).spare = d.spare := rfl
@[simp] theorem Dev.setF_damper (k : Nat) (x : F32) : (d.setF k x).damper = d.damper := rfl
@[simp] theorem Dev.setF_acq (k : Nat) (x : F32) : (d.setF k x).acq = d.acq := rfl
@[simp] theorem Dev.setF_meas (k : Nat) (x : F32) : (d.setF k x).meas = d.meas := rfl
@[simp] theorem Dev.setF_kiln (k : Nat) (x : F32) : (d.setF k x).kiln = d.kiln := rfl
@[simp] theorem Dev.setF_pwm (k : Nat) (x : F32) : (d.setF k x).pwm = d.pwm := rfl
@[simp] theorem Dev.setF_maint (k : Nat) (x : F32) : (d.setF k x).maint = d.maint := rfl
@[simp] theorem Dev.setF_twin (k : Nat) (x : F32) : (d.setF k x).twin = d.twin := rfl

@[simp] theorem Dev.count_now (k : Nat) (w n : Nat) : (d.count k w n).now = d.now := rfl
@[simp] theorem Dev.count_ttZero (k : Nat) (w n : Nat) : (d.count k w n).ttZero = d.ttZero := rfl
@[simp] theorem Dev.count_rt (k : Nat) (w n : Nat) : (d.count k w n).rt = d.rt := rfl
@[simp] theorem Dev.count_shadow (k : Nat) (w n : Nat) : (d.count k w n).shadow = d.shadow := rfl
@[simp] theorem Dev.count_lastApply (k : Nat) (w n : Nat) : (d.count k w n).lastApply = d.lastApply := rfl
@[simp] theorem Dev.count_refused (k : Nat) (w n : Nat) : (d.count k w n).refused = d.refused := rfl
@[simp] theorem Dev.count_hist (k : Nat) (w n : Nat) : (d.count k w n).hist = d.hist := rfl
@[simp] theorem Dev.count_status (k : Nat) (w n : Nat) : (d.count k w n).status = d.status := rfl
@[simp] theorem Dev.count_data (k : Nat) (w n : Nat) : (d.count k w n).data = d.data := rfl
@[simp] theorem Dev.count_freeCtr (k : Nat) (w n : Nat) : (d.count k w n).freeCtr = d.freeCtr := rfl
@[simp] theorem Dev.count_out (k : Nat) (w n : Nat) : (d.count k w n).out = d.out := rfl
@[simp] theorem Dev.count_memQ (k : Nat) (w n : Nat) : (d.count k w n).memQ = d.memQ := rfl
@[simp] theorem Dev.count_net (k : Nat) (w n : Nat) : (d.count k w n).net = d.net := rfl
@[simp] theorem Dev.count_kindle (k : Nat) (w n : Nat) : (d.count k w n).kindle = d.kindle := rfl
@[simp] theorem Dev.count_jtag (k : Nat) (w n : Nat) : (d.count k w n).jtag = d.jtag := rfl
@[simp] theorem Dev.count_frame (k : Nat) (w n : Nat) : (d.count k w n).frame = d.frame := rfl
@[simp] theorem Dev.count_time (k : Nat) (w n : Nat) : (d.count k w n).time = d.time := rfl
@[simp] theorem Dev.count_link (k : Nat) (w n : Nat) : (d.count k w n).link = d.link := rfl
@[simp] theorem Dev.count_cells (k : Nat) (w n : Nat) : (d.count k w n).cells = d.cells := rfl
@[simp] theorem Dev.count_lanes (k : Nat) (w n : Nat) : (d.count k w n).lanes = d.lanes := rfl
@[simp] theorem Dev.count_arms (k : Nat) (w n : Nat) : (d.count k w n).arms = d.arms := rfl
@[simp] theorem Dev.count_legSum (k : Nat) (w n : Nat) : (d.count k w n).legSum = d.legSum := rfl
@[simp] theorem Dev.count_spare (k : Nat) (w n : Nat) : (d.count k w n).spare = d.spare := rfl
@[simp] theorem Dev.count_damper (k : Nat) (w n : Nat) : (d.count k w n).damper = d.damper := rfl
@[simp] theorem Dev.count_acq (k : Nat) (w n : Nat) : (d.count k w n).acq = d.acq := rfl
@[simp] theorem Dev.count_meas (k : Nat) (w n : Nat) : (d.count k w n).meas = d.meas := rfl
@[simp] theorem Dev.count_kiln (k : Nat) (w n : Nat) : (d.count k w n).kiln = d.kiln := rfl
@[simp] theorem Dev.count_pwm (k : Nat) (w n : Nat) : (d.count k w n).pwm = d.pwm := rfl
@[simp] theorem Dev.count_maint (k : Nat) (w n : Nat) : (d.count k w n).maint = d.maint := rfl
@[simp] theorem Dev.count_twin (k : Nat) (w n : Nat) : (d.count k w n).twin = d.twin := rfl

@[simp] theorem Dev.ack_now (k : Nat) (e m g : Nat) : (d.ack k e m g).now = d.now := rfl
@[simp] theorem Dev.ack_ttZero (k : Nat) (e m g : Nat) : (d.ack k e m g).ttZero = d.ttZero := rfl
@[simp] theorem Dev.ack_rt (k : Nat) (e m g : Nat) : (d.ack k e m g).rt = d.rt := rfl
@[simp] theorem Dev.ack_shadow (k : Nat) (e m g : Nat) : (d.ack k e m g).shadow = d.shadow := rfl
@[simp] theorem Dev.ack_lastApply (k : Nat) (e m g : Nat) : (d.ack k e m g).lastApply = d.lastApply := rfl
@[simp] theorem Dev.ack_refused (k : Nat) (e m g : Nat) : (d.ack k e m g).refused = d.refused := rfl
@[simp] theorem Dev.ack_hist (k : Nat) (e m g : Nat) : (d.ack k e m g).hist = d.hist := rfl
@[simp] theorem Dev.ack_status (k : Nat) (e m g : Nat) : (d.ack k e m g).status = d.status := rfl
@[simp] theorem Dev.ack_data (k : Nat) (e m g : Nat) : (d.ack k e m g).data = d.data := rfl
@[simp] theorem Dev.ack_freeCtr (k : Nat) (e m g : Nat) : (d.ack k e m g).freeCtr = d.freeCtr := rfl
@[simp] theorem Dev.ack_out (k : Nat) (e m g : Nat) : (d.ack k e m g).out = d.out := rfl
@[simp] theorem Dev.ack_memQ (k : Nat) (e m g : Nat) : (d.ack k e m g).memQ = d.memQ := rfl
@[simp] theorem Dev.ack_net (k : Nat) (e m g : Nat) : (d.ack k e m g).net = d.net := rfl
@[simp] theorem Dev.ack_kindle (k : Nat) (e m g : Nat) : (d.ack k e m g).kindle = d.kindle := rfl
@[simp] theorem Dev.ack_jtag (k : Nat) (e m g : Nat) : (d.ack k e m g).jtag = d.jtag := rfl
@[simp] theorem Dev.ack_frame (k : Nat) (e m g : Nat) : (d.ack k e m g).frame = d.frame := rfl
@[simp] theorem Dev.ack_time (k : Nat) (e m g : Nat) : (d.ack k e m g).time = d.time := rfl
@[simp] theorem Dev.ack_link (k : Nat) (e m g : Nat) : (d.ack k e m g).link = d.link := rfl
@[simp] theorem Dev.ack_cells (k : Nat) (e m g : Nat) : (d.ack k e m g).cells = d.cells := rfl
@[simp] theorem Dev.ack_lanes (k : Nat) (e m g : Nat) : (d.ack k e m g).lanes = d.lanes := rfl
@[simp] theorem Dev.ack_arms (k : Nat) (e m g : Nat) : (d.ack k e m g).arms = d.arms := rfl
@[simp] theorem Dev.ack_legSum (k : Nat) (e m g : Nat) : (d.ack k e m g).legSum = d.legSum := rfl
@[simp] theorem Dev.ack_spare (k : Nat) (e m g : Nat) : (d.ack k e m g).spare = d.spare := rfl
@[simp] theorem Dev.ack_damper (k : Nat) (e m g : Nat) : (d.ack k e m g).damper = d.damper := rfl
@[simp] theorem Dev.ack_acq (k : Nat) (e m g : Nat) : (d.ack k e m g).acq = d.acq := rfl
@[simp] theorem Dev.ack_meas (k : Nat) (e m g : Nat) : (d.ack k e m g).meas = d.meas := rfl
@[simp] theorem Dev.ack_kiln (k : Nat) (e m g : Nat) : (d.ack k e m g).kiln = d.kiln := rfl
@[simp] theorem Dev.ack_pwm (k : Nat) (e m g : Nat) : (d.ack k e m g).pwm = d.pwm := rfl
@[simp] theorem Dev.ack_maint (k : Nat) (e m g : Nat) : (d.ack k e m g).maint = d.maint := rfl
@[simp] theorem Dev.ack_twin (k : Nat) (e m g : Nat) : (d.ack k e m g).twin = d.twin := rfl

@[simp] theorem Dev.ret_now (st : Nat) : (d.ret st).now = d.now := rfl
@[simp] theorem Dev.ret_ttZero (st : Nat) : (d.ret st).ttZero = d.ttZero := rfl
@[simp] theorem Dev.ret_regs (st : Nat) : (d.ret st).regs = d.regs := rfl
@[simp] theorem Dev.ret_rt (st : Nat) : (d.ret st).rt = d.rt := rfl
@[simp] theorem Dev.ret_shadow (st : Nat) : (d.ret st).shadow = d.shadow := rfl
@[simp] theorem Dev.ret_lastApply (st : Nat) : (d.ret st).lastApply = d.lastApply := rfl
@[simp] theorem Dev.ret_refused (st : Nat) : (d.ret st).refused = d.refused := rfl
@[simp] theorem Dev.ret_hist (st : Nat) : (d.ret st).hist = d.hist := rfl
@[simp] theorem Dev.ret_data (st : Nat) : (d.ret st).data = d.data := rfl
@[simp] theorem Dev.ret_freeCtr (st : Nat) : (d.ret st).freeCtr = d.freeCtr := rfl
@[simp] theorem Dev.ret_out (st : Nat) : (d.ret st).out = d.out := rfl
@[simp] theorem Dev.ret_memQ (st : Nat) : (d.ret st).memQ = d.memQ := rfl
@[simp] theorem Dev.ret_net (st : Nat) : (d.ret st).net = d.net := rfl
@[simp] theorem Dev.ret_kindle (st : Nat) : (d.ret st).kindle = d.kindle := rfl
@[simp] theorem Dev.ret_jtag (st : Nat) : (d.ret st).jtag = d.jtag := rfl
@[simp] theorem Dev.ret_frame (st : Nat) : (d.ret st).frame = d.frame := rfl
@[simp] theorem Dev.ret_time (st : Nat) : (d.ret st).time = d.time := rfl
@[simp] theorem Dev.ret_link (st : Nat) : (d.ret st).link = d.link := rfl
@[simp] theorem Dev.ret_cells (st : Nat) : (d.ret st).cells = d.cells := rfl
@[simp] theorem Dev.ret_lanes (st : Nat) : (d.ret st).lanes = d.lanes := rfl
@[simp] theorem Dev.ret_arms (st : Nat) : (d.ret st).arms = d.arms := rfl
@[simp] theorem Dev.ret_legSum (st : Nat) : (d.ret st).legSum = d.legSum := rfl
@[simp] theorem Dev.ret_spare (st : Nat) : (d.ret st).spare = d.spare := rfl
@[simp] theorem Dev.ret_damper (st : Nat) : (d.ret st).damper = d.damper := rfl
@[simp] theorem Dev.ret_acq (st : Nat) : (d.ret st).acq = d.acq := rfl
@[simp] theorem Dev.ret_meas (st : Nat) : (d.ret st).meas = d.meas := rfl
@[simp] theorem Dev.ret_kiln (st : Nat) : (d.ret st).kiln = d.kiln := rfl
@[simp] theorem Dev.ret_pwm (st : Nat) : (d.ret st).pwm = d.pwm := rfl
@[simp] theorem Dev.ret_maint (st : Nat) : (d.ret st).maint = d.maint := rfl
@[simp] theorem Dev.ret_twin (st : Nat) : (d.ret st).twin = d.twin := rfl
@[simp] theorem Dev.ret_get (st : Nat) (key : Nat) : (d.ret st).get key = d.get key := rfl

@[simp] theorem Dev.send_now (o : Out) : (d.send o).now = d.now := rfl
@[simp] theorem Dev.send_ttZero (o : Out) : (d.send o).ttZero = d.ttZero := rfl
@[simp] theorem Dev.send_regs (o : Out) : (d.send o).regs = d.regs := rfl
@[simp] theorem Dev.send_rt (o : Out) : (d.send o).rt = d.rt := rfl
@[simp] theorem Dev.send_shadow (o : Out) : (d.send o).shadow = d.shadow := rfl
@[simp] theorem Dev.send_lastApply (o : Out) : (d.send o).lastApply = d.lastApply := rfl
@[simp] theorem Dev.send_refused (o : Out) : (d.send o).refused = d.refused := rfl
@[simp] theorem Dev.send_hist (o : Out) : (d.send o).hist = d.hist := rfl
@[simp] theorem Dev.send_status (o : Out) : (d.send o).status = d.status := rfl
@[simp] theorem Dev.send_data (o : Out) : (d.send o).data = d.data := rfl
@[simp] theorem Dev.send_freeCtr (o : Out) : (d.send o).freeCtr = d.freeCtr := rfl
@[simp] theorem Dev.send_memQ (o : Out) : (d.send o).memQ = d.memQ := rfl
@[simp] theorem Dev.send_net (o : Out) : (d.send o).net = d.net := rfl
@[simp] theorem Dev.send_kindle (o : Out) : (d.send o).kindle = d.kindle := rfl
@[simp] theorem Dev.send_jtag (o : Out) : (d.send o).jtag = d.jtag := rfl
@[simp] theorem Dev.send_frame (o : Out) : (d.send o).frame = d.frame := rfl
@[simp] theorem Dev.send_time (o : Out) : (d.send o).time = d.time := rfl
@[simp] theorem Dev.send_link (o : Out) : (d.send o).link = d.link := rfl
@[simp] theorem Dev.send_cells (o : Out) : (d.send o).cells = d.cells := rfl
@[simp] theorem Dev.send_lanes (o : Out) : (d.send o).lanes = d.lanes := rfl
@[simp] theorem Dev.send_arms (o : Out) : (d.send o).arms = d.arms := rfl
@[simp] theorem Dev.send_legSum (o : Out) : (d.send o).legSum = d.legSum := rfl
@[simp] theorem Dev.send_spare (o : Out) : (d.send o).spare = d.spare := rfl
@[simp] theorem Dev.send_damper (o : Out) : (d.send o).damper = d.damper := rfl
@[simp] theorem Dev.send_acq (o : Out) : (d.send o).acq = d.acq := rfl
@[simp] theorem Dev.send_meas (o : Out) : (d.send o).meas = d.meas := rfl
@[simp] theorem Dev.send_kiln (o : Out) : (d.send o).kiln = d.kiln := rfl
@[simp] theorem Dev.send_pwm (o : Out) : (d.send o).pwm = d.pwm := rfl
@[simp] theorem Dev.send_maint (o : Out) : (d.send o).maint = d.maint := rfl
@[simp] theorem Dev.send_twin (o : Out) : (d.send o).twin = d.twin := rfl
@[simp] theorem Dev.send_get (o : Out) (key : Nat) : (d.send o).get key = d.get key := rfl

@[simp] theorem Dev.memWrite_now (a : Nat) (bs : List Byte) : (d.memWrite a bs).now = d.now := rfl
@[simp] theorem Dev.memWrite_ttZero (a : Nat) (bs : List Byte) : (d.memWrite a bs).ttZero = d.ttZero := rfl
@[simp] theorem Dev.memWrite_regs (a : Nat) (bs : List Byte) : (d.memWrite a bs).regs = d.regs := rfl
@[simp] theorem Dev.memWrite_rt (a : Nat) (bs : List Byte) : (d.memWrite a bs).rt = d.rt := rfl
@[simp] theorem Dev.memWrite_shadow (a : Nat) (bs : List Byte) : (d.memWrite a bs).shadow = d.shadow := rfl
@[simp] theorem Dev.memWrite_lastApply (a : Nat) (bs : List Byte) : (d.memWrite a bs).lastApply = d.lastApply := rfl
@[simp] theorem Dev.memWrite_refused (a : Nat) (bs : List Byte) : (d.memWrite a bs).refused = d.refused := rfl
@[simp] theorem Dev.memWrite_hist (a : Nat) (bs : List Byte) : (d.memWrite a bs).hist = d.hist := rfl
@[simp] theorem Dev.memWrite_status (a : Nat) (bs : List Byte) : (d.memWrite a bs).status = d.status := rfl
@[simp] theorem Dev.memWrite_data (a : Nat) (bs : List Byte) : (d.memWrite a bs).data = d.data := rfl
@[simp] theorem Dev.memWrite_freeCtr (a : Nat) (bs : List Byte) : (d.memWrite a bs).freeCtr = d.freeCtr := rfl
@[simp] theorem Dev.memWrite_out (a : Nat) (bs : List Byte) : (d.memWrite a bs).out = d.out := rfl
@[simp] theorem Dev.memWrite_net (a : Nat) (bs : List Byte) : (d.memWrite a bs).net = d.net := rfl
@[simp] theorem Dev.memWrite_kindle (a : Nat) (bs : List Byte) : (d.memWrite a bs).kindle = d.kindle := rfl
@[simp] theorem Dev.memWrite_jtag (a : Nat) (bs : List Byte) : (d.memWrite a bs).jtag = d.jtag := rfl
@[simp] theorem Dev.memWrite_frame (a : Nat) (bs : List Byte) : (d.memWrite a bs).frame = d.frame := rfl
@[simp] theorem Dev.memWrite_time (a : Nat) (bs : List Byte) : (d.memWrite a bs).time = d.time := rfl
@[simp] theorem Dev.memWrite_link (a : Nat) (bs : List Byte) : (d.memWrite a bs).link = d.link := rfl
@[simp] theorem Dev.memWrite_cells (a : Nat) (bs : List Byte) : (d.memWrite a bs).cells = d.cells := rfl
@[simp] theorem Dev.memWrite_lanes (a : Nat) (bs : List Byte) : (d.memWrite a bs).lanes = d.lanes := rfl
@[simp] theorem Dev.memWrite_arms (a : Nat) (bs : List Byte) : (d.memWrite a bs).arms = d.arms := rfl
@[simp] theorem Dev.memWrite_legSum (a : Nat) (bs : List Byte) : (d.memWrite a bs).legSum = d.legSum := rfl
@[simp] theorem Dev.memWrite_spare (a : Nat) (bs : List Byte) : (d.memWrite a bs).spare = d.spare := rfl
@[simp] theorem Dev.memWrite_damper (a : Nat) (bs : List Byte) : (d.memWrite a bs).damper = d.damper := rfl
@[simp] theorem Dev.memWrite_acq (a : Nat) (bs : List Byte) : (d.memWrite a bs).acq = d.acq := rfl
@[simp] theorem Dev.memWrite_meas (a : Nat) (bs : List Byte) : (d.memWrite a bs).meas = d.meas := rfl
@[simp] theorem Dev.memWrite_kiln (a : Nat) (bs : List Byte) : (d.memWrite a bs).kiln = d.kiln := rfl
@[simp] theorem Dev.memWrite_pwm (a : Nat) (bs : List Byte) : (d.memWrite a bs).pwm = d.pwm := rfl
@[simp] theorem Dev.memWrite_maint (a : Nat) (bs : List Byte) : (d.memWrite a bs).maint = d.maint := rfl
@[simp] theorem Dev.memWrite_twin (a : Nat) (bs : List Byte) : (d.memWrite a bs).twin = d.twin := rfl
@[simp] theorem Dev.memWrite_get (a : Nat) (bs : List Byte) (key : Nat) : (d.memWrite a bs).get key = d.get key := rfl

@[simp] theorem Dev.memClear_now (a len : Nat) : (d.memClear a len).now = d.now := rfl
@[simp] theorem Dev.memClear_ttZero (a len : Nat) : (d.memClear a len).ttZero = d.ttZero := rfl
@[simp] theorem Dev.memClear_regs (a len : Nat) : (d.memClear a len).regs = d.regs := rfl
@[simp] theorem Dev.memClear_rt (a len : Nat) : (d.memClear a len).rt = d.rt := rfl
@[simp] theorem Dev.memClear_shadow (a len : Nat) : (d.memClear a len).shadow = d.shadow := rfl
@[simp] theorem Dev.memClear_lastApply (a len : Nat) : (d.memClear a len).lastApply = d.lastApply := rfl
@[simp] theorem Dev.memClear_refused (a len : Nat) : (d.memClear a len).refused = d.refused := rfl
@[simp] theorem Dev.memClear_hist (a len : Nat) : (d.memClear a len).hist = d.hist := rfl
@[simp] theorem Dev.memClear_status (a len : Nat) : (d.memClear a len).status = d.status := rfl
@[simp] theorem Dev.memClear_data (a len : Nat) : (d.memClear a len).data = d.data := rfl
@[simp] theorem Dev.memClear_freeCtr (a len : Nat) : (d.memClear a len).freeCtr = d.freeCtr := rfl
@[simp] theorem Dev.memClear_out (a len : Nat) : (d.memClear a len).out = d.out := rfl
@[simp] theorem Dev.memClear_net (a len : Nat) : (d.memClear a len).net = d.net := rfl
@[simp] theorem Dev.memClear_kindle (a len : Nat) : (d.memClear a len).kindle = d.kindle := rfl
@[simp] theorem Dev.memClear_jtag (a len : Nat) : (d.memClear a len).jtag = d.jtag := rfl
@[simp] theorem Dev.memClear_frame (a len : Nat) : (d.memClear a len).frame = d.frame := rfl
@[simp] theorem Dev.memClear_time (a len : Nat) : (d.memClear a len).time = d.time := rfl
@[simp] theorem Dev.memClear_link (a len : Nat) : (d.memClear a len).link = d.link := rfl
@[simp] theorem Dev.memClear_cells (a len : Nat) : (d.memClear a len).cells = d.cells := rfl
@[simp] theorem Dev.memClear_lanes (a len : Nat) : (d.memClear a len).lanes = d.lanes := rfl
@[simp] theorem Dev.memClear_arms (a len : Nat) : (d.memClear a len).arms = d.arms := rfl
@[simp] theorem Dev.memClear_legSum (a len : Nat) : (d.memClear a len).legSum = d.legSum := rfl
@[simp] theorem Dev.memClear_spare (a len : Nat) : (d.memClear a len).spare = d.spare := rfl
@[simp] theorem Dev.memClear_damper (a len : Nat) : (d.memClear a len).damper = d.damper := rfl
@[simp] theorem Dev.memClear_acq (a len : Nat) : (d.memClear a len).acq = d.acq := rfl
@[simp] theorem Dev.memClear_meas (a len : Nat) : (d.memClear a len).meas = d.meas := rfl
@[simp] theorem Dev.memClear_kiln (a len : Nat) : (d.memClear a len).kiln = d.kiln := rfl
@[simp] theorem Dev.memClear_pwm (a len : Nat) : (d.memClear a len).pwm = d.pwm := rfl
@[simp] theorem Dev.memClear_maint (a len : Nat) : (d.memClear a len).maint = d.maint := rfl
@[simp] theorem Dev.memClear_twin (a len : Nat) : (d.memClear a len).twin = d.twin := rfl
@[simp] theorem Dev.memClear_get (a len : Nat) (key : Nat) : (d.memClear a len).get key = d.get key := rfl

@[simp] theorem Dev.push_now (r : Raised) : (d.push r).now = d.now := rfl
@[simp] theorem Dev.push_ttZero (r : Raised) : (d.push r).ttZero = d.ttZero := rfl
@[simp] theorem Dev.push_regs (r : Raised) : (d.push r).regs = d.regs := rfl
@[simp] theorem Dev.push_rt (r : Raised) : (d.push r).rt = d.rt := rfl
@[simp] theorem Dev.push_shadow (r : Raised) : (d.push r).shadow = d.shadow := rfl
@[simp] theorem Dev.push_lastApply (r : Raised) : (d.push r).lastApply = d.lastApply := rfl
@[simp] theorem Dev.push_refused (r : Raised) : (d.push r).refused = d.refused := rfl
@[simp] theorem Dev.push_hist (r : Raised) : (d.push r).hist = d.hist := rfl
@[simp] theorem Dev.push_data (r : Raised) : (d.push r).data = d.data := rfl
@[simp] theorem Dev.push_freeCtr (r : Raised) : (d.push r).freeCtr = d.freeCtr := rfl
@[simp] theorem Dev.push_out (r : Raised) : (d.push r).out = d.out := rfl
@[simp] theorem Dev.push_memQ (r : Raised) : (d.push r).memQ = d.memQ := rfl
@[simp] theorem Dev.push_net (r : Raised) : (d.push r).net = d.net := rfl
@[simp] theorem Dev.push_kindle (r : Raised) : (d.push r).kindle = d.kindle := rfl
@[simp] theorem Dev.push_jtag (r : Raised) : (d.push r).jtag = d.jtag := rfl
@[simp] theorem Dev.push_frame (r : Raised) : (d.push r).frame = d.frame := rfl
@[simp] theorem Dev.push_time (r : Raised) : (d.push r).time = d.time := rfl
@[simp] theorem Dev.push_link (r : Raised) : (d.push r).link = d.link := rfl
@[simp] theorem Dev.push_cells (r : Raised) : (d.push r).cells = d.cells := rfl
@[simp] theorem Dev.push_lanes (r : Raised) : (d.push r).lanes = d.lanes := rfl
@[simp] theorem Dev.push_arms (r : Raised) : (d.push r).arms = d.arms := rfl
@[simp] theorem Dev.push_legSum (r : Raised) : (d.push r).legSum = d.legSum := rfl
@[simp] theorem Dev.push_spare (r : Raised) : (d.push r).spare = d.spare := rfl
@[simp] theorem Dev.push_acq (r : Raised) : (d.push r).acq = d.acq := rfl
@[simp] theorem Dev.push_meas (r : Raised) : (d.push r).meas = d.meas := rfl
@[simp] theorem Dev.push_kiln (r : Raised) : (d.push r).kiln = d.kiln := rfl
@[simp] theorem Dev.push_pwm (r : Raised) : (d.push r).pwm = d.pwm := rfl
@[simp] theorem Dev.push_maint (r : Raised) : (d.push r).maint = d.maint := rfl
@[simp] theorem Dev.push_twin (r : Raised) : (d.push r).twin = d.twin := rfl
@[simp] theorem Dev.push_get (r : Raised) (key : Nat) : (d.push r).get key = d.get key := rfl

@[simp] theorem Dev.setCell_now (s : Nat) (c : CellX) : (d.setCell s c).now = d.now := rfl
@[simp] theorem Dev.setCell_ttZero (s : Nat) (c : CellX) : (d.setCell s c).ttZero = d.ttZero := rfl
@[simp] theorem Dev.setCell_regs (s : Nat) (c : CellX) : (d.setCell s c).regs = d.regs := rfl
@[simp] theorem Dev.setCell_rt (s : Nat) (c : CellX) : (d.setCell s c).rt = d.rt := rfl
@[simp] theorem Dev.setCell_shadow (s : Nat) (c : CellX) : (d.setCell s c).shadow = d.shadow := rfl
@[simp] theorem Dev.setCell_lastApply (s : Nat) (c : CellX) : (d.setCell s c).lastApply = d.lastApply := rfl
@[simp] theorem Dev.setCell_refused (s : Nat) (c : CellX) : (d.setCell s c).refused = d.refused := rfl
@[simp] theorem Dev.setCell_hist (s : Nat) (c : CellX) : (d.setCell s c).hist = d.hist := rfl
@[simp] theorem Dev.setCell_status (s : Nat) (c : CellX) : (d.setCell s c).status = d.status := rfl
@[simp] theorem Dev.setCell_data (s : Nat) (c : CellX) : (d.setCell s c).data = d.data := rfl
@[simp] theorem Dev.setCell_freeCtr (s : Nat) (c : CellX) : (d.setCell s c).freeCtr = d.freeCtr := rfl
@[simp] theorem Dev.setCell_out (s : Nat) (c : CellX) : (d.setCell s c).out = d.out := rfl
@[simp] theorem Dev.setCell_memQ (s : Nat) (c : CellX) : (d.setCell s c).memQ = d.memQ := rfl
@[simp] theorem Dev.setCell_net (s : Nat) (c : CellX) : (d.setCell s c).net = d.net := rfl
@[simp] theorem Dev.setCell_kindle (s : Nat) (c : CellX) : (d.setCell s c).kindle = d.kindle := rfl
@[simp] theorem Dev.setCell_jtag (s : Nat) (c : CellX) : (d.setCell s c).jtag = d.jtag := rfl
@[simp] theorem Dev.setCell_frame (s : Nat) (c : CellX) : (d.setCell s c).frame = d.frame := rfl
@[simp] theorem Dev.setCell_time (s : Nat) (c : CellX) : (d.setCell s c).time = d.time := rfl
@[simp] theorem Dev.setCell_link (s : Nat) (c : CellX) : (d.setCell s c).link = d.link := rfl
@[simp] theorem Dev.setCell_lanes (s : Nat) (c : CellX) : (d.setCell s c).lanes = d.lanes := rfl
@[simp] theorem Dev.setCell_arms (s : Nat) (c : CellX) : (d.setCell s c).arms = d.arms := rfl
@[simp] theorem Dev.setCell_legSum (s : Nat) (c : CellX) : (d.setCell s c).legSum = d.legSum := rfl
@[simp] theorem Dev.setCell_spare (s : Nat) (c : CellX) : (d.setCell s c).spare = d.spare := rfl
@[simp] theorem Dev.setCell_damper (s : Nat) (c : CellX) : (d.setCell s c).damper = d.damper := rfl
@[simp] theorem Dev.setCell_acq (s : Nat) (c : CellX) : (d.setCell s c).acq = d.acq := rfl
@[simp] theorem Dev.setCell_meas (s : Nat) (c : CellX) : (d.setCell s c).meas = d.meas := rfl
@[simp] theorem Dev.setCell_kiln (s : Nat) (c : CellX) : (d.setCell s c).kiln = d.kiln := rfl
@[simp] theorem Dev.setCell_pwm (s : Nat) (c : CellX) : (d.setCell s c).pwm = d.pwm := rfl
@[simp] theorem Dev.setCell_maint (s : Nat) (c : CellX) : (d.setCell s c).maint = d.maint := rfl
@[simp] theorem Dev.setCell_twin (s : Nat) (c : CellX) : (d.setCell s c).twin = d.twin := rfl
@[simp] theorem Dev.setCell_get (s : Nat) (c : CellX) (key : Nat) : (d.setCell s c).get key = d.get key := rfl

@[simp] theorem Dev.setLane_now (a : Nat) (l : LaneX) : (d.setLane a l).now = d.now := rfl
@[simp] theorem Dev.setLane_ttZero (a : Nat) (l : LaneX) : (d.setLane a l).ttZero = d.ttZero := rfl
@[simp] theorem Dev.setLane_regs (a : Nat) (l : LaneX) : (d.setLane a l).regs = d.regs := rfl
@[simp] theorem Dev.setLane_rt (a : Nat) (l : LaneX) : (d.setLane a l).rt = d.rt := rfl
@[simp] theorem Dev.setLane_shadow (a : Nat) (l : LaneX) : (d.setLane a l).shadow = d.shadow := rfl
@[simp] theorem Dev.setLane_lastApply (a : Nat) (l : LaneX) : (d.setLane a l).lastApply = d.lastApply := rfl
@[simp] theorem Dev.setLane_refused (a : Nat) (l : LaneX) : (d.setLane a l).refused = d.refused := rfl
@[simp] theorem Dev.setLane_hist (a : Nat) (l : LaneX) : (d.setLane a l).hist = d.hist := rfl
@[simp] theorem Dev.setLane_status (a : Nat) (l : LaneX) : (d.setLane a l).status = d.status := rfl
@[simp] theorem Dev.setLane_data (a : Nat) (l : LaneX) : (d.setLane a l).data = d.data := rfl
@[simp] theorem Dev.setLane_freeCtr (a : Nat) (l : LaneX) : (d.setLane a l).freeCtr = d.freeCtr := rfl
@[simp] theorem Dev.setLane_out (a : Nat) (l : LaneX) : (d.setLane a l).out = d.out := rfl
@[simp] theorem Dev.setLane_memQ (a : Nat) (l : LaneX) : (d.setLane a l).memQ = d.memQ := rfl
@[simp] theorem Dev.setLane_net (a : Nat) (l : LaneX) : (d.setLane a l).net = d.net := rfl
@[simp] theorem Dev.setLane_kindle (a : Nat) (l : LaneX) : (d.setLane a l).kindle = d.kindle := rfl
@[simp] theorem Dev.setLane_jtag (a : Nat) (l : LaneX) : (d.setLane a l).jtag = d.jtag := rfl
@[simp] theorem Dev.setLane_frame (a : Nat) (l : LaneX) : (d.setLane a l).frame = d.frame := rfl
@[simp] theorem Dev.setLane_time (a : Nat) (l : LaneX) : (d.setLane a l).time = d.time := rfl
@[simp] theorem Dev.setLane_link (a : Nat) (l : LaneX) : (d.setLane a l).link = d.link := rfl
@[simp] theorem Dev.setLane_cells (a : Nat) (l : LaneX) : (d.setLane a l).cells = d.cells := rfl
@[simp] theorem Dev.setLane_arms (a : Nat) (l : LaneX) : (d.setLane a l).arms = d.arms := rfl
@[simp] theorem Dev.setLane_legSum (a : Nat) (l : LaneX) : (d.setLane a l).legSum = d.legSum := rfl
@[simp] theorem Dev.setLane_spare (a : Nat) (l : LaneX) : (d.setLane a l).spare = d.spare := rfl
@[simp] theorem Dev.setLane_damper (a : Nat) (l : LaneX) : (d.setLane a l).damper = d.damper := rfl
@[simp] theorem Dev.setLane_acq (a : Nat) (l : LaneX) : (d.setLane a l).acq = d.acq := rfl
@[simp] theorem Dev.setLane_meas (a : Nat) (l : LaneX) : (d.setLane a l).meas = d.meas := rfl
@[simp] theorem Dev.setLane_kiln (a : Nat) (l : LaneX) : (d.setLane a l).kiln = d.kiln := rfl
@[simp] theorem Dev.setLane_pwm (a : Nat) (l : LaneX) : (d.setLane a l).pwm = d.pwm := rfl
@[simp] theorem Dev.setLane_maint (a : Nat) (l : LaneX) : (d.setLane a l).maint = d.maint := rfl
@[simp] theorem Dev.setLane_twin (a : Nat) (l : LaneX) : (d.setLane a l).twin = d.twin := rfl
@[simp] theorem Dev.setLane_get (a : Nat) (l : LaneX) (key : Nat) : (d.setLane a l).get key = d.get key := rfl

@[simp] theorem Dev.setArm_now (a : Nat) (x : ArmX) : (d.setArm a x).now = d.now := rfl
@[simp] theorem Dev.setArm_ttZero (a : Nat) (x : ArmX) : (d.setArm a x).ttZero = d.ttZero := rfl
@[simp] theorem Dev.setArm_regs (a : Nat) (x : ArmX) : (d.setArm a x).regs = d.regs := rfl
@[simp] theorem Dev.setArm_rt (a : Nat) (x : ArmX) : (d.setArm a x).rt = d.rt := rfl
@[simp] theorem Dev.setArm_shadow (a : Nat) (x : ArmX) : (d.setArm a x).shadow = d.shadow := rfl
@[simp] theorem Dev.setArm_lastApply (a : Nat) (x : ArmX) : (d.setArm a x).lastApply = d.lastApply := rfl
@[simp] theorem Dev.setArm_refused (a : Nat) (x : ArmX) : (d.setArm a x).refused = d.refused := rfl
@[simp] theorem Dev.setArm_hist (a : Nat) (x : ArmX) : (d.setArm a x).hist = d.hist := rfl
@[simp] theorem Dev.setArm_status (a : Nat) (x : ArmX) : (d.setArm a x).status = d.status := rfl
@[simp] theorem Dev.setArm_data (a : Nat) (x : ArmX) : (d.setArm a x).data = d.data := rfl
@[simp] theorem Dev.setArm_freeCtr (a : Nat) (x : ArmX) : (d.setArm a x).freeCtr = d.freeCtr := rfl
@[simp] theorem Dev.setArm_out (a : Nat) (x : ArmX) : (d.setArm a x).out = d.out := rfl
@[simp] theorem Dev.setArm_memQ (a : Nat) (x : ArmX) : (d.setArm a x).memQ = d.memQ := rfl
@[simp] theorem Dev.setArm_net (a : Nat) (x : ArmX) : (d.setArm a x).net = d.net := rfl
@[simp] theorem Dev.setArm_kindle (a : Nat) (x : ArmX) : (d.setArm a x).kindle = d.kindle := rfl
@[simp] theorem Dev.setArm_jtag (a : Nat) (x : ArmX) : (d.setArm a x).jtag = d.jtag := rfl
@[simp] theorem Dev.setArm_frame (a : Nat) (x : ArmX) : (d.setArm a x).frame = d.frame := rfl
@[simp] theorem Dev.setArm_time (a : Nat) (x : ArmX) : (d.setArm a x).time = d.time := rfl
@[simp] theorem Dev.setArm_link (a : Nat) (x : ArmX) : (d.setArm a x).link = d.link := rfl
@[simp] theorem Dev.setArm_cells (a : Nat) (x : ArmX) : (d.setArm a x).cells = d.cells := rfl
@[simp] theorem Dev.setArm_lanes (a : Nat) (x : ArmX) : (d.setArm a x).lanes = d.lanes := rfl
@[simp] theorem Dev.setArm_legSum (a : Nat) (x : ArmX) : (d.setArm a x).legSum = d.legSum := rfl
@[simp] theorem Dev.setArm_spare (a : Nat) (x : ArmX) : (d.setArm a x).spare = d.spare := rfl
@[simp] theorem Dev.setArm_damper (a : Nat) (x : ArmX) : (d.setArm a x).damper = d.damper := rfl
@[simp] theorem Dev.setArm_acq (a : Nat) (x : ArmX) : (d.setArm a x).acq = d.acq := rfl
@[simp] theorem Dev.setArm_meas (a : Nat) (x : ArmX) : (d.setArm a x).meas = d.meas := rfl
@[simp] theorem Dev.setArm_kiln (a : Nat) (x : ArmX) : (d.setArm a x).kiln = d.kiln := rfl
@[simp] theorem Dev.setArm_pwm (a : Nat) (x : ArmX) : (d.setArm a x).pwm = d.pwm := rfl
@[simp] theorem Dev.setArm_maint (a : Nat) (x : ArmX) : (d.setArm a x).maint = d.maint := rfl
@[simp] theorem Dev.setArm_twin (a : Nat) (x : ArmX) : (d.setArm a x).twin = d.twin := rfl
@[simp] theorem Dev.setArm_get (a : Nat) (x : ArmX) (key : Nat) : (d.setArm a x).get key = d.get key := rfl

@[simp] theorem Dev.setPort_now (p : Nat) (x : PortX) : (d.setPort p x).now = d.now := rfl
@[simp] theorem Dev.setPort_ttZero (p : Nat) (x : PortX) : (d.setPort p x).ttZero = d.ttZero := rfl
@[simp] theorem Dev.setPort_regs (p : Nat) (x : PortX) : (d.setPort p x).regs = d.regs := rfl
@[simp] theorem Dev.setPort_rt (p : Nat) (x : PortX) : (d.setPort p x).rt = d.rt := rfl
@[simp] theorem Dev.setPort_shadow (p : Nat) (x : PortX) : (d.setPort p x).shadow = d.shadow := rfl
@[simp] theorem Dev.setPort_lastApply (p : Nat) (x : PortX) : (d.setPort p x).lastApply = d.lastApply := rfl
@[simp] theorem Dev.setPort_refused (p : Nat) (x : PortX) : (d.setPort p x).refused = d.refused := rfl
@[simp] theorem Dev.setPort_hist (p : Nat) (x : PortX) : (d.setPort p x).hist = d.hist := rfl
@[simp] theorem Dev.setPort_status (p : Nat) (x : PortX) : (d.setPort p x).status = d.status := rfl
@[simp] theorem Dev.setPort_data (p : Nat) (x : PortX) : (d.setPort p x).data = d.data := rfl
@[simp] theorem Dev.setPort_freeCtr (p : Nat) (x : PortX) : (d.setPort p x).freeCtr = d.freeCtr := rfl
@[simp] theorem Dev.setPort_out (p : Nat) (x : PortX) : (d.setPort p x).out = d.out := rfl
@[simp] theorem Dev.setPort_memQ (p : Nat) (x : PortX) : (d.setPort p x).memQ = d.memQ := rfl
@[simp] theorem Dev.setPort_net (p : Nat) (x : PortX) : (d.setPort p x).net = d.net := rfl
@[simp] theorem Dev.setPort_kindle (p : Nat) (x : PortX) : (d.setPort p x).kindle = d.kindle := rfl
@[simp] theorem Dev.setPort_jtag (p : Nat) (x : PortX) : (d.setPort p x).jtag = d.jtag := rfl
@[simp] theorem Dev.setPort_frame (p : Nat) (x : PortX) : (d.setPort p x).frame = d.frame := rfl
@[simp] theorem Dev.setPort_time (p : Nat) (x : PortX) : (d.setPort p x).time = d.time := rfl
@[simp] theorem Dev.setPort_cells (p : Nat) (x : PortX) : (d.setPort p x).cells = d.cells := rfl
@[simp] theorem Dev.setPort_lanes (p : Nat) (x : PortX) : (d.setPort p x).lanes = d.lanes := rfl
@[simp] theorem Dev.setPort_arms (p : Nat) (x : PortX) : (d.setPort p x).arms = d.arms := rfl
@[simp] theorem Dev.setPort_legSum (p : Nat) (x : PortX) : (d.setPort p x).legSum = d.legSum := rfl
@[simp] theorem Dev.setPort_spare (p : Nat) (x : PortX) : (d.setPort p x).spare = d.spare := rfl
@[simp] theorem Dev.setPort_damper (p : Nat) (x : PortX) : (d.setPort p x).damper = d.damper := rfl
@[simp] theorem Dev.setPort_acq (p : Nat) (x : PortX) : (d.setPort p x).acq = d.acq := rfl
@[simp] theorem Dev.setPort_meas (p : Nat) (x : PortX) : (d.setPort p x).meas = d.meas := rfl
@[simp] theorem Dev.setPort_kiln (p : Nat) (x : PortX) : (d.setPort p x).kiln = d.kiln := rfl
@[simp] theorem Dev.setPort_pwm (p : Nat) (x : PortX) : (d.setPort p x).pwm = d.pwm := rfl
@[simp] theorem Dev.setPort_maint (p : Nat) (x : PortX) : (d.setPort p x).maint = d.maint := rfl
@[simp] theorem Dev.setPort_twin (p : Nat) (x : PortX) : (d.setPort p x).twin = d.twin := rfl
@[simp] theorem Dev.setPort_get (p : Nat) (x : PortX) (key : Nat) : (d.setPort p x).get key = d.get key := rfl

@[simp] theorem Dev.setGau_now (g : Nat) (x : GauX) : (d.setGau g x).now = d.now := rfl
@[simp] theorem Dev.setGau_ttZero (g : Nat) (x : GauX) : (d.setGau g x).ttZero = d.ttZero := rfl
@[simp] theorem Dev.setGau_regs (g : Nat) (x : GauX) : (d.setGau g x).regs = d.regs := rfl
@[simp] theorem Dev.setGau_rt (g : Nat) (x : GauX) : (d.setGau g x).rt = d.rt := rfl
@[simp] theorem Dev.setGau_shadow (g : Nat) (x : GauX) : (d.setGau g x).shadow = d.shadow := rfl
@[simp] theorem Dev.setGau_lastApply (g : Nat) (x : GauX) : (d.setGau g x).lastApply = d.lastApply := rfl
@[simp] theorem Dev.setGau_refused (g : Nat) (x : GauX) : (d.setGau g x).refused = d.refused := rfl
@[simp] theorem Dev.setGau_hist (g : Nat) (x : GauX) : (d.setGau g x).hist = d.hist := rfl
@[simp] theorem Dev.setGau_status (g : Nat) (x : GauX) : (d.setGau g x).status = d.status := rfl
@[simp] theorem Dev.setGau_data (g : Nat) (x : GauX) : (d.setGau g x).data = d.data := rfl
@[simp] theorem Dev.setGau_freeCtr (g : Nat) (x : GauX) : (d.setGau g x).freeCtr = d.freeCtr := rfl
@[simp] theorem Dev.setGau_out (g : Nat) (x : GauX) : (d.setGau g x).out = d.out := rfl
@[simp] theorem Dev.setGau_memQ (g : Nat) (x : GauX) : (d.setGau g x).memQ = d.memQ := rfl
@[simp] theorem Dev.setGau_net (g : Nat) (x : GauX) : (d.setGau g x).net = d.net := rfl
@[simp] theorem Dev.setGau_kindle (g : Nat) (x : GauX) : (d.setGau g x).kindle = d.kindle := rfl
@[simp] theorem Dev.setGau_jtag (g : Nat) (x : GauX) : (d.setGau g x).jtag = d.jtag := rfl
@[simp] theorem Dev.setGau_frame (g : Nat) (x : GauX) : (d.setGau g x).frame = d.frame := rfl
@[simp] theorem Dev.setGau_time (g : Nat) (x : GauX) : (d.setGau g x).time = d.time := rfl
@[simp] theorem Dev.setGau_link (g : Nat) (x : GauX) : (d.setGau g x).link = d.link := rfl
@[simp] theorem Dev.setGau_cells (g : Nat) (x : GauX) : (d.setGau g x).cells = d.cells := rfl
@[simp] theorem Dev.setGau_lanes (g : Nat) (x : GauX) : (d.setGau g x).lanes = d.lanes := rfl
@[simp] theorem Dev.setGau_arms (g : Nat) (x : GauX) : (d.setGau g x).arms = d.arms := rfl
@[simp] theorem Dev.setGau_legSum (g : Nat) (x : GauX) : (d.setGau g x).legSum = d.legSum := rfl
@[simp] theorem Dev.setGau_spare (g : Nat) (x : GauX) : (d.setGau g x).spare = d.spare := rfl
@[simp] theorem Dev.setGau_damper (g : Nat) (x : GauX) : (d.setGau g x).damper = d.damper := rfl
@[simp] theorem Dev.setGau_acq (g : Nat) (x : GauX) : (d.setGau g x).acq = d.acq := rfl
@[simp] theorem Dev.setGau_kiln (g : Nat) (x : GauX) : (d.setGau g x).kiln = d.kiln := rfl
@[simp] theorem Dev.setGau_pwm (g : Nat) (x : GauX) : (d.setGau g x).pwm = d.pwm := rfl
@[simp] theorem Dev.setGau_maint (g : Nat) (x : GauX) : (d.setGau g x).maint = d.maint := rfl
@[simp] theorem Dev.setGau_twin (g : Nat) (x : GauX) : (d.setGau g x).twin = d.twin := rfl
@[simp] theorem Dev.setGau_get (g : Nat) (x : GauX) (key : Nat) : (d.setGau g x).get key = d.get key := rfl

@[simp] theorem Dev.setCv_now (k : Nat) (x : CvX) : (d.setCv k x).now = d.now := rfl
@[simp] theorem Dev.setCv_ttZero (k : Nat) (x : CvX) : (d.setCv k x).ttZero = d.ttZero := rfl
@[simp] theorem Dev.setCv_regs (k : Nat) (x : CvX) : (d.setCv k x).regs = d.regs := rfl
@[simp] theorem Dev.setCv_rt (k : Nat) (x : CvX) : (d.setCv k x).rt = d.rt := rfl
@[simp] theorem Dev.setCv_shadow (k : Nat) (x : CvX) : (d.setCv k x).shadow = d.shadow := rfl
@[simp] theorem Dev.setCv_lastApply (k : Nat) (x : CvX) : (d.setCv k x).lastApply = d.lastApply := rfl
@[simp] theorem Dev.setCv_refused (k : Nat) (x : CvX) : (d.setCv k x).refused = d.refused := rfl
@[simp] theorem Dev.setCv_hist (k : Nat) (x : CvX) : (d.setCv k x).hist = d.hist := rfl
@[simp] theorem Dev.setCv_status (k : Nat) (x : CvX) : (d.setCv k x).status = d.status := rfl
@[simp] theorem Dev.setCv_data (k : Nat) (x : CvX) : (d.setCv k x).data = d.data := rfl
@[simp] theorem Dev.setCv_freeCtr (k : Nat) (x : CvX) : (d.setCv k x).freeCtr = d.freeCtr := rfl
@[simp] theorem Dev.setCv_out (k : Nat) (x : CvX) : (d.setCv k x).out = d.out := rfl
@[simp] theorem Dev.setCv_memQ (k : Nat) (x : CvX) : (d.setCv k x).memQ = d.memQ := rfl
@[simp] theorem Dev.setCv_net (k : Nat) (x : CvX) : (d.setCv k x).net = d.net := rfl
@[simp] theorem Dev.setCv_kindle (k : Nat) (x : CvX) : (d.setCv k x).kindle = d.kindle := rfl
@[simp] theorem Dev.setCv_jtag (k : Nat) (x : CvX) : (d.setCv k x).jtag = d.jtag := rfl
@[simp] theorem Dev.setCv_frame (k : Nat) (x : CvX) : (d.setCv k x).frame = d.frame := rfl
@[simp] theorem Dev.setCv_time (k : Nat) (x : CvX) : (d.setCv k x).time = d.time := rfl
@[simp] theorem Dev.setCv_link (k : Nat) (x : CvX) : (d.setCv k x).link = d.link := rfl
@[simp] theorem Dev.setCv_cells (k : Nat) (x : CvX) : (d.setCv k x).cells = d.cells := rfl
@[simp] theorem Dev.setCv_lanes (k : Nat) (x : CvX) : (d.setCv k x).lanes = d.lanes := rfl
@[simp] theorem Dev.setCv_arms (k : Nat) (x : CvX) : (d.setCv k x).arms = d.arms := rfl
@[simp] theorem Dev.setCv_legSum (k : Nat) (x : CvX) : (d.setCv k x).legSum = d.legSum := rfl
@[simp] theorem Dev.setCv_spare (k : Nat) (x : CvX) : (d.setCv k x).spare = d.spare := rfl
@[simp] theorem Dev.setCv_damper (k : Nat) (x : CvX) : (d.setCv k x).damper = d.damper := rfl
@[simp] theorem Dev.setCv_acq (k : Nat) (x : CvX) : (d.setCv k x).acq = d.acq := rfl
@[simp] theorem Dev.setCv_kiln (k : Nat) (x : CvX) : (d.setCv k x).kiln = d.kiln := rfl
@[simp] theorem Dev.setCv_pwm (k : Nat) (x : CvX) : (d.setCv k x).pwm = d.pwm := rfl
@[simp] theorem Dev.setCv_maint (k : Nat) (x : CvX) : (d.setCv k x).maint = d.maint := rfl
@[simp] theorem Dev.setCv_twin (k : Nat) (x : CvX) : (d.setCv k x).twin = d.twin := rfl
@[simp] theorem Dev.setCv_get (k : Nat) (x : CvX) (key : Nat) : (d.setCv k x).get key = d.get key := rfl

@[simp] theorem Dev.setKiln_now (x : KilnX) : (d.setKiln x).now = d.now := rfl
@[simp] theorem Dev.setKiln_ttZero (x : KilnX) : (d.setKiln x).ttZero = d.ttZero := rfl
@[simp] theorem Dev.setKiln_regs (x : KilnX) : (d.setKiln x).regs = d.regs := rfl
@[simp] theorem Dev.setKiln_rt (x : KilnX) : (d.setKiln x).rt = d.rt := rfl
@[simp] theorem Dev.setKiln_shadow (x : KilnX) : (d.setKiln x).shadow = d.shadow := rfl
@[simp] theorem Dev.setKiln_lastApply (x : KilnX) : (d.setKiln x).lastApply = d.lastApply := rfl
@[simp] theorem Dev.setKiln_refused (x : KilnX) : (d.setKiln x).refused = d.refused := rfl
@[simp] theorem Dev.setKiln_hist (x : KilnX) : (d.setKiln x).hist = d.hist := rfl
@[simp] theorem Dev.setKiln_status (x : KilnX) : (d.setKiln x).status = d.status := rfl
@[simp] theorem Dev.setKiln_data (x : KilnX) : (d.setKiln x).data = d.data := rfl
@[simp] theorem Dev.setKiln_freeCtr (x : KilnX) : (d.setKiln x).freeCtr = d.freeCtr := rfl
@[simp] theorem Dev.setKiln_out (x : KilnX) : (d.setKiln x).out = d.out := rfl
@[simp] theorem Dev.setKiln_memQ (x : KilnX) : (d.setKiln x).memQ = d.memQ := rfl
@[simp] theorem Dev.setKiln_net (x : KilnX) : (d.setKiln x).net = d.net := rfl
@[simp] theorem Dev.setKiln_kindle (x : KilnX) : (d.setKiln x).kindle = d.kindle := rfl
@[simp] theorem Dev.setKiln_jtag (x : KilnX) : (d.setKiln x).jtag = d.jtag := rfl
@[simp] theorem Dev.setKiln_frame (x : KilnX) : (d.setKiln x).frame = d.frame := rfl
@[simp] theorem Dev.setKiln_time (x : KilnX) : (d.setKiln x).time = d.time := rfl
@[simp] theorem Dev.setKiln_link (x : KilnX) : (d.setKiln x).link = d.link := rfl
@[simp] theorem Dev.setKiln_cells (x : KilnX) : (d.setKiln x).cells = d.cells := rfl
@[simp] theorem Dev.setKiln_lanes (x : KilnX) : (d.setKiln x).lanes = d.lanes := rfl
@[simp] theorem Dev.setKiln_arms (x : KilnX) : (d.setKiln x).arms = d.arms := rfl
@[simp] theorem Dev.setKiln_legSum (x : KilnX) : (d.setKiln x).legSum = d.legSum := rfl
@[simp] theorem Dev.setKiln_spare (x : KilnX) : (d.setKiln x).spare = d.spare := rfl
@[simp] theorem Dev.setKiln_damper (x : KilnX) : (d.setKiln x).damper = d.damper := rfl
@[simp] theorem Dev.setKiln_acq (x : KilnX) : (d.setKiln x).acq = d.acq := rfl
@[simp] theorem Dev.setKiln_meas (x : KilnX) : (d.setKiln x).meas = d.meas := rfl
@[simp] theorem Dev.setKiln_pwm (x : KilnX) : (d.setKiln x).pwm = d.pwm := rfl
@[simp] theorem Dev.setKiln_maint (x : KilnX) : (d.setKiln x).maint = d.maint := rfl
@[simp] theorem Dev.setKiln_twin (x : KilnX) : (d.setKiln x).twin = d.twin := rfl
@[simp] theorem Dev.setKiln_get (x : KilnX) (key : Nat) : (d.setKiln x).get key = d.get key := rfl

@[simp] theorem Dev.setPw_now (n : Nat) (x : PwmX) : (d.setPw n x).now = d.now := rfl
@[simp] theorem Dev.setPw_ttZero (n : Nat) (x : PwmX) : (d.setPw n x).ttZero = d.ttZero := rfl
@[simp] theorem Dev.setPw_regs (n : Nat) (x : PwmX) : (d.setPw n x).regs = d.regs := rfl
@[simp] theorem Dev.setPw_rt (n : Nat) (x : PwmX) : (d.setPw n x).rt = d.rt := rfl
@[simp] theorem Dev.setPw_shadow (n : Nat) (x : PwmX) : (d.setPw n x).shadow = d.shadow := rfl
@[simp] theorem Dev.setPw_lastApply (n : Nat) (x : PwmX) : (d.setPw n x).lastApply = d.lastApply := rfl
@[simp] theorem Dev.setPw_refused (n : Nat) (x : PwmX) : (d.setPw n x).refused = d.refused := rfl
@[simp] theorem Dev.setPw_hist (n : Nat) (x : PwmX) : (d.setPw n x).hist = d.hist := rfl
@[simp] theorem Dev.setPw_status (n : Nat) (x : PwmX) : (d.setPw n x).status = d.status := rfl
@[simp] theorem Dev.setPw_data (n : Nat) (x : PwmX) : (d.setPw n x).data = d.data := rfl
@[simp] theorem Dev.setPw_freeCtr (n : Nat) (x : PwmX) : (d.setPw n x).freeCtr = d.freeCtr := rfl
@[simp] theorem Dev.setPw_out (n : Nat) (x : PwmX) : (d.setPw n x).out = d.out := rfl
@[simp] theorem Dev.setPw_memQ (n : Nat) (x : PwmX) : (d.setPw n x).memQ = d.memQ := rfl
@[simp] theorem Dev.setPw_net (n : Nat) (x : PwmX) : (d.setPw n x).net = d.net := rfl
@[simp] theorem Dev.setPw_kindle (n : Nat) (x : PwmX) : (d.setPw n x).kindle = d.kindle := rfl
@[simp] theorem Dev.setPw_jtag (n : Nat) (x : PwmX) : (d.setPw n x).jtag = d.jtag := rfl
@[simp] theorem Dev.setPw_frame (n : Nat) (x : PwmX) : (d.setPw n x).frame = d.frame := rfl
@[simp] theorem Dev.setPw_time (n : Nat) (x : PwmX) : (d.setPw n x).time = d.time := rfl
@[simp] theorem Dev.setPw_link (n : Nat) (x : PwmX) : (d.setPw n x).link = d.link := rfl
@[simp] theorem Dev.setPw_cells (n : Nat) (x : PwmX) : (d.setPw n x).cells = d.cells := rfl
@[simp] theorem Dev.setPw_lanes (n : Nat) (x : PwmX) : (d.setPw n x).lanes = d.lanes := rfl
@[simp] theorem Dev.setPw_arms (n : Nat) (x : PwmX) : (d.setPw n x).arms = d.arms := rfl
@[simp] theorem Dev.setPw_legSum (n : Nat) (x : PwmX) : (d.setPw n x).legSum = d.legSum := rfl
@[simp] theorem Dev.setPw_spare (n : Nat) (x : PwmX) : (d.setPw n x).spare = d.spare := rfl
@[simp] theorem Dev.setPw_damper (n : Nat) (x : PwmX) : (d.setPw n x).damper = d.damper := rfl
@[simp] theorem Dev.setPw_acq (n : Nat) (x : PwmX) : (d.setPw n x).acq = d.acq := rfl
@[simp] theorem Dev.setPw_meas (n : Nat) (x : PwmX) : (d.setPw n x).meas = d.meas := rfl
@[simp] theorem Dev.setPw_kiln (n : Nat) (x : PwmX) : (d.setPw n x).kiln = d.kiln := rfl
@[simp] theorem Dev.setPw_maint (n : Nat) (x : PwmX) : (d.setPw n x).maint = d.maint := rfl
@[simp] theorem Dev.setPw_twin (n : Nat) (x : PwmX) : (d.setPw n x).twin = d.twin := rfl
@[simp] theorem Dev.setPw_get (n : Nat) (x : PwmX) (key : Nat) : (d.setPw n x).get key = d.get key := rfl

@[simp] theorem Dev.setPtpPort_now (n : Nat) (p : PtpPortX) : (d.setPtpPort n p).now = d.now := rfl
@[simp] theorem Dev.setPtpPort_ttZero (n : Nat) (p : PtpPortX) : (d.setPtpPort n p).ttZero = d.ttZero := rfl
@[simp] theorem Dev.setPtpPort_regs (n : Nat) (p : PtpPortX) : (d.setPtpPort n p).regs = d.regs := rfl
@[simp] theorem Dev.setPtpPort_rt (n : Nat) (p : PtpPortX) : (d.setPtpPort n p).rt = d.rt := rfl
@[simp] theorem Dev.setPtpPort_shadow (n : Nat) (p : PtpPortX) : (d.setPtpPort n p).shadow = d.shadow := rfl
@[simp] theorem Dev.setPtpPort_lastApply (n : Nat) (p : PtpPortX) : (d.setPtpPort n p).lastApply = d.lastApply := rfl
@[simp] theorem Dev.setPtpPort_refused (n : Nat) (p : PtpPortX) : (d.setPtpPort n p).refused = d.refused := rfl
@[simp] theorem Dev.setPtpPort_hist (n : Nat) (p : PtpPortX) : (d.setPtpPort n p).hist = d.hist := rfl
@[simp] theorem Dev.setPtpPort_status (n : Nat) (p : PtpPortX) : (d.setPtpPort n p).status = d.status := rfl
@[simp] theorem Dev.setPtpPort_data (n : Nat) (p : PtpPortX) : (d.setPtpPort n p).data = d.data := rfl
@[simp] theorem Dev.setPtpPort_freeCtr (n : Nat) (p : PtpPortX) : (d.setPtpPort n p).freeCtr = d.freeCtr := rfl
@[simp] theorem Dev.setPtpPort_out (n : Nat) (p : PtpPortX) : (d.setPtpPort n p).out = d.out := rfl
@[simp] theorem Dev.setPtpPort_memQ (n : Nat) (p : PtpPortX) : (d.setPtpPort n p).memQ = d.memQ := rfl
@[simp] theorem Dev.setPtpPort_net (n : Nat) (p : PtpPortX) : (d.setPtpPort n p).net = d.net := rfl
@[simp] theorem Dev.setPtpPort_kindle (n : Nat) (p : PtpPortX) : (d.setPtpPort n p).kindle = d.kindle := rfl
@[simp] theorem Dev.setPtpPort_jtag (n : Nat) (p : PtpPortX) : (d.setPtpPort n p).jtag = d.jtag := rfl
@[simp] theorem Dev.setPtpPort_frame (n : Nat) (p : PtpPortX) : (d.setPtpPort n p).frame = d.frame := rfl
@[simp] theorem Dev.setPtpPort_link (n : Nat) (p : PtpPortX) : (d.setPtpPort n p).link = d.link := rfl
@[simp] theorem Dev.setPtpPort_cells (n : Nat) (p : PtpPortX) : (d.setPtpPort n p).cells = d.cells := rfl
@[simp] theorem Dev.setPtpPort_lanes (n : Nat) (p : PtpPortX) : (d.setPtpPort n p).lanes = d.lanes := rfl
@[simp] theorem Dev.setPtpPort_arms (n : Nat) (p : PtpPortX) : (d.setPtpPort n p).arms = d.arms := rfl
@[simp] theorem Dev.setPtpPort_legSum (n : Nat) (p : PtpPortX) : (d.setPtpPort n p).legSum = d.legSum := rfl
@[simp] theorem Dev.setPtpPort_spare (n : Nat) (p : PtpPortX) : (d.setPtpPort n p).spare = d.spare := rfl
@[simp] theorem Dev.setPtpPort_damper (n : Nat) (p : PtpPortX) : (d.setPtpPort n p).damper = d.damper := rfl
@[simp] theorem Dev.setPtpPort_acq (n : Nat) (p : PtpPortX) : (d.setPtpPort n p).acq = d.acq := rfl
@[simp] theorem Dev.setPtpPort_meas (n : Nat) (p : PtpPortX) : (d.setPtpPort n p).meas = d.meas := rfl
@[simp] theorem Dev.setPtpPort_kiln (n : Nat) (p : PtpPortX) : (d.setPtpPort n p).kiln = d.kiln := rfl
@[simp] theorem Dev.setPtpPort_pwm (n : Nat) (p : PtpPortX) : (d.setPtpPort n p).pwm = d.pwm := rfl
@[simp] theorem Dev.setPtpPort_maint (n : Nat) (p : PtpPortX) : (d.setPtpPort n p).maint = d.maint := rfl
@[simp] theorem Dev.setPtpPort_twin (n : Nat) (p : PtpPortX) : (d.setPtpPort n p).twin = d.twin := rfl
@[simp] theorem Dev.setPtpPort_get (n : Nat) (p : PtpPortX) (key : Nat) : (d.setPtpPort n p).get key = d.get key := rfl

/-- A raise changes no status but that of the CLEAR it stands beside (spec R368). -/
theorem Dev.push_status (r : Raised) :
    (d.push r).status = if d.clearedAt r.src r.at_ then stSUPERSEDED else d.status := rfl

end Sys2Proof.Machine
end

