-- ==== Sys2Proof/Laws/Tab.lean ====
section
/-!
SUPPORT. Sparse tables: what is found after a put, a drop and a filter, and that the keys keep rising.
-/
namespace Sys2Proof.Machine

theorem Tab.find_put {α : Type} (t : Tab α) (a b : Nat) (v : α) :
    (t.put a v).find b = if b = a then some v else t.find b := by
  induction t with
  | nil => simp [Tab.put, Tab.find]
  | cons e t ih =>
    obtain ⟨k, w⟩ := e
    simp only [Tab.put]
    split
    · simp [Tab.find]
    · split
      · rename_i h; simp only [beq_iff_eq] at h; subst h; simp only [Tab.find, beq_iff_eq]; split <;> simp_all
      · rename_i h; simp only [beq_iff_eq] at h
        simp only [Tab.find, ih, beq_iff_eq]
        split <;> split <;> simp_all

@[simp] theorem Tab.find_put_self {α : Type} (t : Tab α) (a : Nat) (v : α) : (t.put a v).find a = some v := by
  simp [Tab.find_put]

theorem Tab.find_put_ne {α : Type} (t : Tab α) {a b : Nat} (v : α) (h : b ≠ a) : (t.put a v).find b = t.find b := by
  simp [Tab.find_put, h]

theorem Tab.get_put {α : Type} (t : Tab α) (a b : Nat) (v d : α) :
    (t.put a v).get b d = if b = a then v else t.get b d := by
  simp only [Tab.get, Tab.find_put]; split <;> rfl

@[simp] theorem Tab.get_put_self {α : Type} (t : Tab α) (a : Nat) (v d : α) : (t.put a v).get a d = v := by
  simp [Tab.get_put]

theorem Tab.get_put_ne {α : Type} (t : Tab α) {a b : Nat} (v d : α) (h : b ≠ a) : (t.put a v).get b d = t.get b d := by
  simp [Tab.get_put, h]

theorem Tab.find_filter {α : Type} (t : Tab α) (p : Nat × α → Bool) (b : Nat) (h : ∀ v, p (b, v) = true) :
    Tab.find (t.filter p) b = Tab.find t b := by
  induction t with
  | nil => rfl
  | cons e t ih =>
    obtain ⟨k, w⟩ := e
    simp only [List.filter_cons]
    split
    · simp only [Tab.find, ih]
    · rename_i hk
      simp only [Tab.find, ih, beq_iff_eq]
      split
      · rename_i hb; subst hb; exact absurd (h w) hk
      · rfl

theorem Tab.find_filter_none {α : Type} (t : Tab α) (p : Nat × α → Bool) (b : Nat) (h : ∀ v, p (b, v) = false) :
    Tab.find (t.filter p) b = none := by
  induction t with
  | nil => rfl
  | cons e t ih =>
    obtain ⟨k, w⟩ := e
    simp only [List.filter_cons]
    split
    · rename_i hk
      simp only [Tab.find, ih, beq_iff_eq]
      split
      · rename_i hb; subst hb; simp [h w] at hk
      · rfl
    · exact ih

theorem Tab.find_drop {α : Type} (t : Tab α) (a b : Nat) : (t.drop a).find b = if b = a then none else t.find b := by
  simp only [Tab.drop]
  split
  · rename_i h; subst h; exact Tab.find_filter_none t _ _ (by simp)
  · rename_i h; exact Tab.find_filter t _ _ (fun _ => by simpa using h)

@[simp] theorem Tab.find_drop_self {α : Type} (t : Tab α) (a : Nat) : (t.drop a).find a = none := by
  simp [Tab.find_drop]

@[simp] theorem Tab.find_nil {α : Type} (a : Nat) : Tab.find ([] : Tab α) a = none := rfl
@[simp] theorem Tab.get_nil {α : Type} (a : Nat) (d : α) : Tab.get ([] : Tab α) a d = d := rfl

end Sys2Proof.Machine
end

