-- ==== Sys2Proof/Laws/Ops.lean ====
section
/-!
SUPPORT. What the shared operations do and leave: sub-entries, leaves and summaries, raises, conditions, event counters.
-/
namespace Sys2Proof.Machine

/-! Bits. -/

theorem testBit_setBit (v b i : Nat) : (setBit v b).testBit i = (v.testBit i || decide (i = b)) := by
  simp only [setBit, Nat.testBit_or, Nat.one_shiftLeft, Nat.testBit_two_pow]
  congr 1; simp [eq_comm]

theorem testBit_clearBits (v m i : Nat) : (clearBits v m).testBit i = (v.testBit i && !m.testBit i) := by
  simp only [clearBits, Nat.testBit_xor, Nat.testBit_and]
  cases v.testBit i <;> cases m.testBit i <;> rfl

theorem testBit_one_shiftLeft (b i : Nat) : (1 <<< b).testBit i = decide (i = b) := by
  simp only [Nat.one_shiftLeft, Nat.testBit_two_pow]; simp [eq_comm]

theorem setBit_of_testBit {v b : Nat} (h : v.testBit b = true) : setBit v b = v := by
  apply Nat.eq_of_testBit_eq; intro i; rw [testBit_setBit]
  by_cases hi : i = b
  · subst hi; simp [h]
  · simp [hi]

theorem clearBits_of_testBit {v b : Nat} (h : v.testBit b = false) : clearBits v (1 <<< b) = v := by
  apply Nat.eq_of_testBit_eq; intro i; rw [testBit_clearBits, testBit_one_shiftLeft]
  by_cases hi : i = b
  · subst hi; simp [h]
  · simp [hi]

@[simp] theorem clearBits_zero (v : Nat) : clearBits v 0 = v := by simp [clearBits]

/-! Sub-entries. -/

theorem Dev.get_of_regs {d d' : Dev} (h : d'.regs = d.regs) (k : Nat) : d'.get k = d.get k := by simp [Dev.get, h]

theorem Dev.get_set (d : Dev) (a b : Nat) (v : Nat) : (d.set a v).get b = if b = a then v else d.get b := by
  simp only [Dev.get, Dev.set, Tab.find_put]; split <;> rfl

@[simp] theorem Dev.get_set_self (d : Dev) (a : Nat) (v : Nat) : (d.set a v).get a = v := by simp [Dev.get_set]

theorem Dev.get_set_ne (d : Dev) {a b : Nat} (v : Nat) (h : b ≠ a) : (d.set a v).get b = d.get b := by
  simp [Dev.get_set, h]

theorem Dev.get_setI (d : Dev) (a b : Nat) (w : Nat) (i : Int) :
    (d.setI a w i).get b = if b = a then ofSigned w i else d.get b := Dev.get_set ..

theorem Dev.get_setF (d : Dev) (a b : Nat) (x : F32) :
    (d.setF a x).get b = if b = a then x.toNat else d.get b := Dev.get_set ..

theorem Dev.get_count (d : Dev) (a b : Nat) (w n : Nat) :
    (d.count a w n).get b = if b = a then (d.get a + n) % 2 ^ w else d.get b := Dev.get_set ..

theorem Dev.get_ack (d : Dev) (a b : Nat) (e m g : Nat) :
    (d.ack a e m g).get b = if b = a then clearBits (d.get a) (clearBits (m &&& e) g) else d.get b := Dev.get_set ..

@[simp] theorem Dev.get_setF_self (d : Dev) (a : Nat) (x : F32) : (d.setF a x).get a = x.toNat := by simp [Dev.get_setF]
@[simp] theorem Dev.getF_setF_self (d : Dev) (a : Nat) (x : F32) : (d.setF a x).getF a = x := by
  simp [Dev.getF]

/-- A key that none of several settings names keeps its value. -/
theorem Dev.get_sets_ne (d : Dev) (l : List (Nat × Nat)) {b : Nat} (h : ∀ e ∈ l, b ≠ e.1) : (d.sets l).get b = d.get b := by
  induction l generalizing d with
  | nil => rfl
  | cons e l ih =>
    simp only [Dev.sets, List.foldl_cons]
    have := ih (d.set e.1 e.2) (fun x hx => h x (List.mem_cons_of_mem _ hx))
    simp only [Dev.sets] at this
    rw [this, Dev.get_set_ne _ _ (h e List.mem_cons_self)]

/-- Several settings change the sub-entries alone. -/
theorem Dev.sets_rest (d : Dev) (l : List (Nat × Nat)) : d.sets l = { d with regs := (d.sets l).regs } := by
  induction l generalizing d with
  | nil => rfl
  | cons e l ih =>
    have := ih (d.set e.1 e.2)
    simp only [Dev.sets, List.foldl_cons] at this ⊢
    rw [this]; rfl

theorem Dev.bit_def (d : Dev) (k : Nat) (b : Nat) : d.bit k b = (d.get k).testBit b := rfl

theorem Dev.bit_of_get {d d' : Dev} {k : Nat} (h : d'.get k = d.get k) (b : Nat) : d'.bit k b = d.bit k b := by
  simp [Dev.bit, h]

@[simp] theorem Dev.run_pending (s : State) (dt : Nat) (f : Memory → Dev → Dev) : (s.run dt f).pending = s.pending := rfl
@[simp] theorem Dev.run_now (s : State) (dt : Nat) (f : Memory → Dev → Dev) : (s.run dt f).dev.now = s.dev.now + dt := rfl
@[simp] theorem Dev.run_memQ (s : State) (dt : Nat) (f : Memory → Dev → Dev) : (s.run dt f).dev.memQ = [] := rfl

/-! Summaries and leaves (spec R43, R53–R55, R58). -/

/-- What a rising leaf changes: sub-entries and what NOTIFY holds. -/
theorem Dev.notify_rest (d : Dev) (u : Nat) : d.notify u = { d with net := (d.notify u).net } := rfl

theorem Dev.summary_rest (d : Dev) (u : Nat) :
    d.summary u = { d with regs := (d.summary u).regs, net := (d.summary u).net } := by
  simp only [Dev.summary]; split <;> rfl

theorem Dev.rise_rest (d : Dev) (k : Nat) (b u : Nat) :
    d.rise k b u = { d with regs := (d.rise k b u).regs, net := (d.rise k b u).net } := by
  simp only [Dev.rise]; split
  · rfl
  · rw [Dev.summary_rest]; rfl

theorem Dev.fall_rest (d : Dev) (k : Nat) (b : Nat) : d.fall k b = { d with regs := (d.fall k b).regs } := by
  simp only [Dev.fall]; split <;> rfl

theorem Dev.leaf_rest (d : Dev) (k : Nat) (b u : Nat) (v : Bool) :
    d.leaf k b u v = { d with regs := (d.leaf k b u v).regs, net := (d.leaf k b u v).net } := by
  cases v
  · show d.fall k b = { d with regs := (d.fall k b).regs, net := (d.fall k b).net }
    rw [Dev.fall_rest]
  · exact Dev.rise_rest d k b u

theorem Dev.get_notify (d : Dev) (u : Nat) (key : Nat) : (d.notify u).get key = d.get key := rfl

/-- A summary bit rises in 0x2004 and 0x1001 and nowhere else. -/
theorem Dev.get_summary_ne (d : Dev) (u : Nat) {key : Nat} (h1 : key ≠ Reg.UNITSUM.UNIT_SUMMARY)
    (h2 : key ≠ Reg.ERRSUM.ERROR_SUMMARY) : (d.summary u).get key = d.get key := by
  simp only [Dev.summary]; split
  · rfl
  · rw [Dev.get_notify, Dev.get_set_ne _ _ h2, Dev.get_set_ne _ _ h1]

theorem Dev.bit_summary (d : Dev) (u : Nat) : (d.summary u).bit Reg.UNITSUM.UNIT_SUMMARY u = true := by
  simp only [Dev.summary]; split
  · assumption
  · simp only [Dev.bit, Dev.get_notify]
    rw [Dev.get_set_ne _ _ (by decide), Dev.get_set_self, testBit_setBit]; simp

theorem Dev.get_rise (d : Dev) (k : Nat) (b u : Nat) {key : Nat} (h1 : key ≠ Reg.UNITSUM.UNIT_SUMMARY)
    (h2 : key ≠ Reg.ERRSUM.ERROR_SUMMARY) :
    (d.rise k b u).get key = if key = k then setBit (d.get k) b else d.get key := by
  simp only [Dev.rise]; split
  · rename_i h
    split
    · rename_i hk; subst hk; exact (setBit_of_testBit h).symm
    · rfl
  · rw [Dev.get_summary_ne _ _ h1 h2, Dev.get_set]

/-- A leaf's 0 to 1 edge rises into the bit of its unit in 0x2004. -/
theorem Dev.bit_rise_unit (d : Dev) (k : Nat) (b u : Nat) (h : d.bit k b = false) :
    (d.rise k b u).bit Reg.UNITSUM.UNIT_SUMMARY u = true := by
  simp only [Dev.rise, h]; exact Dev.bit_summary _ u

theorem Dev.get_fall (d : Dev) (k : Nat) (b : Nat) (key : Nat) :
    (d.fall k b).get key = if key = k then clearBits (d.get k) (1 <<< b) else d.get key := by
  simp only [Dev.fall]; split
  · rw [Dev.get_set]
  · rename_i h
    split
    · rename_i hk; subst hk; exact (clearBits_of_testBit (by simpa [Dev.bit] using h)).symm
    · rfl

/-! Raises (spec R358, R369). -/

theorem Dev.raiseArm_rest (d : Dev) (src arm aux : Nat) :
    d.raiseArm src arm aux =
      { d with damper := (d.raiseArm src arm aux).damper, status := (d.raiseArm src arm aux).status } := by
  simp only [Dev.raiseArm]; split
  · rfl
  · split <;> rfl

/-- Where the damper is powered, a raise waits for it behind those raised before, and supersedes a CLEAR of its instant. -/
theorem Dev.raiseArm_live (d : Dev) (src arm aux : Nat) (h : d.live = true) :
    d.raiseArm src arm aux =
      { d with
        status := if d.clearedAt src d.now then stSUPERSEDED else d.status
        damper := { d.damper with raised := d.damper.raised ++ [{ src := src, at_ := d.now, arm := arm, aux := aux }] } } := by
  have h1 : (d.ds == dsBANKED || d.ds == dsRESET) = false := by
    simp only [Dev.live, Dev.dsIn, List.contains_eq_mem] at h
    cases hb : (d.ds == dsBANKED || d.ds == dsRESET) with
    | false => rfl
    | true =>
      simp only [Bool.or_eq_true, beq_iff_eq] at hb
      rcases hb with hb | hb <;> rw [hb] at h <;> revert h <;> decide
  have h2 : (d.ds == dsKINDLING) = false := by
    cases hb : (d.ds == dsKINDLING) with
    | false => rfl
    | true =>
      simp only [beq_iff_eq] at hb
      simp only [Dev.live, Dev.dsIn] at h; rw [hb] at h; revert h; decide
  simp only [Dev.raiseArm, h1, h2, Bool.false_eq_true, if_false, Dev.push]

theorem Dev.raise_rest (d : Dev) (src aux : Nat) :
    d.raise src aux = { d with damper := (d.raise src aux).damper, status := (d.raise src aux).status } :=
  Dev.raiseArm_rest ..

theorem Dev.raise_live (d : Dev) (src aux : Nat) (h : d.live = true) :
    d.raise src aux =
      { d with
        status := if d.clearedAt src d.now then stSUPERSEDED else d.status
        damper := { d.damper with raised := d.damper.raised ++ [{ src := src, at_ := d.now, arm := 0xFF, aux := aux }] } } :=
  Dev.raiseArm_live d src 0xFF aux h

/-! Trigger conditions and event counters (spec R431, R438). -/

theorem Dev.condition_rest (d : Dev) (b tt : Nat) : d.condition b tt = { d with acq := (d.condition b tt).acq } := by
  simp only [Dev.condition]; split <;> rfl

theorem Dev.ecPut_rest (d : Dev) (n c : Nat) : d.ecPut n c = { d with regs := (d.ecPut n c).regs } := by
  simp only [Dev.ecPut]; split <;> rfl

theorem Dev.ecAdd_rest (d : Dev) (n k : Nat) : d.ecAdd n k = { d with regs := (d.ecAdd n k).regs } := by
  simp only [Dev.ecAdd]
  rw [Dev.ecPut_rest]; split <;> rfl

/-- A fold of updates that touch the sub-entries alone touches them alone. -/
theorem Dev.foldl_regs {α : Type} (f : Dev → α → Dev) (hf : ∀ d a, f d a = { d with regs := (f d a).regs })
    (l : List α) (d : Dev) : l.foldl f d = { d with regs := (l.foldl f d).regs } := by
  induction l generalizing d with
  | nil => rfl
  | cons a l ih => simp only [List.foldl_cons]; rw [ih (f d a), hf d a]

theorem Dev.events_rest (d : Dev) (src k : Nat) :
    d.events src k = { d with regs := (d.events src k).regs, acq := (d.events src k).acq } := by
  simp only [Dev.events]
  rw [Dev.foldl_regs]
  intro d n; split
  · exact Dev.ecAdd_rest d n k
  · rfl

theorem Dev.event_rest (d : Dev) (src : Nat) :
    d.event src = { d with regs := (d.event src).regs, acq := (d.event src).acq } := Dev.events_rest d src 1

theorem Dev.gatesMoved_rest (d b : Dev) : d.gatesMoved b = { d with regs := (d.gatesMoved b).regs } := by
  simp only [Dev.gatesMoved]
  rw [Dev.foldl_regs]
  intro d n
  split
  · rfl
  · split
    · exact Dev.ecAdd_rest d n _
    · exact Dev.ecPut_rest d n _

/-- The sub-entries that event counters change: COUNT and, in the tick of a snapshot, SNAP_VALUE of the counters, and OVF
(spec R439, R447). -/
def ecKey (k : Nat) : Bool :=
  k == Reg.EC.OVF || (List.range 32).any (fun n => k == Reg.ECN.COUNT n || k == Reg.ECN.SNAP_VALUE n)

theorem ecKey_false {k : Nat} (h : ecKey k = false) :
    k ≠ Reg.EC.OVF ∧ ∀ n < 32, k ≠ Reg.ECN.COUNT n ∧ k ≠ Reg.ECN.SNAP_VALUE n := by
  simp only [ecKey, Bool.or_eq_false_iff, beq_eq_false_iff_ne, List.any_eq_false, List.mem_range] at h
  exact ⟨h.1, fun n hn => by simpa using h.2 n hn⟩

theorem ecKey_lt {k : Nat} (h : k < Reg.EC.OVF) : ecKey k = false := by
  simp only [ecKey, Bool.or_eq_false_iff, beq_eq_false_iff_ne, List.any_eq_false, List.mem_range]
  refine ⟨Nat.ne_of_lt h, fun n hn => ?_⟩
  simp only [Reg.EC.OVF] at h
  simp only [Reg.ECN.COUNT, Reg.ECN.SNAP_VALUE, Bool.or_eq_true, beq_iff_eq]; omega

theorem ecKey_gt {k : Nat} (h : Reg.ECN.SNAP_VALUE 31 < k) : ecKey k = false := by
  simp only [ecKey, Bool.or_eq_false_iff, beq_eq_false_iff_ne, List.any_eq_false, List.mem_range]
  simp only [Reg.ECN.SNAP_VALUE] at h
  refine ⟨by simp only [Reg.EC.OVF]; omega, fun n hn => ?_⟩
  simp only [Reg.ECN.COUNT, Reg.ECN.SNAP_VALUE, Bool.or_eq_true, beq_iff_eq]; omega

theorem Dev.get_ecPut (d : Dev) {n : Nat} (c : Nat) {key : Nat} (h : ecKey key = false) (hn : n < 32) :
    (d.ecPut n c).get key = d.get key := by
  have h' := (ecKey_false h).2 n hn
  simp only [Dev.ecPut]; split
  · rw [Dev.get_set_ne _ _ h'.2, Dev.get_set_ne _ _ h'.1]
  · rw [Dev.get_set_ne _ _ h'.1]

theorem Dev.get_ecAdd (d : Dev) {n : Nat} (k : Nat) {key : Nat} (h : ecKey key = false) (hn : n < 32) :
    (d.ecAdd n k).get key = d.get key := by
  simp only [Dev.ecAdd]; split
  · rw [Dev.get_set_ne _ _ (ecKey_false h).1, Dev.get_ecPut _ _ h hn]
  · rw [Dev.get_ecPut _ _ h hn]

/-- A fold of updates that leave a sub-entry leaves it. -/
theorem Dev.foldl_get {α : Type} (f : Dev → α → Dev) (key : Nat) (l : List α)
    (hf : ∀ a ∈ l, ∀ d, (f d a).get key = d.get key) (d : Dev) : (l.foldl f d).get key = d.get key := by
  induction l generalizing d with
  | nil => rfl
  | cons a l ih =>
    simp only [List.foldl_cons]
    rw [ih (fun b hb => hf b (List.mem_cons_of_mem _ hb)), hf a List.mem_cons_self]

theorem Dev.get_events (d : Dev) (src k : Nat) {key : Nat} (h : ecKey key = false) : (d.events src k).get key = d.get key := by
  simp only [Dev.events]
  rw [Dev.foldl_get]
  · rfl
  · intro n hn d
    split
    · exact Dev.get_ecAdd d k h (List.mem_range.1 hn)
    · rfl

theorem Dev.get_event (d : Dev) (src : Nat) {key : Nat} (h : ecKey key = false) : (d.event src).get key = d.get key :=
  Dev.get_events d src 1 h

theorem Dev.get_gatesMoved (d b : Dev) {key : Nat} (h : ecKey key = false) : (d.gatesMoved b).get key = d.get key := by
  simp only [Dev.gatesMoved]
  rw [Dev.foldl_get]
  intro n hn d
  have hn := List.mem_range.1 hn
  split
  · rfl
  · split
    · exact Dev.get_ecAdd d _ h hn
    · exact Dev.get_ecPut _ _ h hn

/-- DEV_STATE changes. -/
theorem Dev.get_setState (d : Dev) (st : Nat) {key : Nat} (h : ecKey key = false) (h1 : key ≠ Reg.DEV.STATE)
    (h2 : key ≠ Reg.DEV.PREV_STATE) : (d.setState st).get key = d.get key := by
  simp only [Dev.setState]; split
  · rfl
  · rw [Dev.get_gatesMoved _ _ h, Dev.get_set_ne _ _ h1, Dev.get_set_ne _ _ h2]

theorem Dev.ds_setState (d : Dev) (st : Nat) : (d.setState st).ds = st := by
  simp only [Dev.setState]; split
  · rename_i h; simpa using h
  · simp only [Dev.ds]; rw [Dev.get_gatesMoved _ _ (key := Reg.DEV.STATE) (ecKey_lt (by decide))]; simp

theorem Dev.setState_rest (d : Dev) (st : Nat) : d.setState st = { d with regs := (d.setState st).regs } := by
  simp only [Dev.setState]; split
  · rfl
  · exact Dev.gatesMoved_rest _ _

/-! The fields that they leave. -/

variable (d : Dev)

@[simp] theorem Dev.rise_now (k : Nat) (b u : Nat) : (d.rise k b u).now = d.now := by rw [Dev.rise_rest]
@[simp] theorem Dev.rise_ttZero (k : Nat) (b u : Nat) : (d.rise k b u).ttZero = d.ttZero := by rw [Dev.rise_rest]
@[simp] theorem Dev.rise_shadow (k : Nat) (b u : Nat) : (d.rise k b u).shadow = d.shadow := by rw [Dev.rise_rest]
@[simp] theorem Dev.rise_rt (k : Nat) (b u : Nat) : (d.rise k b u).rt = d.rt := by rw [Dev.rise_rest]
@[simp] theorem Dev.rise_lastApply (k : Nat) (b u : Nat) : (d.rise k b u).lastApply = d.lastApply := by rw [Dev.rise_rest]
@[simp] theorem Dev.rise_refused (k : Nat) (b u : Nat) : (d.rise k b u).refused = d.refused := by rw [Dev.rise_rest]
@[simp] theorem Dev.rise_hist (k : Nat) (b u : Nat) : (d.rise k b u).hist = d.hist := by rw [Dev.rise_rest]
@[simp] theorem Dev.rise_status (k : Nat) (b u : Nat) : (d.rise k b u).status = d.status := by rw [Dev.rise_rest]
@[simp] theorem Dev.rise_data (k : Nat) (b u : Nat) : (d.rise k b u).data = d.data := by rw [Dev.rise_rest]
@[simp] theorem Dev.rise_freeCtr (k : Nat) (b u : Nat) : (d.rise k b u).freeCtr = d.freeCtr := by rw [Dev.rise_rest]
@[simp] theorem Dev.rise_out (k : Nat) (b u : Nat) : (d.rise k b u).out = d.out := by rw [Dev.rise_rest]
@[simp] theorem Dev.rise_memQ (k : Nat) (b u : Nat) : (d.rise k b u).memQ = d.memQ := by rw [Dev.rise_rest]
@[simp] theorem Dev.rise_kindle (k : Nat) (b u : Nat) : (d.rise k b u).kindle = d.kindle := by rw [Dev.rise_rest]
@[simp] theorem Dev.rise_jtag (k : Nat) (b u : Nat) : (d.rise k b u).jtag = d.jtag := by rw [Dev.rise_rest]
@[simp] theorem Dev.rise_frame (k : Nat) (b u : Nat) : (d.rise k b u).frame = d.frame := by rw [Dev.rise_rest]
@[simp] theorem Dev.rise_time (k : Nat) (b u : Nat) : (d.rise k b u).time = d.time := by rw [Dev.rise_rest]
@[simp] theorem Dev.rise_link (k : Nat) (b u : Nat) : (d.rise k b u).link = d.link := by rw [Dev.rise_rest]
@[simp] theorem Dev.rise_cells (k : Nat) (b u : Nat) : (d.rise k b u).cells = d.cells := by rw [Dev.rise_rest]
@[simp] theorem Dev.rise_lanes (k : Nat) (b u : Nat) : (d.rise k b u).lanes = d.lanes := by rw [Dev.rise_rest]
@[simp] theorem Dev.rise_arms (k : Nat) (b u : Nat) : (d.rise k b u).arms = d.arms := by rw [Dev.rise_rest]
@[simp] theorem Dev.rise_legSum (k : Nat) (b u : Nat) : (d.rise k b u).legSum = d.legSum := by rw [Dev.rise_rest]
@[simp] theorem Dev.rise_spare (k : Nat) (b u : Nat) : (d.rise k b u).spare = d.spare := by rw [Dev.rise_rest]
@[simp] theorem Dev.rise_damper (k : Nat) (b u : Nat) : (d.rise k b u).damper = d.damper := by rw [Dev.rise_rest]
@[simp] theorem Dev.rise_acq (k : Nat) (b u : Nat) : (d.rise k b u).acq = d.acq := by rw [Dev.rise_rest]
@[simp] theorem Dev.rise_meas (k : Nat) (b u : Nat) : (d.rise k b u).meas = d.meas := by rw [Dev.rise_rest]
@[simp] theorem Dev.rise_kiln (k : Nat) (b u : Nat) : (d.rise k b u).kiln = d.kiln := by rw [Dev.rise_rest]
@[simp] theorem Dev.rise_pwm (k : Nat) (b u : Nat) : (d.rise k b u).pwm = d.pwm := by rw [Dev.rise_rest]
@[simp] theorem Dev.rise_maint (k : Nat) (b u : Nat) : (d.rise k b u).maint = d.maint := by rw [Dev.rise_rest]
@[simp] theorem Dev.rise_twin (k : Nat) (b u : Nat) : (d.rise k b u).twin = d.twin := by rw [Dev.rise_rest]

@[simp] theorem Dev.fall_now (k : Nat) (b : Nat) : (d.fall k b).now = d.now := by rw [Dev.fall_rest]
@[simp] theorem Dev.fall_ttZero (k : Nat) (b : Nat) : (d.fall k b).ttZero = d.ttZero := by rw [Dev.fall_rest]
@[simp] theorem Dev.fall_shadow (k : Nat) (b : Nat) : (d.fall k b).shadow = d.shadow := by rw [Dev.fall_rest]
@[simp] theorem Dev.fall_rt (k : Nat) (b : Nat) : (d.fall k b).rt = d.rt := by rw [Dev.fall_rest]
@[simp] theorem Dev.fall_lastApply (k : Nat) (b : Nat) : (d.fall k b).lastApply = d.lastApply := by rw [Dev.fall_rest]
@[simp] theorem Dev.fall_refused (k : Nat) (b : Nat) : (d.fall k b).refused = d.refused := by rw [Dev.fall_rest]
@[simp] theorem Dev.fall_hist (k : Nat) (b : Nat) : (d.fall k b).hist = d.hist := by rw [Dev.fall_rest]
@[simp] theorem Dev.fall_status (k : Nat) (b : Nat) : (d.fall k b).status = d.status := by rw [Dev.fall_rest]
@[simp] theorem Dev.fall_data (k : Nat) (b : Nat) : (d.fall k b).data = d.data := by rw [Dev.fall_rest]
@[simp] theorem Dev.fall_freeCtr (k : Nat) (b : Nat) : (d.fall k b).freeCtr = d.freeCtr := by rw [Dev.fall_rest]
@[simp] theorem Dev.fall_out (k : Nat) (b : Nat) : (d.fall k b).out = d.out := by rw [Dev.fall_rest]
@[simp] theorem Dev.fall_memQ (k : Nat) (b : Nat) : (d.fall k b).memQ = d.memQ := by rw [Dev.fall_rest]
@[simp] theorem Dev.fall_net (k : Nat) (b : Nat) : (d.fall k b).net = d.net := by rw [Dev.fall_rest]
@[simp] theorem Dev.fall_kindle (k : Nat) (b : Nat) : (d.fall k b).kindle = d.kindle := by rw [Dev.fall_rest]
@[simp] theorem Dev.fall_jtag (k : Nat) (b : Nat) : (d.fall k b).jtag = d.jtag := by rw [Dev.fall_rest]
@[simp] theorem Dev.fall_frame (k : Nat) (b : Nat) : (d.fall k b).frame = d.frame := by rw [Dev.fall_rest]
@[simp] theorem Dev.fall_time (k : Nat) (b : Nat) : (d.fall k b).time = d.time := by rw [Dev.fall_rest]
@[simp] theorem Dev.fall_link (k : Nat) (b : Nat) : (d.fall k b).link = d.link := by rw [Dev.fall_rest]
@[simp] theorem Dev.fall_cells (k : Nat) (b : Nat) : (d.fall k b).cells = d.cells := by rw [Dev.fall_rest]
@[simp] theorem Dev.fall_lanes (k : Nat) (b : Nat) : (d.fall k b).lanes = d.lanes := by rw [Dev.fall_rest]
@[simp] theorem Dev.fall_arms (k : Nat) (b : Nat) : (d.fall k b).arms = d.arms := by rw [Dev.fall_rest]
@[simp] theorem Dev.fall_legSum (k : Nat) (b : Nat) : (d.fall k b).legSum = d.legSum := by rw [Dev.fall_rest]
@[simp] theorem Dev.fall_spare (k : Nat) (b : Nat) : (d.fall k b).spare = d.spare := by rw [Dev.fall_rest]
@[simp] theorem Dev.fall_damper (k : Nat) (b : Nat) : (d.fall k b).damper = d.damper := by rw [Dev.fall_rest]
@[simp] theorem Dev.fall_acq (k : Nat) (b : Nat) : (d.fall k b).acq = d.acq := by rw [Dev.fall_rest]
@[simp] theorem Dev.fall_meas (k : Nat) (b : Nat) : (d.fall k b).meas = d.meas := by rw [Dev.fall_rest]
@[simp] theorem Dev.fall_kiln (k : Nat) (b : Nat) : (d.fall k b).kiln = d.kiln := by rw [Dev.fall_rest]
@[simp] theorem Dev.fall_pwm (k : Nat) (b : Nat) : (d.fall k b).pwm = d.pwm := by rw [Dev.fall_rest]
@[simp] theorem Dev.fall_maint (k : Nat) (b : Nat) : (d.fall k b).maint = d.maint := by rw [Dev.fall_rest]
@[simp] theorem Dev.fall_twin (k : Nat) (b : Nat) : (d.fall k b).twin = d.twin := by rw [Dev.fall_rest]

@[simp] theorem Dev.raiseArm_now (src arm aux : Nat) : (d.raiseArm src arm aux).now = d.now := by rw [Dev.raiseArm_rest]
@[simp] theorem Dev.raiseArm_ttZero (src arm aux : Nat) : (d.raiseArm src arm aux).ttZero = d.ttZero := by rw [Dev.raiseArm_rest]
@[simp] theorem Dev.raiseArm_regs (src arm aux : Nat) : (d.raiseArm src arm aux).regs = d.regs := by rw [Dev.raiseArm_rest]
@[simp] theorem Dev.raiseArm_shadow (src arm aux : Nat) : (d.raiseArm src arm aux).shadow = d.shadow := by rw [Dev.raiseArm_rest]
@[simp] theorem Dev.raiseArm_rt (src arm aux : Nat) : (d.raiseArm src arm aux).rt = d.rt := by rw [Dev.raiseArm_rest]
@[simp] theorem Dev.raiseArm_lastApply (src arm aux : Nat) : (d.raiseArm src arm aux).lastApply = d.lastApply := by rw [Dev.raiseArm_rest]
@[simp] theorem Dev.raiseArm_refused (src arm aux : Nat) : (d.raiseArm src arm aux).refused = d.refused := by rw [Dev.raiseArm_rest]
@[simp] theorem Dev.raiseArm_hist (src arm aux : Nat) : (d.raiseArm src arm aux).hist = d.hist := by rw [Dev.raiseArm_rest]
@[simp] theorem Dev.raiseArm_data (src arm aux : Nat) : (d.raiseArm src arm aux).data = d.data := by rw [Dev.raiseArm_rest]
@[simp] theorem Dev.raiseArm_freeCtr (src arm aux : Nat) : (d.raiseArm src arm aux).freeCtr = d.freeCtr := by rw [Dev.raiseArm_rest]
@[simp] theorem Dev.raiseArm_out (src arm aux : Nat) : (d.raiseArm src arm aux).out = d.out := by rw [Dev.raiseArm_rest]
@[simp] theorem Dev.raiseArm_memQ (src arm aux : Nat) : (d.raiseArm src arm aux).memQ = d.memQ := by rw [Dev.raiseArm_rest]
@[simp] theorem Dev.raiseArm_net (src arm aux : Nat) : (d.raiseArm src arm aux).net = d.net := by rw [Dev.raiseArm_rest]
@[simp] theorem Dev.raiseArm_kindle (src arm aux : Nat) : (d.raiseArm src arm aux).kindle = d.kindle := by rw [Dev.raiseArm_rest]
@[simp] theorem Dev.raiseArm_jtag (src arm aux : Nat) : (d.raiseArm src arm aux).jtag = d.jtag := by rw [Dev.raiseArm_rest]
@[simp] theorem Dev.raiseArm_frame (src arm aux : Nat) : (d.raiseArm src arm aux).frame = d.frame := by rw [Dev.raiseArm_rest]
@[simp] theorem Dev.raiseArm_time (src arm aux : Nat) : (d.raiseArm src arm aux).time = d.time := by rw [Dev.raiseArm_rest]
@[simp] theorem Dev.raiseArm_link (src arm aux : Nat) : (d.raiseArm src arm aux).link = d.link := by rw [Dev.raiseArm_rest]
@[simp] theorem Dev.raiseArm_cells (src arm aux : Nat) : (d.raiseArm src arm aux).cells = d.cells := by rw [Dev.raiseArm_rest]
@[simp] theorem Dev.raiseArm_lanes (src arm aux : Nat) : (d.raiseArm src arm aux).lanes = d.lanes := by rw [Dev.raiseArm_rest]
@[simp] theorem Dev.raiseArm_arms (src arm aux : Nat) : (d.raiseArm src arm aux).arms = d.arms := by rw [Dev.raiseArm_rest]
@[simp] theorem Dev.raiseArm_legSum (src arm aux : Nat) : (d.raiseArm src arm aux).legSum = d.legSum := by rw [Dev.raiseArm_rest]
@[simp] theorem Dev.raiseArm_spare (src arm aux : Nat) : (d.raiseArm src arm aux).spare = d.spare := by rw [Dev.raiseArm_rest]
@[simp] theorem Dev.raiseArm_acq (src arm aux : Nat) : (d.raiseArm src arm aux).acq = d.acq := by rw [Dev.raiseArm_rest]
@[simp] theorem Dev.raiseArm_meas (src arm aux : Nat) : (d.raiseArm src arm aux).meas = d.meas := by rw [Dev.raiseArm_rest]
@[simp] theorem Dev.raiseArm_kiln (src arm aux : Nat) : (d.raiseArm src arm aux).kiln = d.kiln := by rw [Dev.raiseArm_rest]
@[simp] theorem Dev.raiseArm_pwm (src arm aux : Nat) : (d.raiseArm src arm aux).pwm = d.pwm := by rw [Dev.raiseArm_rest]
@[simp] theorem Dev.raiseArm_maint (src arm aux : Nat) : (d.raiseArm src arm aux).maint = d.maint := by rw [Dev.raiseArm_rest]
@[simp] theorem Dev.raiseArm_twin (src arm aux : Nat) : (d.raiseArm src arm aux).twin = d.twin := by rw [Dev.raiseArm_rest]
@[simp] theorem Dev.raiseArm_get (src arm aux : Nat) (key : Nat) : (d.raiseArm src arm aux).get key = d.get key := by rw [Dev.raiseArm_rest]; rfl

@[simp] theorem Dev.raise_now (src aux : Nat) : (d.raise src aux).now = d.now := by rw [Dev.raise_rest]
@[simp] theorem Dev.raise_ttZero (src aux : Nat) : (d.raise src aux).ttZero = d.ttZero := by rw [Dev.raise_rest]
@[simp] theorem Dev.raise_regs (src aux : Nat) : (d.raise src aux).regs = d.regs := by rw [Dev.raise_rest]
@[simp] theorem Dev.raise_shadow (src aux : Nat) : (d.raise src aux).shadow = d.shadow := by rw [Dev.raise_rest]
@[simp] theorem Dev.raise_rt (src aux : Nat) : (d.raise src aux).rt = d.rt := by rw [Dev.raise_rest]
@[simp] theorem Dev.raise_lastApply (src aux : Nat) : (d.raise src aux).lastApply = d.lastApply := by rw [Dev.raise_rest]
@[simp] theorem Dev.raise_refused (src aux : Nat) : (d.raise src aux).refused = d.refused := by rw [Dev.raise_rest]
@[simp] theorem Dev.raise_hist (src aux : Nat) : (d.raise src aux).hist = d.hist := by rw [Dev.raise_rest]
@[simp] theorem Dev.raise_data (src aux : Nat) : (d.raise src aux).data = d.data := by rw [Dev.raise_rest]
@[simp] theorem Dev.raise_freeCtr (src aux : Nat) : (d.raise src aux).freeCtr = d.freeCtr := by rw [Dev.raise_rest]
@[simp] theorem Dev.raise_out (src aux : Nat) : (d.raise src aux).out = d.out := by rw [Dev.raise_rest]
@[simp] theorem Dev.raise_memQ (src aux : Nat) : (d.raise src aux).memQ = d.memQ := by rw [Dev.raise_rest]
@[simp] theorem Dev.raise_net (src aux : Nat) : (d.raise src aux).net = d.net := by rw [Dev.raise_rest]
@[simp] theorem Dev.raise_kindle (src aux : Nat) : (d.raise src aux).kindle = d.kindle := by rw [Dev.raise_rest]
@[simp] theorem Dev.raise_jtag (src aux : Nat) : (d.raise src aux).jtag = d.jtag := by rw [Dev.raise_rest]
@[simp] theorem Dev.raise_frame (src aux : Nat) : (d.raise src aux).frame = d.frame := by rw [Dev.raise_rest]
@[simp] theorem Dev.raise_time (src aux : Nat) : (d.raise src aux).time = d.time := by rw [Dev.raise_rest]
@[simp] theorem Dev.raise_link (src aux : Nat) : (d.raise src aux).link = d.link := by rw [Dev.raise_rest]
@[simp] theorem Dev.raise_cells (src aux : Nat) : (d.raise src aux).cells = d.cells := by rw [Dev.raise_rest]
@[simp] theorem Dev.raise_lanes (src aux : Nat) : (d.raise src aux).lanes = d.lanes := by rw [Dev.raise_rest]
@[simp] theorem Dev.raise_arms (src aux : Nat) : (d.raise src aux).arms = d.arms := by rw [Dev.raise_rest]
@[simp] theorem Dev.raise_legSum (src aux : Nat) : (d.raise src aux).legSum = d.legSum := by rw [Dev.raise_rest]
@[simp] theorem Dev.raise_spare (src aux : Nat) : (d.raise src aux).spare = d.spare := by rw [Dev.raise_rest]
@[simp] theorem Dev.raise_acq (src aux : Nat) : (d.raise src aux).acq = d.acq := by rw [Dev.raise_rest]
@[simp] theorem Dev.raise_meas (src aux : Nat) : (d.raise src aux).meas = d.meas := by rw [Dev.raise_rest]
@[simp] theorem Dev.raise_kiln (src aux : Nat) : (d.raise src aux).kiln = d.kiln := by rw [Dev.raise_rest]
@[simp] theorem Dev.raise_pwm (src aux : Nat) : (d.raise src aux).pwm = d.pwm := by rw [Dev.raise_rest]
@[simp] theorem Dev.raise_maint (src aux : Nat) : (d.raise src aux).maint = d.maint := by rw [Dev.raise_rest]
@[simp] theorem Dev.raise_twin (src aux : Nat) : (d.raise src aux).twin = d.twin := by rw [Dev.raise_rest]
@[simp] theorem Dev.raise_get (src aux : Nat) (key : Nat) : (d.raise src aux).get key = d.get key := by rw [Dev.raise_rest]; rfl

@[simp] theorem Dev.condition_now (b tt : Nat) : (d.condition b tt).now = d.now := by rw [Dev.condition_rest]
@[simp] theorem Dev.condition_ttZero (b tt : Nat) : (d.condition b tt).ttZero = d.ttZero := by rw [Dev.condition_rest]
@[simp] theorem Dev.condition_regs (b tt : Nat) : (d.condition b tt).regs = d.regs := by rw [Dev.condition_rest]
@[simp] theorem Dev.condition_shadow (b tt : Nat) : (d.condition b tt).shadow = d.shadow := by rw [Dev.condition_rest]
@[simp] theorem Dev.condition_rt (b tt : Nat) : (d.condition b tt).rt = d.rt := by rw [Dev.condition_rest]
@[simp] theorem Dev.condition_lastApply (b tt : Nat) : (d.condition b tt).lastApply = d.lastApply := by rw [Dev.condition_rest]
@[simp] theorem Dev.condition_refused (b tt : Nat) : (d.condition b tt).refused = d.refused := by rw [Dev.condition_rest]
@[simp] theorem Dev.condition_hist (b tt : Nat) : (d.condition b tt).hist = d.hist := by rw [Dev.condition_rest]
@[simp] theorem Dev.condition_status (b tt : Nat) : (d.condition b tt).status = d.status := by rw [Dev.condition_rest]
@[simp] theorem Dev.condition_data (b tt : Nat) : (d.condition b tt).data = d.data := by rw [Dev.condition_rest]
@[simp] theorem Dev.condition_freeCtr (b tt : Nat) : (d.condition b tt).freeCtr = d.freeCtr := by rw [Dev.condition_rest]
@[simp] theorem Dev.condition_out (b tt : Nat) : (d.condition b tt).out = d.out := by rw [Dev.condition_rest]
@[simp] theorem Dev.condition_memQ (b tt : Nat) : (d.condition b tt).memQ = d.memQ := by rw [Dev.condition_rest]
@[simp] theorem Dev.condition_net (b tt : Nat) : (d.condition b tt).net = d.net := by rw [Dev.condition_rest]
@[simp] theorem Dev.condition_kindle (b tt : Nat) : (d.condition b tt).kindle = d.kindle := by rw [Dev.condition_rest]
@[simp] theorem Dev.condition_jtag (b tt : Nat) : (d.condition b tt).jtag = d.jtag := by rw [Dev.condition_rest]
@[simp] theorem Dev.condition_frame (b tt : Nat) : (d.condition b tt).frame = d.frame := by rw [Dev.condition_rest]
@[simp] theorem Dev.condition_time (b tt : Nat) : (d.condition b tt).time = d.time := by rw [Dev.condition_rest]
@[simp] theorem Dev.condition_link (b tt : Nat) : (d.condition b tt).link = d.link := by rw [Dev.condition_rest]
@[simp] theorem Dev.condition_cells (b tt : Nat) : (d.condition b tt).cells = d.cells := by rw [Dev.condition_rest]
@[simp] theorem Dev.condition_lanes (b tt : Nat) : (d.condition b tt).lanes = d.lanes := by rw [Dev.condition_rest]
@[simp] theorem Dev.condition_arms (b tt : Nat) : (d.condition b tt).arms = d.arms := by rw [Dev.condition_rest]
@[simp] theorem Dev.condition_legSum (b tt : Nat) : (d.condition b tt).legSum = d.legSum := by rw [Dev.condition_rest]
@[simp] theorem Dev.condition_spare (b tt : Nat) : (d.condition b tt).spare = d.spare := by rw [Dev.condition_rest]
@[simp] theorem Dev.condition_damper (b tt : Nat) : (d.condition b tt).damper = d.damper := by rw [Dev.condition_rest]
@[simp] theorem Dev.condition_meas (b tt : Nat) : (d.condition b tt).meas = d.meas := by rw [Dev.condition_rest]
@[simp] theorem Dev.condition_kiln (b tt : Nat) : (d.condition b tt).kiln = d.kiln := by rw [Dev.condition_rest]
@[simp] theorem Dev.condition_pwm (b tt : Nat) : (d.condition b tt).pwm = d.pwm := by rw [Dev.condition_rest]
@[simp] theorem Dev.condition_maint (b tt : Nat) : (d.condition b tt).maint = d.maint := by rw [Dev.condition_rest]
@[simp] theorem Dev.condition_twin (b tt : Nat) : (d.condition b tt).twin = d.twin := by rw [Dev.condition_rest]
@[simp] theorem Dev.condition_get (b tt : Nat) (key : Nat) : (d.condition b tt).get key = d.get key := by rw [Dev.condition_rest]; rfl

@[simp] theorem Dev.events_now (src k : Nat) : (d.events src k).now = d.now := by rw [Dev.events_rest]
@[simp] theorem Dev.events_ttZero (src k : Nat) : (d.events src k).ttZero = d.ttZero := by rw [Dev.events_rest]
@[simp] theorem Dev.events_shadow (src k : Nat) : (d.events src k).shadow = d.shadow := by rw [Dev.events_rest]
@[simp] theorem Dev.events_rt (src k : Nat) : (d.events src k).rt = d.rt := by rw [Dev.events_rest]
@[simp] theorem Dev.events_lastApply (src k : Nat) : (d.events src k).lastApply = d.lastApply := by rw [Dev.events_rest]
@[simp] theorem Dev.events_refused (src k : Nat) : (d.events src k).refused = d.refused := by rw [Dev.events_rest]
@[simp] theorem Dev.events_hist (src k : Nat) : (d.events src k).hist = d.hist := by rw [Dev.events_rest]
@[simp] theorem Dev.events_status (src k : Nat) : (d.events src k).status = d.status := by rw [Dev.events_rest]
@[simp] theorem Dev.events_data (src k : Nat) : (d.events src k).data = d.data := by rw [Dev.events_rest]
@[simp] theorem Dev.events_freeCtr (src k : Nat) : (d.events src k).freeCtr = d.freeCtr := by rw [Dev.events_rest]
@[simp] theorem Dev.events_out (src k : Nat) : (d.events src k).out = d.out := by rw [Dev.events_rest]
@[simp] theorem Dev.events_memQ (src k : Nat) : (d.events src k).memQ = d.memQ := by rw [Dev.events_rest]
@[simp] theorem Dev.events_net (src k : Nat) : (d.events src k).net = d.net := by rw [Dev.events_rest]
@[simp] theorem Dev.events_kindle (src k : Nat) : (d.events src k).kindle = d.kindle := by rw [Dev.events_rest]
@[simp] theorem Dev.events_jtag (src k : Nat) : (d.events src k).jtag = d.jtag := by rw [Dev.events_rest]
@[simp] theorem Dev.events_frame (src k : Nat) : (d.events src k).frame = d.frame := by rw [Dev.events_rest]
@[simp] theorem Dev.events_time (src k : Nat) : (d.events src k).time = d.time := by rw [Dev.events_rest]
@[simp] theorem Dev.events_link (src k : Nat) : (d.events src k).link = d.link := by rw [Dev.events_rest]
@[simp] theorem Dev.events_cells (src k : Nat) : (d.events src k).cells = d.cells := by rw [Dev.events_rest]
@[simp] theorem Dev.events_lanes (src k : Nat) : (d.events src k).lanes = d.lanes := by rw [Dev.events_rest]
@[simp] theorem Dev.events_arms (src k : Nat) : (d.events src k).arms = d.arms := by rw [Dev.events_rest]
@[simp] theorem Dev.events_legSum (src k : Nat) : (d.events src k).legSum = d.legSum := by rw [Dev.events_rest]
@[simp] theorem Dev.events_spare (src k : Nat) : (d.events src k).spare = d.spare := by rw [Dev.events_rest]
@[simp] theorem Dev.events_damper (src k : Nat) : (d.events src k).damper = d.damper := by rw [Dev.events_rest]
@[simp] theorem Dev.events_meas (src k : Nat) : (d.events src k).meas = d.meas := by rw [Dev.events_rest]
@[simp] theorem Dev.events_kiln (src k : Nat) : (d.events src k).kiln = d.kiln := by rw [Dev.events_rest]
@[simp] theorem Dev.events_pwm (src k : Nat) : (d.events src k).pwm = d.pwm := by rw [Dev.events_rest]
@[simp] theorem Dev.events_maint (src k : Nat) : (d.events src k).maint = d.maint := by rw [Dev.events_rest]
@[simp] theorem Dev.events_twin (src k : Nat) : (d.events src k).twin = d.twin := by rw [Dev.events_rest]

@[simp] theorem Dev.event_now (src : Nat) : (d.event src).now = d.now := by rw [Dev.event_rest]
@[simp] theorem Dev.event_ttZero (src : Nat) : (d.event src).ttZero = d.ttZero := by rw [Dev.event_rest]
@[simp] theorem Dev.event_shadow (src : Nat) : (d.event src).shadow = d.shadow := by rw [Dev.event_rest]
@[simp] theorem Dev.event_rt (src : Nat) : (d.event src).rt = d.rt := by rw [Dev.event_rest]
@[simp] theorem Dev.event_lastApply (src : Nat) : (d.event src).lastApply = d.lastApply := by rw [Dev.event_rest]
@[simp] theorem Dev.event_refused (src : Nat) : (d.event src).refused = d.refused := by rw [Dev.event_rest]
@[simp] theorem Dev.event_hist (src : Nat) : (d.event src).hist = d.hist := by rw [Dev.event_rest]
@[simp] theorem Dev.event_status (src : Nat) : (d.event src).status = d.status := by rw [Dev.event_rest]
@[simp] theorem Dev.event_data (src : Nat) : (d.event src).data = d.data := by rw [Dev.event_rest]
@[simp] theorem Dev.event_freeCtr (src : Nat) : (d.event src).freeCtr = d.freeCtr := by rw [Dev.event_rest]
@[simp] theorem Dev.event_out (src : Nat) : (d.event src).out = d.out := by rw [Dev.event_rest]
@[simp] theorem Dev.event_memQ (src : Nat) : (d.event src).memQ = d.memQ := by rw [Dev.event_rest]
@[simp] theorem Dev.event_net (src : Nat) : (d.event src).net = d.net := by rw [Dev.event_rest]
@[simp] theorem Dev.event_kindle (src : Nat) : (d.event src).kindle = d.kindle := by rw [Dev.event_rest]
@[simp] theorem Dev.event_jtag (src : Nat) : (d.event src).jtag = d.jtag := by rw [Dev.event_rest]
@[simp] theorem Dev.event_frame (src : Nat) : (d.event src).frame = d.frame := by rw [Dev.event_rest]
@[simp] theorem Dev.event_time (src : Nat) : (d.event src).time = d.time := by rw [Dev.event_rest]
@[simp] theorem Dev.event_link (src : Nat) : (d.event src).link = d.link := by rw [Dev.event_rest]
@[simp] theorem Dev.event_cells (src : Nat) : (d.event src).cells = d.cells := by rw [Dev.event_rest]
@[simp] theorem Dev.event_lanes (src : Nat) : (d.event src).lanes = d.lanes := by rw [Dev.event_rest]
@[simp] theorem Dev.event_arms (src : Nat) : (d.event src).arms = d.arms := by rw [Dev.event_rest]
@[simp] theorem Dev.event_legSum (src : Nat) : (d.event src).legSum = d.legSum := by rw [Dev.event_rest]
@[simp] theorem Dev.event_spare (src : Nat) : (d.event src).spare = d.spare := by rw [Dev.event_rest]
@[simp] theorem Dev.event_damper (src : Nat) : (d.event src).damper = d.damper := by rw [Dev.event_rest]
@[simp] theorem Dev.event_meas (src : Nat) : (d.event src).meas = d.meas := by rw [Dev.event_rest]
@[simp] theorem Dev.event_kiln (src : Nat) : (d.event src).kiln = d.kiln := by rw [Dev.event_rest]
@[simp] theorem Dev.event_pwm (src : Nat) : (d.event src).pwm = d.pwm := by rw [Dev.event_rest]
@[simp] theorem Dev.event_maint (src : Nat) : (d.event src).maint = d.maint := by rw [Dev.event_rest]
@[simp] theorem Dev.event_twin (src : Nat) : (d.event src).twin = d.twin := by rw [Dev.event_rest]

@[simp] theorem Dev.gatesMoved_now (b : Dev) : (d.gatesMoved b).now = d.now := by rw [Dev.gatesMoved_rest]
@[simp] theorem Dev.gatesMoved_ttZero (b : Dev) : (d.gatesMoved b).ttZero = d.ttZero := by rw [Dev.gatesMoved_rest]
@[simp] theorem Dev.gatesMoved_shadow (b : Dev) : (d.gatesMoved b).shadow = d.shadow := by rw [Dev.gatesMoved_rest]
@[simp] theorem Dev.gatesMoved_rt (b : Dev) : (d.gatesMoved b).rt = d.rt := by rw [Dev.gatesMoved_rest]
@[simp] theorem Dev.gatesMoved_lastApply (b : Dev) : (d.gatesMoved b).lastApply = d.lastApply := by rw [Dev.gatesMoved_rest]
@[simp] theorem Dev.gatesMoved_refused (b : Dev) : (d.gatesMoved b).refused = d.refused := by rw [Dev.gatesMoved_rest]
@[simp] theorem Dev.gatesMoved_hist (b : Dev) : (d.gatesMoved b).hist = d.hist := by rw [Dev.gatesMoved_rest]
@[simp] theorem Dev.gatesMoved_status (b : Dev) : (d.gatesMoved b).status = d.status := by rw [Dev.gatesMoved_rest]
@[simp] theorem Dev.gatesMoved_data (b : Dev) : (d.gatesMoved b).data = d.data := by rw [Dev.gatesMoved_rest]
@[simp] theorem Dev.gatesMoved_freeCtr (b : Dev) : (d.gatesMoved b).freeCtr = d.freeCtr := by rw [Dev.gatesMoved_rest]
@[simp] theorem Dev.gatesMoved_out (b : Dev) : (d.gatesMoved b).out = d.out := by rw [Dev.gatesMoved_rest]
@[simp] theorem Dev.gatesMoved_memQ (b : Dev) : (d.gatesMoved b).memQ = d.memQ := by rw [Dev.gatesMoved_rest]
@[simp] theorem Dev.gatesMoved_net (b : Dev) : (d.gatesMoved b).net = d.net := by rw [Dev.gatesMoved_rest]
@[simp] theorem Dev.gatesMoved_kindle (b : Dev) : (d.gatesMoved b).kindle = d.kindle := by rw [Dev.gatesMoved_rest]
@[simp] theorem Dev.gatesMoved_jtag (b : Dev) : (d.gatesMoved b).jtag = d.jtag := by rw [Dev.gatesMoved_rest]
@[simp] theorem Dev.gatesMoved_frame (b : Dev) : (d.gatesMoved b).frame = d.frame := by rw [Dev.gatesMoved_rest]
@[simp] theorem Dev.gatesMoved_time (b : Dev) : (d.gatesMoved b).time = d.time := by rw [Dev.gatesMoved_rest]
@[simp] theorem Dev.gatesMoved_link (b : Dev) : (d.gatesMoved b).link = d.link := by rw [Dev.gatesMoved_rest]
@[simp] theorem Dev.gatesMoved_cells (b : Dev) : (d.gatesMoved b).cells = d.cells := by rw [Dev.gatesMoved_rest]
@[simp] theorem Dev.gatesMoved_lanes (b : Dev) : (d.gatesMoved b).lanes = d.lanes := by rw [Dev.gatesMoved_rest]
@[simp] theorem Dev.gatesMoved_arms (b : Dev) : (d.gatesMoved b).arms = d.arms := by rw [Dev.gatesMoved_rest]
@[simp] theorem Dev.gatesMoved_legSum (b : Dev) : (d.gatesMoved b).legSum = d.legSum := by rw [Dev.gatesMoved_rest]
@[simp] theorem Dev.gatesMoved_spare (b : Dev) : (d.gatesMoved b).spare = d.spare := by rw [Dev.gatesMoved_rest]
@[simp] theorem Dev.gatesMoved_damper (b : Dev) : (d.gatesMoved b).damper = d.damper := by rw [Dev.gatesMoved_rest]
@[simp] theorem Dev.gatesMoved_acq (b : Dev) : (d.gatesMoved b).acq = d.acq := by rw [Dev.gatesMoved_rest]
@[simp] theorem Dev.gatesMoved_meas (b : Dev) : (d.gatesMoved b).meas = d.meas := by rw [Dev.gatesMoved_rest]
@[simp] theorem Dev.gatesMoved_kiln (b : Dev) : (d.gatesMoved b).kiln = d.kiln := by rw [Dev.gatesMoved_rest]
@[simp] theorem Dev.gatesMoved_pwm (b : Dev) : (d.gatesMoved b).pwm = d.pwm := by rw [Dev.gatesMoved_rest]
@[simp] theorem Dev.gatesMoved_maint (b : Dev) : (d.gatesMoved b).maint = d.maint := by rw [Dev.gatesMoved_rest]
@[simp] theorem Dev.gatesMoved_twin (b : Dev) : (d.gatesMoved b).twin = d.twin := by rw [Dev.gatesMoved_rest]

@[simp] theorem Dev.setState_now (st : Nat) : (d.setState st).now = d.now := by rw [Dev.setState_rest]
@[simp] theorem Dev.setState_ttZero (st : Nat) : (d.setState st).ttZero = d.ttZero := by rw [Dev.setState_rest]
@[simp] theorem Dev.setState_shadow (st : Nat) : (d.setState st).shadow = d.shadow := by rw [Dev.setState_rest]
@[simp] theorem Dev.setState_rt (st : Nat) : (d.setState st).rt = d.rt := by rw [Dev.setState_rest]
@[simp] theorem Dev.setState_lastApply (st : Nat) : (d.setState st).lastApply = d.lastApply := by rw [Dev.setState_rest]
@[simp] theorem Dev.setState_refused (st : Nat) : (d.setState st).refused = d.refused := by rw [Dev.setState_rest]
@[simp] theorem Dev.setState_hist (st : Nat) : (d.setState st).hist = d.hist := by rw [Dev.setState_rest]
@[simp] theorem Dev.setState_status (st : Nat) : (d.setState st).status = d.status := by rw [Dev.setState_rest]
@[simp] theorem Dev.setState_data (st : Nat) : (d.setState st).data = d.data := by rw [Dev.setState_rest]
@[simp] theorem Dev.setState_freeCtr (st : Nat) : (d.setState st).freeCtr = d.freeCtr := by rw [Dev.setState_rest]
@[simp] theorem Dev.setState_out (st : Nat) : (d.setState st).out = d.out := by rw [Dev.setState_rest]
@[simp] theorem Dev.setState_memQ (st : Nat) : (d.setState st).memQ = d.memQ := by rw [Dev.setState_rest]
@[simp] theorem Dev.setState_net (st : Nat) : (d.setState st).net = d.net := by rw [Dev.setState_rest]
@[simp] theorem Dev.setState_kindle (st : Nat) : (d.setState st).kindle = d.kindle := by rw [Dev.setState_rest]
@[simp] theorem Dev.setState_jtag (st : Nat) : (d.setState st).jtag = d.jtag := by rw [Dev.setState_rest]
@[simp] theorem Dev.setState_frame (st : Nat) : (d.setState st).frame = d.frame := by rw [Dev.setState_rest]
@[simp] theorem Dev.setState_time (st : Nat) : (d.setState st).time = d.time := by rw [Dev.setState_rest]
@[simp] theorem Dev.setState_link (st : Nat) : (d.setState st).link = d.link := by rw [Dev.setState_rest]
@[simp] theorem Dev.setState_cells (st : Nat) : (d.setState st).cells = d.cells := by rw [Dev.setState_rest]
@[simp] theorem Dev.setState_lanes (st : Nat) : (d.setState st).lanes = d.lanes := by rw [Dev.setState_rest]
@[simp] theorem Dev.setState_arms (st : Nat) : (d.setState st).arms = d.arms := by rw [Dev.setState_rest]
@[simp] theorem Dev.setState_legSum (st : Nat) : (d.setState st).legSum = d.legSum := by rw [Dev.setState_rest]
@[simp] theorem Dev.setState_spare (st : Nat) : (d.setState st).spare = d.spare := by rw [Dev.setState_rest]
@[simp] theorem Dev.setState_damper (st : Nat) : (d.setState st).damper = d.damper := by rw [Dev.setState_rest]
@[simp] theorem Dev.setState_acq (st : Nat) : (d.setState st).acq = d.acq := by rw [Dev.setState_rest]
@[simp] theorem Dev.setState_meas (st : Nat) : (d.setState st).meas = d.meas := by rw [Dev.setState_rest]
@[simp] theorem Dev.setState_kiln (st : Nat) : (d.setState st).kiln = d.kiln := by rw [Dev.setState_rest]
@[simp] theorem Dev.setState_pwm (st : Nat) : (d.setState st).pwm = d.pwm := by rw [Dev.setState_rest]
@[simp] theorem Dev.setState_maint (st : Nat) : (d.setState st).maint = d.maint := by rw [Dev.setState_rest]
@[simp] theorem Dev.setState_twin (st : Nat) : (d.setState st).twin = d.twin := by rw [Dev.setState_rest]

end Sys2Proof.Machine
end

