-- ==== Sys2Proof/Laws/Step.lean ====
section
/-!
SUPPORT. The gate through which every command changes the state, and what every step keeps.
-/
namespace Sys2Proof.Machine

/-! The gate. -/

@[simp] theorem State.run_mem (s : State) (dt : Nat) (f : Memory → Dev → Dev) :
    (s.run dt f).mem = s.mem.apply (f s.mem (s.met dt)).memQ := rfl

theorem State.run_dev (s : State) (dt : Nat) (f : Memory → Dev → Dev) :
    (s.run dt f).dev = { f s.mem (s.met dt) with memQ := [], now := s.dev.now + dt } := rfl

@[simp] theorem State.run_get (s : State) (dt : Nat) (f : Memory → Dev → Dev) (k : Nat) :
    (s.run dt f).dev.get k = (f s.mem (s.met dt)).get k := rfl

@[simp] theorem State.run_inner (s : State) (dt : Nat) (f : Memory → Dev → Dev) :
    (s.run dt f).dev.inner = (f s.mem (s.met dt)).inner := rfl

@[simp] theorem State.met_get (s : State) (dt k : Nat) : (s.met dt).get k = s.dev.get k := rfl
@[simp] theorem State.met_inner (s : State) (dt : Nat) : (s.met dt).inner = s.dev.inner := rfl
@[simp] theorem State.met_memQ (s : State) (dt : Nat) : (s.met dt).memQ = [] := rfl
@[simp] theorem State.met_now (s : State) (dt : Nat) : (s.met dt).now = s.dev.now + dt := rfl
@[simp] theorem State.met_ds (s : State) (dt : Nat) : (s.met dt).ds = s.dev.ds := rfl
@[simp] theorem State.met_live (s : State) (dt : Nat) : (s.met dt).live = s.dev.live := rfl

/-- A command that asks nothing of the byte areas frames what its function frames. -/
theorem State.run_frame (s : State) (dt : Nat) (f : Memory → Dev → Dev) (ks : List Nat)
    (hq : (f s.mem (s.met dt)).memQ = []) (hk : KeepsBut ks (s.met dt) (f s.mem (s.met dt))) :
    Framed ks dt s (s.run dt f) where
  pending := rfl
  memory := fun a => by rw [State.run_mem, hq]; rfl
  entries := fun k h => hk k h
  time := rfl

/-- A command completes with what its function gives. -/
theorem completes_next (i : Instr) (s : State) (dt : Nat) (f : Dev → Dev) (P : State → Prop)
    (h : exec i s = s.next dt f) (hp : P (s.run dt (fun _ d => f d))) : Completes i s P := ⟨_, h, hp⟩

theorem completes_nextMem (i : Instr) (s : State) (dt : Nat) (f : Memory → Dev → Dev) (P : State → Prop)
    (h : exec i s = s.nextMem dt f) (hp : P (s.run dt f)) : Completes i s P := ⟨_, h, hp⟩

theorem State.run_inv (s : State) (dt : Nat) (f : Memory → Dev → Dev) (h : s.mem.wf = true) : (s.run dt f).Inv :=
  ⟨Memory.wf_apply _ h, rfl⟩

/-- A command either is refused as ill formed or runs through the gate. -/
theorem exec_cases (i : Instr) (s : State) :
    (∃ dt f, exec i s = .next (s.run dt f)) ∨ exec i s = .fault .illFormed := by
  cases i <;> first
    | exact .inl ⟨_, _, rfl⟩
    | (simp only [exec, execFusePhaseDone, execMemoryPhaseDone, execSelfTestDone, execTestSpaceWrite, execIopRead, execIopWrite, execIopReadBlock, execIopWriteBlock, execIopCommit, execSpiRead, execSpiWrite, execSpiReadBlock, execSpiWriteBlock, execEmberFrameReceive]
       split
       · exact .inl ⟨_, _, rfl⟩
       · exact .inr rfl)

/-- What a command that completes leaves is what the gate leaves. -/
theorem exec_next {i : Instr} {s t : State} (h : exec i s = .next t) : ∃ dt f, t = s.run dt f := by
  rcases exec_cases i s with ⟨dt, f, e⟩ | e
  · rw [e] at h; cases h; exact ⟨dt, f, rfl⟩
  · rw [e] at h; cases h

end Sys2Proof.Machine
end

