-- ==== Sys2Proof/Laws/Access.lean ====
section
/-!
SUPPORT. Writes that nothing refuses: a write-pulse acts, a plain field takes its value.
-/
namespace Sys2Proof.Machine

/-! Bytes. -/

theorem length_leBytes (n v : Nat) : (leBytes n v).length = n := by
  induction n generalizing v with
  | zero => rfl
  | succ n ih => simp [leBytes, ih]

theorem ofLe_leBytes (n v : Nat) : ofLe (leBytes n v) = v % 256 ^ n := by
  induction n generalizing v with
  | zero => simp [leBytes, ofLe, Nat.mod_one]
  | succ n ih =>
    simp only [leBytes, ofLe, ih, BitVec.toNat_ofNat]
    have : v % 256 ^ (n + 1) = v % 256 + 256 * (v / 256 % 256 ^ n) := by rw [Nat.pow_succ', Nat.mod_mul]
    omega

/-! What `writable` says. -/

theorem Dev.not_of_live {d : Dev} (h : d.live = true) (st : Nat) (hst : st = dsRESET ∨ st = dsKINDLING ∨ st = dsBANKED) :
    (d.ds == st) = false := by
  cases hb : d.ds == st with
  | false => rfl
  | true =>
    rw [beq_iff_eq] at hb
    simp only [Dev.live, Dev.dsIn] at h
    rw [hb] at h
    rcases hst with rfl | rfl | rfl <;> revert h <;> decide

theorem Dev.serves_of_live {d : Dev} (h : d.live = true) : d.serves = true := by
  simp [Dev.serves, Dev.not_of_live h dsRESET (.inl rfl), Dev.not_of_live h dsBANKED (.inr (.inr rfl))]

theorem Dev.beforeFuses_of_live {d : Dev} (h : d.live = true) : d.beforeFuses = false := by
  simp [Dev.beforeFuses, Dev.not_of_live h dsKINDLING (.inr (.inl rfl))]

theorem Dev.writable_live {d : Dev} {k : Nat} (h : d.writable k = true) : d.live = true := by
  simp only [Dev.writable, Bool.and_eq_true] at h; exact h.1.1

theorem Dev.writable_lock {d : Dev} {k : Nat} (h : d.writable k = true) : d.lockHolds k = false := by
  simp only [Dev.writable, Bool.and_eq_true, Bool.not_eq_true'] at h; exact h.2

theorem Dev.writable_state {d : Dev} {k : Nat} (h : d.writable k = true) (idx : Nat) (bs : List Byte) :
    d.writeState idx bs = true := by
  have hl := Dev.writable_live h
  simp only [Dev.writable, Bool.and_eq_true, Bool.not_eq_true'] at h
  simp [Dev.writeState, Dev.beforeFuses_of_live hl, Dev.not_of_live hl dsKINDLING (.inr (.inl rfl)), h.1.2]

/-! The row of a sub-entry. -/

theorem subKey_self (k : Nat) : subKey (k / 256) (k % 256) = k := by simp only [subKey]; omega

/-- A row that the tables hold is found, with a segment object only below SEGMENTS. -/
theorem Dev.find_plain (d : Dev) {k : Nat} {e : Entry} (he : entryAt (k / 256) (k % 256) = some e)
    (ht : isTestIdx (k / 256) = false) (hd : (e.ty == .dom) = false)
    (hs : ¬ (0x2D40 ≤ k / 256 ∧ k / 256 ≤ 0x2D4F) ∨ k / 256 - 0x2D40 < d.get Reg.ACQ.SEGMENTS) :
    d.find (k / 256) (k % 256) false = .inl e := by
  have ho : (objectAt (k / 256)).isSome = true := by
    simp only [entryAt] at he
    cases h : objectAt (k / 256) with
    | none => simp [h] at he
    | some _ => rfl
  have hi : d.indexDefined (k / 256) = true := by
    simp only [Dev.indexDefined, ht, Bool.false_eq_true, if_false]
    split
    · rename_i h
      simp only [Bool.and_eq_true, decide_eq_true_eq] at h
      rcases hs with hs | hs
      · exact absurd h hs
      · simpa using hs
    · exact ho
  simp [Dev.find, hi, entryOf, ht, he, hd]

/-- Where nothing refuses it, a write of the size of a write-pulse acts as that pulse. -/
theorem Dev.writeAt_pulse {d : Dev} {m : Memory} {k n v : Nat} {x : Meet} (hw : d.writable k = true)
    (hp : isPulse k n = true) (hs : ¬ (0x2D40 ≤ k / 256 ∧ k / 256 ≤ 0x2D4F) ∨ k / 256 - 0x2D40 < d.get Reg.ACQ.SEGMENTS) :
    d.writeAt m k n v x = d.pulse m k (v % 256 ^ n) x := by
  have hl := Dev.writable_live hw
  simp only [isPulse] at hp
  split at hp
  · rename_i es e _ he
    simp only [Bool.and_eq_true, Bool.not_eq_true', beq_iff_eq, bne_iff_ne] at hp
    obtain ⟨⟨⟨ha, hn⟩, hd⟩, ht⟩ := hp
    have hf := Dev.find_plain d he ht (by simpa using hd) hs
    simp only [Dev.writeAt, Dev.write, Dev.serves_of_live hl, Dev.beforeFuses_of_live hl, hf, Bool.not_true,
      Bool.false_eq_true, if_false, subKey_self, Dev.writable_state hw, ht, Dev.writable_lock hw, ha, beq_self_eq_true,
      if_true, length_leBytes, hn, bne_self_eq_false, ofLe_leBytes]
  · simp at hp

/-- Where nothing refuses it, a write of the size of a field is judged as a field's. -/
theorem Dev.writeAt_field {d : Dev} {m : Memory} {k n v : Nat} {x : Meet} {e : Entry} (hw : d.writable k = true)
    (he : entryAt (k / 256) (k % 256) = some e) (ht : isTestIdx (k / 256) = false) (hd : (e.ty == .dom) = false)
    (ha : (e.acc == .wp) = false)
    (hs : ¬ (0x2D40 ≤ k / 256 ∧ k / 256 ≤ 0x2D4F) ∨ k / 256 - 0x2D40 < d.get Reg.ACQ.SEGMENTS) :
    d.writeAt m k n v x = d.writeField k e (leBytes n v) x.coincide := by
  have hl := Dev.writable_live hw
  have hf := Dev.find_plain d he ht hd hs
  simp only [Dev.writeAt, Dev.write, Dev.serves_of_live hl, Dev.beforeFuses_of_live hl, hf, Bool.not_true,
    Bool.false_eq_true, if_false, subKey_self, Dev.writable_state hw, ht, Dev.writable_lock hw, ha]

end Sys2Proof.Machine
end

