-- ==== Sys2Proof/Laws/PerInstr.lean ====
section
/-!
SUPPORT. What is asked of the operands of a command, in plain words of arithmetic: one lemma for each command.
-/
namespace Sys2Proof.Laws

set_option Elab.async false

/-- The datagram has no TYPE byte, or its TYPE is `ty` or none of the five. -/
def TypeIs (ty : Nat) (u : Udp) : Prop := ∀ b, u.payload[1]? = some b → b.toNat = ty ∨ b.toNat = 0 ∨ 5 < b.toNat

/-- The bounds of the operands of a command beyond their types. -/
def Wf.Bounds : Instr → Prop
  | .fusePhaseDone _ _ rows => rows ≤ 1024
  | .memoryPhaseDone _ _ _ bad => bad ≤ 2
  | .selfTestDone _ fail lanes cores => fail.getLsbD 2 = false ∧ fail.getLsbD 3 = false ∧
      (lanes ≠ 0 ↔ fail.getLsbD 5 = true) ∧ (cores ≠ 0 ↔ fail.getLsbD 6 = true)
  | .testSpaceWrite _ idx _ _ => 0x2F00 ≤ idx.toNat ∧ idx.toNat ≤ 0x2FFF
  | .iopRead _ u => TypeIs 1 u
  | .iopWrite _ u => TypeIs 2 u
  | .iopReadBlock _ u => TypeIs 3 u
  | .iopWriteBlock _ u => TypeIs 4 u
  | .iopCommit _ u => TypeIs 5 u
  | .spiRead _ bytes => ∃ b more, bytes = b :: more ∧ b.toNat = 1
  | .spiWrite _ bytes => ∃ b more, bytes = b :: more ∧ b.toNat = 2
  | .spiReadBlock _ bytes => ∃ b more, bytes = b :: more ∧ b.toNat = 3
  | .spiWriteBlock _ bytes => ∃ b more, bytes = b :: more ∧ b.toNat = 4
  | .emberFrameReceive _ _ _ _ bytes _ => bytes.length = 384
  | _ => True

/-- A command is well formed exactly where its operands keep their bounds. -/
def Wf.Statement (i : Instr) : Prop := i.wf = true ↔ Wf.Bounds i

theorem iopOk_iff (ty : Nat) (u : Udp) : iopOk ty u = true ↔ TypeIs ty u := by
  unfold iopOk TypeIs
  cases u.payload[1]? with
  | none => simp
  | some b => simp

theorem spiOk_iff (cmd : Nat) (bytes : List Byte) : spiOk cmd bytes = true ↔ ∃ b more, bytes = b :: more ∧ b.toNat = cmd := by
  cases bytes with
  | nil => simp [spiOk]
  | cons b more => simp [spiOk]

theorem testsOk_iff (fail : BitVec 12) (lanes : BitVec 7) (cores : BitVec 18) :
    testsOk fail lanes cores = true ↔ fail.getLsbD 2 = false ∧ fail.getLsbD 3 = false ∧
      (lanes ≠ 0 ↔ fail.getLsbD 5 = true) ∧ (cores ≠ 0 ↔ fail.getLsbD 6 = true) := by
  unfold testsOk
  cases fail.getLsbD 2 <;> cases fail.getLsbD 3 <;> cases fail.getLsbD 5 <;> cases fail.getLsbD 6 <;>
    by_cases hl : lanes = 0 <;> by_cases hc : cores = 0 <;> simp [hl, hc]

theorem Wf.poresetAssert (dt : Nat) (lowFor : Nat) :
    Wf.Statement (.poresetAssert dt lowFor) := ⟨fun _ => trivial, fun _ => rfl⟩
theorem Wf.poresetRelease (dt : Nat) (straps : BitVec 5) :
    Wf.Statement (.poresetRelease dt straps) := ⟨fun _ => trivial, fun _ => rfl⟩
theorem Wf.vddCoreLow (dt : Nat) (belowFor : Nat) :
    Wf.Statement (.vddCoreLow dt belowFor) := ⟨fun _ => trivial, fun _ => rfl⟩
theorem Wf.vddCoreRecovered (dt : Nat) (aboveFor : Nat) :
    Wf.Statement (.vddCoreRecovered dt aboveFor) := ⟨fun _ => trivial, fun _ => rfl⟩
theorem Wf.clocksPhaseDone (dt : Nat) : Wf.Statement (.clocksPhaseDone dt) := ⟨fun _ => trivial, fun _ => rfl⟩
theorem Wf.fusePhaseDone (dt : Nat) (crcOk : Bool) (rows : Nat) : Wf.Statement (.fusePhaseDone dt crcOk rows) := by
  simp [Wf.Statement, Instr.wf, Wf.Bounds, rowsOk]
theorem Wf.memoryPhaseDone (dt : Nat) (rows : Nat) (exhausted : Bool) (mramBad : Nat) : Wf.Statement (.memoryPhaseDone dt rows exhausted mramBad) := by
  simp [Wf.Statement, Instr.wf, Wf.Bounds, mramOk]
theorem Wf.selfTestDone (dt : Nat) (fail : BitVec 12) (lanes : BitVec 7) (cores : BitVec 18) :
    Wf.Statement (.selfTestDone dt fail lanes cores) := testsOk_iff fail lanes cores
theorem Wf.imagePhaseDone (dt : Nat) (qspi : List Byte) :
    Wf.Statement (.imagePhaseDone dt qspi) := ⟨fun _ => trivial, fun _ => rfl⟩
theorem Wf.networkBootTimeout (dt : Nat) : Wf.Statement (.networkBootTimeout dt) := ⟨fun _ => trivial, fun _ => rfl⟩
theorem Wf.twinStartWindowEnd (dt : Nat) : Wf.Statement (.twinStartWindowEnd dt) := ⟨fun _ => trivial, fun _ => rfl⟩
theorem Wf.deblock (dt : Nat) : Wf.Statement (.deblock dt) := ⟨fun _ => trivial, fun _ => rfl⟩
theorem Wf.block (dt : Nat) : Wf.Statement (.block dt) := ⟨fun _ => trivial, fun _ => rfl⟩
theorem Wf.swap (dt : Nat) : Wf.Statement (.swap dt) := ⟨fun _ => trivial, fun _ => rfl⟩
theorem Wf.reset (dt : Nat) : Wf.Statement (.reset dt) := ⟨fun _ => trivial, fun _ => rfl⟩
theorem Wf.reload (dt : Nat) : Wf.Statement (.reload dt) := ⟨fun _ => trivial, fun _ => rfl⟩
theorem Wf.frameBoundary (dt : Nat) : Wf.Statement (.frameBoundary dt) := ⟨fun _ => trivial, fun _ => rfl⟩
theorem Wf.stnInChange (dt : Nat) (pin : Fin 8) (level : Bool) :
    Wf.Statement (.stnInChange dt pin level) := ⟨fun _ => trivial, fun _ => rfl⟩
theorem Wf.closeArm (dt : Nat) (v : Byte) : Wf.Statement (.closeArm dt v) := ⟨fun _ => trivial, fun _ => rfl⟩
theorem Wf.closePulseEnd (dt : Nat) (gau : Gau) : Wf.Statement (.closePulseEnd dt gau) := ⟨fun _ => trivial, fun _ => rfl⟩
theorem Wf.leafAck (dt : Nat) (leaf : LeafReg) (mask : BitVec 32) (again : BitVec 32) :
    Wf.Statement (.leafAck dt leaf mask again) := ⟨fun _ => trivial, fun _ => rfl⟩
theorem Wf.registerWrite (dt : Nat) (idx : BitVec 16) (sub : Byte) (data : List Byte) (coincide : Bool) :
    Wf.Statement (.registerWrite dt idx sub data coincide) := ⟨fun _ => trivial, fun _ => rfl⟩
theorem Wf.testSpaceWrite (dt : Nat) (idx : BitVec 16) (sub : Byte) (data : List Byte) : Wf.Statement (.testSpaceWrite dt idx sub data) := by
  simp [Wf.Statement, Instr.wf, Wf.Bounds, testIdxOk]
theorem Wf.lockSet (dt : Nat) (v : Byte) : Wf.Statement (.lockSet dt v) := ⟨fun _ => trivial, fun _ => rfl⟩
theorem Wf.commitMapWrite (dt : Nat) (dom : Fin 10) (v : Byte) :
    Wf.Statement (.commitMapWrite dt dom v) := ⟨fun _ => trivial, fun _ => rfl⟩
theorem Wf.summaryRead (dt : Nat) (device : Bool) : Wf.Statement (.summaryRead dt device) := ⟨fun _ => trivial, fun _ => rfl⟩
theorem Wf.commitStrobe (dt : Nat) (mask : Byte) : Wf.Statement (.commitStrobe dt mask) := ⟨fun _ => trivial, fun _ => rfl⟩
theorem Wf.commitInEdge (dt : Nat) (rising : Bool) :
    Wf.Statement (.commitInEdge dt rising) := ⟨fun _ => trivial, fun _ => rfl⟩
theorem Wf.commitTimeArm (dt : Nat) (v : Byte) : Wf.Statement (.commitTimeArm dt v) := ⟨fun _ => trivial, fun _ => rfl⟩
theorem Wf.commitTimeFire (dt : Nat) : Wf.Statement (.commitTimeFire dt) := ⟨fun _ => trivial, fun _ => rfl⟩
theorem Wf.iopRead (dt : Nat) (u : Udp) : Wf.Statement (.iopRead dt u) := iopOk_iff 1 u
theorem Wf.iopWrite (dt : Nat) (u : Udp) : Wf.Statement (.iopWrite dt u) := iopOk_iff 2 u
theorem Wf.iopReadBlock (dt : Nat) (u : Udp) : Wf.Statement (.iopReadBlock dt u) := iopOk_iff 3 u
theorem Wf.iopWriteBlock (dt : Nat) (u : Udp) : Wf.Statement (.iopWriteBlock dt u) := iopOk_iff 4 u
theorem Wf.iopCommit (dt : Nat) (u : Udp) : Wf.Statement (.iopCommit dt u) := iopOk_iff 5 u
theorem Wf.dupCacheExpiry (dt : Nat) : Wf.Statement (.dupCacheExpiry dt) := ⟨fun _ => trivial, fun _ => rfl⟩
theorem Wf.notify (dt : Nat) (dest : Fin 2) : Wf.Statement (.notify dt dest) := ⟨fun _ => trivial, fun _ => rfl⟩
theorem Wf.spiRead (dt : Nat) (bytes : List Byte) : Wf.Statement (.spiRead dt bytes) := spiOk_iff 1 bytes
theorem Wf.spiWrite (dt : Nat) (bytes : List Byte) : Wf.Statement (.spiWrite dt bytes) := spiOk_iff 2 bytes
theorem Wf.spiReadBlock (dt : Nat) (bytes : List Byte) : Wf.Statement (.spiReadBlock dt bytes) := spiOk_iff 3 bytes
theorem Wf.spiWriteBlock (dt : Nat) (bytes : List Byte) : Wf.Statement (.spiWriteBlock dt bytes) := spiOk_iff 4 bytes
theorem Wf.netLinkChange (dt : Nat) (net : Fin 2) (up : LinkWord) :
    Wf.Statement (.netLinkChange dt net up) := ⟨fun _ => trivial, fun _ => rfl⟩
theorem Wf.prpSupervision (dt : Nat) : Wf.Statement (.prpSupervision dt) := ⟨fun _ => trivial, fun _ => rfl⟩
theorem Wf.netServiceRequest (dt : Nat) (rx : NetRx) (req : NetReq) :
    Wf.Statement (.netServiceRequest dt rx req) := ⟨fun _ => trivial, fun _ => rfl⟩
theorem Wf.imageWindowWrite (dt : Nat) (off : BitVec 32) (data : List Byte) :
    Wf.Statement (.imageWindowWrite dt off data) := ⟨fun _ => trivial, fun _ => rfl⟩
theorem Wf.imageVerify (dt : Nat) (v : Byte) : Wf.Statement (.imageVerify dt v) := ⟨fun _ => trivial, fun _ => rfl⟩
theorem Wf.imageVerifyDone (dt : Nat) : Wf.Statement (.imageVerifyDone dt) := ⟨fun _ => trivial, fun _ => rfl⟩
theorem Wf.imageErase (dt : Nat) (v : Byte) : Wf.Statement (.imageErase dt v) := ⟨fun _ => trivial, fun _ => rfl⟩
theorem Wf.rateWrite (dt : Nat) (v : BitVec 32) (coincide : Bool) :
    Wf.Statement (.rateWrite dt v coincide) := ⟨fun _ => trivial, fun _ => rfl⟩
theorem Wf.timeLatch (dt : Nat) (v : Byte) : Wf.Statement (.timeLatch dt v) := ⟨fun _ => trivial, fun _ => rfl⟩
theorem Wf.stToTtConvert (dt : Nat) (v : Byte) : Wf.Statement (.stToTtConvert dt v) := ⟨fun _ => trivial, fun _ => rfl⟩
theorem Wf.servoMeasurement (dt : Nat) : Wf.Statement (.servoMeasurement dt) := ⟨fun _ => trivial, fun _ => rfl⟩
theorem Wf.servoSourceLost (dt : Nat) : Wf.Statement (.servoSourceLost dt) := ⟨fun _ => trivial, fun _ => rfl⟩
theorem Wf.ptpSync (dt : Nat) (hdr : PtpHdr) (twoStep : Bool) (origin : PtpTime) :
    Wf.Statement (.ptpSync dt hdr twoStep origin) := ⟨fun _ => trivial, fun _ => rfl⟩
theorem Wf.ptpFollowUp (dt : Nat) (hdr : PtpHdr) (precise : PtpTime) :
    Wf.Statement (.ptpFollowUp dt hdr precise) := ⟨fun _ => trivial, fun _ => rfl⟩
theorem Wf.ptpAnnounce (dt : Nat) (hdr : PtpHdr) (ann : PtpAnnounce) :
    Wf.Statement (.ptpAnnounce dt hdr ann) := ⟨fun _ => trivial, fun _ => rfl⟩
theorem Wf.ptpAnnounceTimeout (dt : Nat) (net : Fin 2) (sync : Bool) :
    Wf.Statement (.ptpAnnounceTimeout dt net sync) := ⟨fun _ => trivial, fun _ => rfl⟩
theorem Wf.ptpPdelayReq (dt : Nat) (hdr : PtpHdr) : Wf.Statement (.ptpPdelayReq dt hdr) := ⟨fun _ => trivial, fun _ => rfl⟩
theorem Wf.ptpPdelayResp (dt : Nat) (hdr : PtpHdr) (receipt : PtpTime) (response : PtpTime) :
    Wf.Statement (.ptpPdelayResp dt hdr receipt response) := ⟨fun _ => trivial, fun _ => rfl⟩
theorem Wf.pdelayInterval (dt : Nat) (net : Fin 2) :
    Wf.Statement (.pdelayInterval dt net) := ⟨fun _ => trivial, fun _ => rfl⟩
theorem Wf.ppsInEdge (dt : Nat) (rising : Bool) : Wf.Statement (.ppsInEdge dt rising) := ⟨fun _ => trivial, fun _ => rfl⟩
theorem Wf.ppsMissing (dt : Nat) : Wf.Statement (.ppsMissing dt) := ⟨fun _ => trivial, fun _ => rfl⟩
theorem Wf.ppsOutRise (dt : Nat) : Wf.Statement (.ppsOutRise dt) := ⟨fun _ => trivial, fun _ => rfl⟩
theorem Wf.ppsOutFall (dt : Nat) : Wf.Statement (.ppsOutFall dt) := ⟨fun _ => trivial, fun _ => rfl⟩
theorem Wf.compareArm (dt : Nat) (tc : Tc) (v : Byte) :
    Wf.Statement (.compareArm dt tc v) := ⟨fun _ => trivial, fun _ => rfl⟩
theorem Wf.compareDisarm (dt : Nat) (tc : Tc) (v : Byte) :
    Wf.Statement (.compareDisarm dt tc v) := ⟨fun _ => trivial, fun _ => rfl⟩
theorem Wf.farCompareScan (dt : Nat) : Wf.Statement (.farCompareScan dt) := ⟨fun _ => trivial, fun _ => rfl⟩
theorem Wf.compareFire (dt : Nat) (tc : Tc) : Wf.Statement (.compareFire dt tc) := ⟨fun _ => trivial, fun _ => rfl⟩
theorem Wf.trigOutPulseEnd (dt : Nat) (pin : Fin 2) :
    Wf.Statement (.trigOutPulseEnd dt pin) := ⟨fun _ => trivial, fun _ => rfl⟩
theorem Wf.ttXcheck (dt : Nat) (advance : Nat) : Wf.Statement (.ttXcheck dt advance) := ⟨fun _ => trivial, fun _ => rfl⟩
theorem Wf.pllUnlock (dt : Nat) : Wf.Statement (.pllUnlock dt) := ⟨fun _ => trivial, fun _ => rfl⟩
theorem Wf.refclkLoss (dt : Nat) : Wf.Statement (.refclkLoss dt) := ⟨fun _ => trivial, fun _ => rfl⟩
theorem Wf.downlinkSlot (dt : Nat) (port : Port) : Wf.Statement (.downlinkSlot dt port) := ⟨fun _ => trivial, fun _ => rfl⟩
theorem Wf.sodReceive (dt : Nat) (port : Port) (addr : Fin 128) (burst : Burst) (los : Bool) :
    Wf.Statement (.sodReceive dt port addr burst los) := ⟨fun _ => trivial, fun _ => rfl⟩
theorem Wf.sodSlotMissed (dt : Nat) (port : Port) (addr : Fin 128) (los : Bool) :
    Wf.Statement (.sodSlotMissed dt port addr los) := ⟨fun _ => trivial, fun _ => rfl⟩
theorem Wf.announceReceive (dt : Nat) (port : Port) (burst : Burst) :
    Wf.Statement (.announceReceive dt port burst) := ⟨fun _ => trivial, fun _ => rfl⟩
theorem Wf.tinderCollision (dt : Nat) (port : Port) (bursts : List Burst) :
    Wf.Statement (.tinderCollision dt port bursts) := ⟨fun _ => trivial, fun _ => rfl⟩
theorem Wf.rangingWindowEnd (dt : Nat) (port : Port) (bursts : List Burst) :
    Wf.Statement (.rangingWindowEnd dt port bursts) := ⟨fun _ => trivial, fun _ => rfl⟩
theorem Wf.admitTimeout (dt : Nat) (slot : Slot) : Wf.Statement (.admitTimeout dt slot) := ⟨fun _ => trivial, fun _ => rfl⟩
theorem Wf.absentAfterExpiry (dt : Nat) (slot : Slot) :
    Wf.Statement (.absentAfterExpiry dt slot) := ⟨fun _ => trivial, fun _ => rfl⟩
theorem Wf.unexpectedBurst (dt : Nat) (burst : IdleBurst) :
    Wf.Statement (.unexpectedBurst dt burst) := ⟨fun _ => trivial, fun _ => rfl⟩
theorem Wf.mgmtResponseReceive (dt : Nat) (port : Port) (rsp : Nat) (burst : Burst) :
    Wf.Statement (.mgmtResponseReceive dt port rsp burst) := ⟨fun _ => trivial, fun _ => rfl⟩
theorem Wf.mgmtResponseTimeout (dt : Nat) (port : Port) (rsp : Nat) :
    Wf.Statement (.mgmtResponseTimeout dt port rsp) := ⟨fun _ => trivial, fun _ => rfl⟩
theorem Wf.cellMgmtStart (dt : Nat) (v : Byte) : Wf.Statement (.cellMgmtStart dt v) := ⟨fun _ => trivial, fun _ => rfl⟩
theorem Wf.strangerIdentify (dt : Nat) (n : Fin 64) (v : Byte) :
    Wf.Statement (.strangerIdentify dt n v) := ⟨fun _ => trivial, fun _ => rfl⟩
theorem Wf.strangerClear (dt : Nat) (n : Fin 64) (v : Byte) :
    Wf.Statement (.strangerClear dt n v) := ⟨fun _ => trivial, fun _ => rfl⟩
theorem Wf.turfSerialWrite (dt : Nat) (slot : Slot) (v : BitVec 64) :
    Wf.Statement (.turfSerialWrite dt slot v) := ⟨fun _ => trivial, fun _ => rfl⟩
theorem Wf.modeChangeStart (dt : Nat) (v : Byte) : Wf.Statement (.modeChangeStart dt v) := ⟨fun _ => trivial, fun _ => rfl⟩
theorem Wf.modeChangeAbort (dt : Nat) (v : Byte) : Wf.Statement (.modeChangeAbort dt v) := ⟨fun _ => trivial, fun _ => rfl⟩
theorem Wf.modeChangeDecision (dt : Nat) : Wf.Statement (.modeChangeDecision dt) := ⟨fun _ => trivial, fun _ => rfl⟩
theorem Wf.modeForceTimeout (dt : Nat) : Wf.Statement (.modeForceTimeout dt) := ⟨fun _ => trivial, fun _ => rfl⟩
theorem Wf.modeChangeCommit (dt : Nat) : Wf.Statement (.modeChangeCommit dt) := ⟨fun _ => trivial, fun _ => rfl⟩
theorem Wf.conversionStart (dt : Nat) (cv : Cv) : Wf.Statement (.conversionStart dt cv) := ⟨fun _ => trivial, fun _ => rfl⟩
theorem Wf.conversionDone (dt : Nat) (cv : Cv) (raw : BitVec 16) (satHi satLo ok : Bool) :
    Wf.Statement (.conversionDone dt cv raw satHi satLo ok) := ⟨fun _ => trivial, fun _ => rfl⟩
theorem Wf.urgentWrite (dt : Nat) (cv : Cv) (v : Byte) :
    Wf.Statement (.urgentWrite dt cv v) := ⟨fun _ => trivial, fun _ => rfl⟩
theorem Wf.calRequest (dt : Nat) (cv : Cv) (v : Byte) :
    Wf.Statement (.calRequest dt cv v) := ⟨fun _ => trivial, fun _ => rfl⟩
theorem Wf.calAll (dt : Nat) (v : Byte) : Wf.Statement (.calAll dt v) := ⟨fun _ => trivial, fun _ => rfl⟩
theorem Wf.calDone (dt : Nat) (cv : Cv) (ok : Bool) : Wf.Statement (.calDone dt cv ok) := ⟨fun _ => trivial, fun _ => rfl⟩
theorem Wf.vrefFault (dt : Nat) : Wf.Statement (.vrefFault dt) := ⟨fun _ => trivial, fun _ => rfl⟩
theorem Wf.ocCrossing (dt : Nat) (oc : Oc) (above : Bool) :
    Wf.Statement (.ocCrossing dt oc above) := ⟨fun _ => trivial, fun _ => rfl⟩
theorem Wf.ocRelease (dt : Nat) (oc : Oc) : Wf.Statement (.ocRelease dt oc) := ⟨fun _ => trivial, fun _ => rfl⟩
theorem Wf.ocReadback (dt : Nat) (oc : Oc) (high low : BitVec 16) :
    Wf.Statement (.ocReadback dt oc high low) := ⟨fun _ => trivial, fun _ => rfl⟩
theorem Wf.gauEdge (dt : Nat) (gau : Gau) (quadrant : Fin 4) :
    Wf.Statement (.gauEdge dt gau quadrant) := ⟨fun _ => trivial, fun _ => rfl⟩
theorem Wf.gauStandstill (dt : Nat) (gau : Gau) : Wf.Statement (.gauStandstill dt gau) := ⟨fun _ => trivial, fun _ => rfl⟩
theorem Wf.gauConversion (dt : Nat) (gau : Gau) (theta : BitVec 14) (amp : BitVec 16) :
    Wf.Statement (.gauConversion dt gau theta amp) := ⟨fun _ => trivial, fun _ => rfl⟩
theorem Wf.angleCompareArm (dt : Nat) (gau : Gau) (v : Byte) :
    Wf.Statement (.angleCompareArm dt gau v) := ⟨fun _ => trivial, fun _ => rfl⟩
theorem Wf.angleCompareDisarm (dt : Nat) (gau : Gau) (v : Byte) :
    Wf.Statement (.angleCompareDisarm dt gau v) := ⟨fun _ => trivial, fun _ => rfl⟩
theorem Wf.angleCompareFire (dt : Nat) (gau : Gau) :
    Wf.Statement (.angleCompareFire dt gau) := ⟨fun _ => trivial, fun _ => rfl⟩
theorem Wf.flueDatFrame (dt : Nat) : Wf.Statement (.flueDatFrame dt) := ⟨fun _ => trivial, fun _ => rfl⟩
theorem Wf.armSample (dt : Nat) (arm : Arm) : Wf.Statement (.armSample dt arm) := ⟨fun _ => trivial, fun _ => rfl⟩
theorem Wf.laneSelection (dt : Nat) (arm : Arm) : Wf.Statement (.laneSelection dt arm) := ⟨fun _ => trivial, fun _ => rfl⟩
theorem Wf.armOpen (dt : Nat) (arm : Arm) : Wf.Statement (.armOpen dt arm) := ⟨fun _ => trivial, fun _ => rfl⟩
theorem Wf.armClose (dt : Nat) (arm : Arm) : Wf.Statement (.armClose dt arm) := ⟨fun _ => trivial, fun _ => rfl⟩
theorem Wf.armHold (dt : Nat) (arm : Arm) : Wf.Statement (.armHold dt arm) := ⟨fun _ => trivial, fun _ => rfl⟩
theorem Wf.armBlock (dt : Nat) (arm : Arm) : Wf.Statement (.armBlock dt arm) := ⟨fun _ => trivial, fun _ => rfl⟩
theorem Wf.armDeblock (dt : Nat) (arm : Arm) : Wf.Statement (.armDeblock dt arm) := ⟨fun _ => trivial, fun _ => rfl⟩
theorem Wf.armWatchdogExpiry (dt : Nat) (arm : Arm) :
    Wf.Statement (.armWatchdogExpiry dt arm) := ⟨fun _ => trivial, fun _ => rfl⟩
theorem Wf.rankingSwitch (dt : Nat) (arm : Arm) : Wf.Statement (.rankingSwitch dt arm) := ⟨fun _ => trivial, fun _ => rfl⟩
theorem Wf.cellRetire (dt : Nat) (slot : Slot) : Wf.Statement (.cellRetire dt slot) := ⟨fun _ => trivial, fun _ => rfl⟩
theorem Wf.cellRelease (dt : Nat) (slot : Slot) : Wf.Statement (.cellRelease dt slot) := ⟨fun _ => trivial, fun _ => rfl⟩
theorem Wf.groupsWrite (dt : Nat) (slot : Slot) (v : BitVec 64) :
    Wf.Statement (.groupsWrite dt slot v) := ⟨fun _ => trivial, fun _ => rfl⟩
theorem Wf.laneAudit (dt : Nat) (lane : Fin 7) (agree : Bool) :
    Wf.Statement (.laneAudit dt lane agree) := ⟨fun _ => trivial, fun _ => rfl⟩
theorem Wf.spareIn (dt : Nat) (v : Byte) : Wf.Statement (.spareIn dt v) := ⟨fun _ => trivial, fun _ => rfl⟩
theorem Wf.spareLoadDone (dt : Nat) (ok : Bool) : Wf.Statement (.spareLoadDone dt ok) := ⟨fun _ => trivial, fun _ => rfl⟩
theorem Wf.kilnGrant (dt : Nat) (core : Fin 18) : Wf.Statement (.kilnGrant dt core) := ⟨fun _ => trivial, fun _ => rfl⟩
theorem Wf.nodeComplete (dt : Nat) (core : Fin 18) (same : Bool) :
    Wf.Statement (.nodeComplete dt core same) := ⟨fun _ => trivial, fun _ => rfl⟩
theorem Wf.rgDeadline (dt : Nat) (rg : Fin 4) : Wf.Statement (.rgDeadline dt rg) := ⟨fun _ => trivial, fun _ => rfl⟩
theorem Wf.nodeCancel (dt : Nat) (node : Fin 4096) (v : Byte) :
    Wf.Statement (.nodeCancel dt node v) := ⟨fun _ => trivial, fun _ => rfl⟩
theorem Wf.gateOpen (dt : Nat) (node : Fin 4096) : Wf.Statement (.gateOpen dt node) := ⟨fun _ => trivial, fun _ => rfl⟩
theorem Wf.gateClose (dt : Nat) (node : Fin 4096) : Wf.Statement (.gateClose dt node) := ⟨fun _ => trivial, fun _ => rfl⟩
theorem Wf.graphCheck (dt : Nat) (v : Byte) : Wf.Statement (.graphCheck dt v) := ⟨fun _ => trivial, fun _ => rfl⟩
theorem Wf.graphCheckDone (dt : Nat) : Wf.Statement (.graphCheckDone dt) := ⟨fun _ => trivial, fun _ => rfl⟩
theorem Wf.debugHalt (dt : Nat) : Wf.Statement (.debugHalt dt) := ⟨fun _ => trivial, fun _ => rfl⟩
theorem Wf.debugResume (dt : Nat) : Wf.Statement (.debugResume dt) := ⟨fun _ => trivial, fun _ => rfl⟩
theorem Wf.statClear (dt : Nat) (v : Byte) : Wf.Statement (.statClear dt v) := ⟨fun _ => trivial, fun _ => rfl⟩
theorem Wf.traceRestart (dt : Nat) (v : Byte) : Wf.Statement (.traceRestart dt v) := ⟨fun _ => trivial, fun _ => rfl⟩
theorem Wf.statsWindowEnd (dt : Nat) : Wf.Statement (.statsWindowEnd dt) := ⟨fun _ => trivial, fun _ => rfl⟩
theorem Wf.pwmPeriodStart (dt : Nat) (pw : Pw) : Wf.Statement (.pwmPeriodStart dt pw) := ⟨fun _ => trivial, fun _ => rfl⟩
theorem Wf.pwmCompareEvent (dt : Nat) (pw : Pw) : Wf.Statement (.pwmCompareEvent dt pw) := ⟨fun _ => trivial, fun _ => rfl⟩
theorem Wf.deadTimeExpiry (dt : Nat) (pw : Pw) (high : Bool) :
    Wf.Statement (.deadTimeExpiry dt pw high) := ⟨fun _ => trivial, fun _ => rfl⟩
theorem Wf.pwmTrip (dt : Nat) (pin : Pw) (level : Bool) :
    Wf.Statement (.pwmTrip dt pin level) := ⟨fun _ => trivial, fun _ => rfl⟩
theorem Wf.pwmCompareWrite (dt : Nat) (pw : Pw) (v : BitVec 32) :
    Wf.Statement (.pwmCompareWrite dt pw v) := ⟨fun _ => trivial, fun _ => rfl⟩
theorem Wf.pwmCompareArrival (dt : Nat) (pw : Pw) :
    Wf.Statement (.pwmCompareArrival dt pw) := ⟨fun _ => trivial, fun _ => rfl⟩
theorem Wf.pwmClear (dt : Nat) (pw : Pw) (v : Byte) : Wf.Statement (.pwmClear dt pw v) := ⟨fun _ => trivial, fun _ => rfl⟩
theorem Wf.damperEvent (dt : Nat) : Wf.Statement (.damperEvent dt) := ⟨fun _ => trivial, fun _ => rfl⟩
theorem Wf.damperWindowEnd (dt : Nat) (src : Byte) :
    Wf.Statement (.damperWindowEnd dt src) := ⟨fun _ => trivial, fun _ => rfl⟩
theorem Wf.faultForce (dt : Nat) (src : Byte) (v : Byte) :
    Wf.Statement (.faultForce dt src v) := ⟨fun _ => trivial, fun _ => rfl⟩
theorem Wf.faultClear (dt : Nat) (src : Byte) (v : Byte) :
    Wf.Statement (.faultClear dt src v) := ⟨fun _ => trivial, fun _ => rfl⟩
theorem Wf.faultClearAll (dt : Nat) (v : Byte) : Wf.Statement (.faultClearAll dt v) := ⟨fun _ => trivial, fun _ => rfl⟩
theorem Wf.coreStall (dt : Nat) (path : CorePath) : Wf.Statement (.coreStall dt path) := ⟨fun _ => trivial, fun _ => rfl⟩
theorem Wf.invalidDualRail (dt : Nat) : Wf.Statement (.invalidDualRail dt) := ⟨fun _ => trivial, fun _ => rfl⟩
theorem Wf.parityError (dt : Nat) : Wf.Statement (.parityError dt) := ⟨fun _ => trivial, fun _ => rfl⟩
theorem Wf.memoryReadError (dt : Nat) (loc : MemAt) (correctable : Bool) :
    Wf.Statement (.memoryReadError dt loc correctable) := ⟨fun _ => trivial, fun _ => rfl⟩
theorem Wf.scrubPass (dt : Nat) : Wf.Statement (.scrubPass dt) := ⟨fun _ => trivial, fun _ => rfl⟩
theorem Wf.maintStart (dt : Nat) (slot : Fin 4) (v : Byte) :
    Wf.Statement (.maintStart dt slot v) := ⟨fun _ => trivial, fun _ => rfl⟩
theorem Wf.maintAbort (dt : Nat) (slot : Fin 4) (v : Byte) (done : Option Bool) :
    Wf.Statement (.maintAbort dt slot v done) := ⟨fun _ => trivial, fun _ => rfl⟩
theorem Wf.maintActivityDone (dt : Nat) (slot : Fin 4) (ok : Bool) (value : BitVec 32) :
    Wf.Statement (.maintActivityDone dt slot ok value) := ⟨fun _ => trivial, fun _ => rfl⟩
theorem Wf.maintAutoStart (dt : Nat) : Wf.Statement (.maintAutoStart dt) := ⟨fun _ => trivial, fun _ => rfl⟩
theorem Wf.proofDue (dt : Nat) : Wf.Statement (.proofDue dt) := ⟨fun _ => trivial, fun _ => rfl⟩
theorem Wf.heartbeatSend (dt : Nat) : Wf.Statement (.heartbeatSend dt) := ⟨fun _ => trivial, fun _ => rfl⟩
theorem Wf.heartbeatReceive (dt : Nat) (hb : Heartbeat) (crcOk : Bool) :
    Wf.Statement (.heartbeatReceive dt hb crcOk) := ⟨fun _ => trivial, fun _ => rfl⟩
theorem Wf.emberFrameReceive (dt : Nat) (slot : Fin 2) (off : Fin 512) (e : BitVec 64) (bytes : List Byte) (crcOk : Bool) : Wf.Statement (.emberFrameReceive dt slot off e bytes crcOk) := by
  simp [Wf.Statement, Instr.wf, Wf.Bounds, emberOk]
theorem Wf.statusFrameReceive (dt : Nat) (st : TwinStatus) (crcOk : Bool) :
    Wf.Statement (.statusFrameReceive dt st crcOk) := ⟨fun _ => trivial, fun _ => rfl⟩
theorem Wf.hbInEdge (dt : Nat) : Wf.Statement (.hbInEdge dt) := ⟨fun _ => trivial, fun _ => rfl⟩
theorem Wf.twinPathLost (dt : Nat) (fibre : Bool) : Wf.Statement (.twinPathLost dt fibre) := ⟨fun _ => trivial, fun _ => rfl⟩
theorem Wf.actInToggle (dt : Nat) : Wf.Statement (.actInToggle dt) := ⟨fun _ => trivial, fun _ => rfl⟩
theorem Wf.actInQuiet (dt : Nat) : Wf.Statement (.actInQuiet dt) := ⟨fun _ => trivial, fun _ => rfl⟩
theorem Wf.coreWakeDone (dt : Nat) (ok : Bool) : Wf.Statement (.coreWakeDone dt ok) := ⟨fun _ => trivial, fun _ => rfl⟩
theorem Wf.emberLoadDone (dt : Nat) : Wf.Statement (.emberLoadDone dt) := ⟨fun _ => trivial, fun _ => rfl⟩
theorem Wf.takeoverResume (dt : Nat) : Wf.Statement (.takeoverResume dt) := ⟨fun _ => trivial, fun _ => rfl⟩
theorem Wf.leaseExpiry (dt : Nat) : Wf.Statement (.leaseExpiry dt) := ⟨fun _ => trivial, fun _ => rfl⟩
theorem Wf.identityAnnounce (dt : Nat) : Wf.Statement (.identityAnnounce dt) := ⟨fun _ => trivial, fun _ => rfl⟩
theorem Wf.emberStreamDone (dt : Nat) : Wf.Statement (.emberStreamDone dt) := ⟨fun _ => trivial, fun _ => rfl⟩
theorem Wf.slowCopy (dt : Nat) : Wf.Statement (.slowCopy dt) := ⟨fun _ => trivial, fun _ => rfl⟩
theorem Wf.acqArm (dt : Nat) (v : Byte) : Wf.Statement (.acqArm dt v) := ⟨fun _ => trivial, fun _ => rfl⟩
theorem Wf.acqAbort (dt : Nat) (v : Byte) : Wf.Statement (.acqAbort dt v) := ⟨fun _ => trivial, fun _ => rfl⟩
theorem Wf.acqPretimeElapsed (dt : Nat) : Wf.Statement (.acqPretimeElapsed dt) := ⟨fun _ => trivial, fun _ => rfl⟩
theorem Wf.acqRecordDone (dt : Nat) : Wf.Statement (.acqRecordDone dt) := ⟨fun _ => trivial, fun _ => rfl⟩
theorem Wf.segmentRelease (dt : Nat) (seg : Fin 16) (v : Byte) :
    Wf.Statement (.segmentRelease dt seg v) := ⟨fun _ => trivial, fun _ => rfl⟩
theorem Wf.trigInEdge (dt : Nat) (pin : Fin 2) (rising : Bool) :
    Wf.Statement (.trigInEdge dt pin rising) := ⟨fun _ => trivial, fun _ => rfl⟩
theorem Wf.xtrigEdge (dt : Nat) : Wf.Statement (.xtrigEdge dt) := ⟨fun _ => trivial, fun _ => rfl⟩
theorem Wf.xtrigStuck (dt : Nat) : Wf.Statement (.xtrigStuck dt) := ⟨fun _ => trivial, fun _ => rfl⟩
theorem Wf.xtrigDriveEnd (dt : Nat) : Wf.Statement (.xtrigDriveEnd dt) := ⟨fun _ => trivial, fun _ => rfl⟩
theorem Wf.triggerForce (dt : Nat) (v : Byte) : Wf.Statement (.triggerForce dt v) := ⟨fun _ => trivial, fun _ => rfl⟩
theorem Wf.triggerResolve (dt : Nat) : Wf.Statement (.triggerResolve dt) := ⟨fun _ => trivial, fun _ => rfl⟩
theorem Wf.ashArm (dt : Nat) (v : Byte) : Wf.Statement (.ashArm dt v) := ⟨fun _ => trivial, fun _ => rfl⟩
theorem Wf.ashStop (dt : Nat) (v : Byte) : Wf.Statement (.ashStop dt v) := ⟨fun _ => trivial, fun _ => rfl⟩
theorem Wf.ashPostDone (dt : Nat) : Wf.Statement (.ashPostDone dt) := ⟨fun _ => trivial, fun _ => rfl⟩
theorem Wf.ecSnap (dt : Nat) (v : Byte) : Wf.Statement (.ecSnap dt v) := ⟨fun _ => trivial, fun _ => rfl⟩
theorem Wf.pllRelock (dt : Nat) : Wf.Statement (.pllRelock dt) := ⟨fun _ => trivial, fun _ => rfl⟩
theorem Wf.vrefRestored (dt : Nat) : Wf.Statement (.vrefRestored dt) := ⟨fun _ => trivial, fun _ => rfl⟩
theorem Wf.xtrigReleased (dt : Nat) : Wf.Statement (.xtrigReleased dt) := ⟨fun _ => trivial, fun _ => rfl⟩

end Sys2Proof.Laws
end

