-- ==== Sys2Proof/Laws/Pulse.lean ====
section
/-!
SUPPORT. Each write-pulse that a command names: it is a write-pulse row, and what its pulse does.
-/
namespace Sys2Proof.Machine

theorem isPulse_DEVCMD_DEV_CMD : isPulse Reg.DEVCMD.DEV_CMD 1 = true := by decide +kernel
theorem Dev.pulse_DEVCMD_DEV_CMD (d : Dev) (m : Memory) (v : Nat) (x : Meet) : d.pulse m Reg.DEVCMD.DEV_CMD v x = d.devCmd m v := rfl
theorem isPulse_COMMIT_STROBE : isPulse Reg.COMMIT.STROBE 1 = true := by decide +kernel
theorem Dev.pulse_COMMIT_STROBE (d : Dev) (m : Memory) (v : Nat) (x : Meet) : d.pulse m Reg.COMMIT.STROBE v x = (d.commitNow m v).1.ret stOK := rfl
theorem isPulse_STN_CLOSE_ARM : isPulse Reg.STN.CLOSE_ARM 1 = true := by decide +kernel
theorem Dev.pulse_STN_CLOSE_ARM (d : Dev) (m : Memory) (v : Nat) (x : Meet) : d.pulse m Reg.STN.CLOSE_ARM v x = d.closeArmWrite v := rfl
theorem isPulse_SPARE_SPARE_IN : isPulse Reg.SPARE.SPARE_IN 1 = true := by decide +kernel
theorem Dev.pulse_SPARE_SPARE_IN (d : Dev) (m : Memory) (v : Nat) (x : Meet) : d.pulse m Reg.SPARE.SPARE_IN v x = d.spareIn v := rfl
theorem isPulse_COMMIT_TIME_ARM : isPulse Reg.COMMIT.TIME_ARM 1 = true := by decide +kernel
theorem Dev.pulse_COMMIT_TIME_ARM (d : Dev) (m : Memory) (x : Meet) : d.pulse m Reg.COMMIT.TIME_ARM 1 x = d.timeArm m := rfl
theorem isPulse_IMAGE_VERIFY : isPulse Reg.IMAGE.VERIFY 1 = true := by decide +kernel
theorem Dev.pulse_IMAGE_VERIFY (d : Dev) (m : Memory) (x : Meet) : d.pulse m Reg.IMAGE.VERIFY 1 x = d.imageVerify x.net := rfl
theorem isPulse_IMAGE_ERASE : isPulse Reg.IMAGE.ERASE 1 = true := by decide +kernel
theorem Dev.pulse_IMAGE_ERASE (d : Dev) (m : Memory) (x : Meet) : d.pulse m Reg.IMAGE.ERASE 1 x = d.imageErase m := rfl
theorem isPulse_TB_LATCH : isPulse Reg.TB.LATCH 1 = true := by decide +kernel
theorem Dev.pulse_TB_LATCH (d : Dev) (m : Memory) (x : Meet) : d.pulse m Reg.TB.LATCH 1 x = d.latch.ret stOK := rfl
theorem isPulse_CONVT_CONVERT : isPulse Reg.CONVT.CONVERT 1 = true := by decide +kernel
theorem Dev.pulse_CONVT_CONVERT (d : Dev) (m : Memory) (x : Meet) : d.pulse m Reg.CONVT.CONVERT 1 x = d.convert.ret stOK := rfl
theorem isPulse_MBX_START : isPulse Reg.MBX.START 1 = true := by decide +kernel
theorem Dev.pulse_MBX_START (d : Dev) (m : Memory) (x : Meet) : d.pulse m Reg.MBX.START 1 x = d.mbxStart m := rfl
theorem isPulse_MODE_START : isPulse Reg.MODE.START 1 = true := by decide +kernel
theorem Dev.pulse_MODE_START (d : Dev) (m : Memory) (x : Meet) : d.pulse m Reg.MODE.START 1 x = d.modeStart := rfl
theorem isPulse_MODE_ABORT : isPulse Reg.MODE.ABORT 1 = true := by decide +kernel
theorem Dev.pulse_MODE_ABORT (d : Dev) (m : Memory) (x : Meet) : d.pulse m Reg.MODE.ABORT 1 x = d.modeAbortWrite := rfl
theorem isPulse_MEAS_CAL_ALL : isPulse Reg.MEAS.CAL_ALL 1 = true := by decide +kernel
theorem Dev.pulse_MEAS_CAL_ALL (d : Dev) (m : Memory) (x : Meet) : d.pulse m Reg.MEAS.CAL_ALL 1 x = d.calAll := rfl
theorem isPulse_KILN_CHECK : isPulse Reg.KILN.CHECK 1 = true := by decide +kernel
theorem Dev.pulse_KILN_CHECK (d : Dev) (m : Memory) (x : Meet) : d.pulse m Reg.KILN.CHECK 1 x = d.graphCheck := rfl
theorem isPulse_KILN_STAT_CLEAR : isPulse Reg.KILN.STAT_CLEAR 1 = true := by decide +kernel
theorem Dev.pulse_KILN_STAT_CLEAR (d : Dev) (m : Memory) (x : Meet) : d.pulse m Reg.KILN.STAT_CLEAR 1 x = d.statClear := rfl
theorem isPulse_TRACE_RESTART : isPulse Reg.TRACE.RESTART 1 = true := by decide +kernel
theorem Dev.pulse_TRACE_RESTART (d : Dev) (m : Memory) (x : Meet) : d.pulse m Reg.TRACE.RESTART 1 x = d.traceRestart := rfl
theorem isPulse_DAMP_CLEAR_ALL : isPulse Reg.DAMP.CLEAR_ALL 1 = true := by decide +kernel
theorem Dev.pulse_DAMP_CLEAR_ALL (d : Dev) (m : Memory) (x : Meet) : d.pulse m Reg.DAMP.CLEAR_ALL 1 x = d.faultClearAll := rfl
theorem isPulse_ACQ_ARM : isPulse Reg.ACQ.ARM 1 = true := by decide +kernel
theorem Dev.pulse_ACQ_ARM (d : Dev) (m : Memory) (x : Meet) : d.pulse m Reg.ACQ.ARM 1 x = d.acqArm := rfl
theorem isPulse_ACQ_ABORT : isPulse Reg.ACQ.ABORT 1 = true := by decide +kernel
theorem Dev.pulse_ACQ_ABORT (d : Dev) (m : Memory) (x : Meet) : d.pulse m Reg.ACQ.ABORT 1 x = d.acqAbort := rfl
theorem isPulse_TRIG_FORCE : isPulse Reg.TRIG.FORCE 1 = true := by decide +kernel
theorem Dev.pulse_TRIG_FORCE (d : Dev) (m : Memory) (x : Meet) : d.pulse m Reg.TRIG.FORCE 1 x = d.trigForce := rfl
theorem isPulse_ASH_ASH_ARM : isPulse Reg.ASH.ASH_ARM 1 = true := by decide +kernel
theorem Dev.pulse_ASH_ASH_ARM (d : Dev) (m : Memory) (x : Meet) : d.pulse m Reg.ASH.ASH_ARM 1 x = d.ashStart := rfl
theorem isPulse_ASH_ASH_STOP : isPulse Reg.ASH.ASH_STOP 1 = true := by decide +kernel
theorem Dev.pulse_ASH_ASH_STOP (d : Dev) (m : Memory) (x : Meet) : d.pulse m Reg.ASH.ASH_STOP 1 x = d.ashRows.ashStop := rfl
theorem isPulse_EC_SNAP : isPulse Reg.EC.SNAP 1 = true := by decide +kernel
theorem Dev.pulse_EC_SNAP (d : Dev) (m : Memory) (x : Meet) : d.pulse m Reg.EC.SNAP 1 x = d.snap.ret stOK := rfl

theorem isPulse_TC_ARM : ∀ n, n < 16 → isPulse (Reg.TC.ARM n) 1 = true := by decide +kernel
theorem Dev.pulse_TC_ARM (d : Dev) (m : Memory) (x : Meet) :
    ∀ n, n < 16 → d.pulse m (Reg.TC.ARM n) 1 x = d.compareArm n := by
  intro n hn
  iterate 16 (rcases n with _ | n; · rfl)
  omega
theorem isPulse_TC_DISARM : ∀ n, n < 16 → isPulse (Reg.TC.DISARM n) 1 = true := by decide +kernel
theorem Dev.pulse_TC_DISARM (d : Dev) (m : Memory) (x : Meet) :
    ∀ n, n < 16 → d.pulse m (Reg.TC.DISARM n) 1 x = d.compareDisarm n := by
  intro n hn
  iterate 16 (rcases n with _ | n; · rfl)
  omega
theorem isPulse_CV_URGENT : ∀ n, n < 18 → isPulse (Reg.CV.URGENT n) 1 = true := by decide +kernel
theorem Dev.pulse_CV_URGENT (d : Dev) (m : Memory) (x : Meet) :
    ∀ n, n < 18 → d.pulse m (Reg.CV.URGENT n) 1 x = d.urgentWrite n := by
  intro n hn
  iterate 18 (rcases n with _ | n; · rfl)
  omega
theorem isPulse_CV_CAL : ∀ n, n < 18 → isPulse (Reg.CV.CAL n) 1 = true := by decide +kernel
theorem Dev.pulse_CV_CAL (d : Dev) (m : Memory) (x : Meet) :
    ∀ n, n < 18 → d.pulse m (Reg.CV.CAL n) 1 x = d.maCal n := by
  intro n hn
  iterate 18 (rcases n with _ | n; · rfl)
  omega
theorem isPulse_GAU_CMP_ARM : ∀ n, n < 2 → isPulse (Reg.GAU.CMP_ARM n) 1 = true := by decide +kernel
theorem Dev.pulse_GAU_CMP_ARM (d : Dev) (m : Memory) (x : Meet) :
    ∀ n, n < 2 → d.pulse m (Reg.GAU.CMP_ARM n) 1 x = d.angleArm n := by
  intro n hn
  iterate 2 (rcases n with _ | n; · rfl)
  omega
theorem isPulse_GAU_CMP_DISARM : ∀ n, n < 2 → isPulse (Reg.GAU.CMP_DISARM n) 1 = true := by decide +kernel
theorem Dev.pulse_GAU_CMP_DISARM (d : Dev) (m : Memory) (x : Meet) :
    ∀ n, n < 2 → d.pulse m (Reg.GAU.CMP_DISARM n) 1 x = d.angleDisarm n := by
  intro n hn
  iterate 2 (rcases n with _ | n; · rfl)
  omega
theorem isPulse_ARM_ARM_CMD : ∀ n, n < 6 → isPulse (Reg.ARM.ARM_CMD n) 1 = true := by decide +kernel
theorem Dev.pulse_ARM_ARM_CMD (d : Dev) (m : Memory) (v : Nat) (x : Meet) :
    ∀ n, n < 6 → d.pulse m (Reg.ARM.ARM_CMD n) v x = d.armCmd n v := by
  intro n hn
  iterate 6 (rcases n with _ | n; · rfl)
  omega
theorem isPulse_PWM_CLEAR : ∀ n, n < 6 → isPulse (Reg.PWM.CLEAR n) 1 = true := by decide +kernel
theorem Dev.pulse_PWM_CLEAR (d : Dev) (m : Memory) (x : Meet) :
    ∀ n, n < 6 → d.pulse m (Reg.PWM.CLEAR n) 1 x = d.pwClear n := by
  intro n hn
  iterate 6 (rcases n with _ | n; · rfl)
  omega
theorem isPulse_MSLOT_START : ∀ n, n < 4 → isPulse (Reg.MSLOT.START n) 1 = true := by decide +kernel
theorem Dev.pulse_MSLOT_START (d : Dev) (m : Memory) (x : Meet) :
    ∀ n, n < 4 → d.pulse m (Reg.MSLOT.START n) 1 x = d.maStartWrite n := by
  intro n hn
  iterate 4 (rcases n with _ | n; · rfl)
  omega
theorem isPulse_MSLOT_ABORT : ∀ n, n < 4 → isPulse (Reg.MSLOT.ABORT n) 1 = true := by decide +kernel
theorem Dev.pulse_MSLOT_ABORT (d : Dev) (m : Memory) (x : Meet) :
    ∀ n, n < 4 → d.pulse m (Reg.MSLOT.ABORT n) 1 x = d.maAbort n x.done := by
  intro n hn
  iterate 4 (rcases n with _ | n; · rfl)
  omega
theorem isPulse_SEG_RELEASE : ∀ n, n < 16 → isPulse (Reg.SEG.RELEASE n) 1 = true := by decide +kernel
theorem Dev.pulse_SEG_RELEASE (d : Dev) (m : Memory) (x : Meet) :
    ∀ n, n < 16 → d.pulse m (Reg.SEG.RELEASE n) 1 x = d.segRelease n := by
  intro n hn
  iterate 16 (rcases n with _ | n; · rfl)
  omega

/-! Nodes, cells, sources and strangers. -/

theorem ackOf_high {k : Nat} (h : 0x300000 ≤ k) : ackOf k = none := by
  simp only [ackOf, Bool.and_eq_true, decide_eq_true_eq, beq_iff_eq, Reg.TB.ACK, Reg.KILN.ACK, Reg.ACQ.ACK]
  repeat rw [if_neg (by omega)]

theorem isPulse_NODE_CANCEL {n : Nat} (hn : n < 4096) : isPulse (Reg.NODE.CANCEL n) 1 = true := by
  have hi : Reg.NODE.CANCEL n / 256 = 0x3000 + n := by simp only [Reg.NODE.CANCEL]; omega
  have hs : Reg.NODE.CANCEL n % 256 = 0x17 := by simp only [Reg.NODE.CANCEL]; omega
  have ho : objectAt (0x3000 + n) = some objNODE := by
    simp only [objectAt, objectsOf]
    repeat rw [if_neg (by omega)]
    simp only [objectsHi, List.find?]
    grind
  simp only [isPulse, hi, hs, ho, entryAt, Option.bind_some]
  have ht : isTestIdx (0x3000 + n) = false := by simp only [isTestIdx, Bool.and_eq_false_iff, decide_eq_false_iff_not]; omega
  rw [ht]; rfl

theorem Dev.pulse_NODE_CANCEL (d : Dev) (m : Memory) (x : Meet) {n : Nat} (hn : n < 4096) :
    d.pulse m (Reg.NODE.CANCEL n) 1 x = d.nodeCancel n := by
  have hi : Reg.NODE.CANCEL n / 256 = 0x3000 + n := by simp only [Reg.NODE.CANCEL]; omega
  have hs : Reg.NODE.CANCEL n % 256 = 0x17 := by simp only [Reg.NODE.CANCEL]; omega
  have hk : 0x300000 ≤ Reg.NODE.CANCEL n := by simp only [Reg.NODE.CANCEL]; omega
  have hd : 0x3000 + n - 0x3000 = n := by omega
  simp only [Dev.pulse, ackOf_high hk, Dev.codePulse, Dev.onePulse, hi, hs]
  simp only [Reg.DEVCMD.DEV_CMD, Reg.COMMIT.STROBE, Reg.STN.CLOSE_ARM, Reg.SPARE.SPARE_IN, Reg.STRANGER.IDENTIFY, Reg.NODE.GATE_CMD, Reg.COMMIT.TIME_ARM, Reg.IMAGE.VERIFY, Reg.IMAGE.ERASE, Reg.TB.LATCH, Reg.CONVT.CONVERT, Reg.MBX.START, Reg.MODE.START, Reg.MODE.ABORT, Reg.MEAS.CAL_ALL, Reg.KILN.CHECK, Reg.KILN.STAT_CLEAR, Reg.TRACE.RESTART, Reg.DAMP.CLEAR_ALL, Reg.ACQ.ARM, Reg.ACQ.ABORT, Reg.TRIG.FORCE, Reg.ASH.ASH_ARM, Reg.ASH.ASH_STOP, Reg.EC.SNAP, Reg.NODE.CANCEL, beq_iff_eq, Bool.and_eq_true, decide_eq_true_eq]
  grind

theorem isPulse_NODE_GATE_CMD {n : Nat} (hn : n < 4096) : isPulse (Reg.NODE.GATE_CMD n) 1 = true := by
  have hi : Reg.NODE.GATE_CMD n / 256 = 0x3000 + n := by simp only [Reg.NODE.GATE_CMD]; omega
  have hs : Reg.NODE.GATE_CMD n % 256 = 0x16 := by simp only [Reg.NODE.GATE_CMD]; omega
  have ho : objectAt (0x3000 + n) = some objNODE := by
    simp only [objectAt, objectsOf]
    repeat rw [if_neg (by omega)]
    simp only [objectsHi, List.find?]
    grind
  simp only [isPulse, hi, hs, ho, entryAt, Option.bind_some]
  have ht : isTestIdx (0x3000 + n) = false := by simp only [isTestIdx, Bool.and_eq_false_iff, decide_eq_false_iff_not]; omega
  rw [ht]; rfl

theorem Dev.pulse_NODE_GATE_CMD (d : Dev) (m : Memory) (v : Nat) (x : Meet) {n : Nat} (hn : n < 4096) :
    d.pulse m (Reg.NODE.GATE_CMD n) v x = if v == 1 then d.gateOpenCmd n else if v == 2 then d.gateCloseCmd n else d.ret stSTATE := by
  have hi : Reg.NODE.GATE_CMD n / 256 = 0x3000 + n := by simp only [Reg.NODE.GATE_CMD]; omega
  have hs : Reg.NODE.GATE_CMD n % 256 = 0x16 := by simp only [Reg.NODE.GATE_CMD]; omega
  have hk : 0x300000 ≤ Reg.NODE.GATE_CMD n := by simp only [Reg.NODE.GATE_CMD]; omega
  have hd : 0x3000 + n - 0x3000 = n := by omega
  simp only [Dev.pulse, ackOf_high hk, Dev.codePulse, Dev.onePulse, hi, hs]
  simp only [Reg.DEVCMD.DEV_CMD, Reg.COMMIT.STROBE, Reg.STN.CLOSE_ARM, Reg.SPARE.SPARE_IN, Reg.STRANGER.IDENTIFY, Reg.COMMIT.TIME_ARM, Reg.IMAGE.VERIFY, Reg.IMAGE.ERASE, Reg.TB.LATCH, Reg.CONVT.CONVERT, Reg.MBX.START, Reg.MODE.START, Reg.MODE.ABORT, Reg.MEAS.CAL_ALL, Reg.KILN.CHECK, Reg.KILN.STAT_CLEAR, Reg.TRACE.RESTART, Reg.DAMP.CLEAR_ALL, Reg.ACQ.ARM, Reg.ACQ.ABORT, Reg.TRIG.FORCE, Reg.ASH.ASH_ARM, Reg.ASH.ASH_STOP, Reg.EC.SNAP, Reg.NODE.GATE_CMD, beq_iff_eq, Bool.and_eq_true, decide_eq_true_eq]
  grind

theorem isPulse_CELL_RETIRE {n : Nat} (hn : n < 3072) : isPulse (Reg.CELL.RETIRE n) 1 = true := by
  have hi : Reg.CELL.RETIRE n / 256 = 0x8000 + n := by simp only [Reg.CELL.RETIRE]; omega
  have hs : Reg.CELL.RETIRE n % 256 = 0x14 := by simp only [Reg.CELL.RETIRE]; omega
  have ho : objectAt (0x8000 + n) = some objCELL := by
    simp only [objectAt, objectsOf]
    repeat rw [if_neg (by omega)]
    simp only [objectsHi, List.find?]
    grind
  simp only [isPulse, hi, hs, ho, entryAt, Option.bind_some]
  have ht : isTestIdx (0x8000 + n) = false := by simp only [isTestIdx, Bool.and_eq_false_iff, decide_eq_false_iff_not]; omega
  rw [ht]; rfl

theorem Dev.pulse_CELL_RETIRE (d : Dev) (m : Memory) (v : Nat) (x : Meet) {n : Nat} (hn : n < 3072) :
    d.pulse m (Reg.CELL.RETIRE n) v x = if v == 1 then d.cellRetire n else if v == 2 then d.cellRelease n else d.ret stSTATE := by
  have hi : Reg.CELL.RETIRE n / 256 = 0x8000 + n := by simp only [Reg.CELL.RETIRE]; omega
  have hs : Reg.CELL.RETIRE n % 256 = 0x14 := by simp only [Reg.CELL.RETIRE]; omega
  have hk : 0x300000 ≤ Reg.CELL.RETIRE n := by simp only [Reg.CELL.RETIRE]; omega
  have hd : 0x8000 + n - 0x8000 = n := by omega
  simp only [Dev.pulse, ackOf_high hk, Dev.codePulse, Dev.onePulse, hi, hs]
  simp only [Reg.DEVCMD.DEV_CMD, Reg.COMMIT.STROBE, Reg.STN.CLOSE_ARM, Reg.SPARE.SPARE_IN, Reg.STRANGER.IDENTIFY, Reg.NODE.GATE_CMD, Reg.COMMIT.TIME_ARM, Reg.IMAGE.VERIFY, Reg.IMAGE.ERASE, Reg.TB.LATCH, Reg.CONVT.CONVERT, Reg.MBX.START, Reg.MODE.START, Reg.MODE.ABORT, Reg.MEAS.CAL_ALL, Reg.KILN.CHECK, Reg.KILN.STAT_CLEAR, Reg.TRACE.RESTART, Reg.DAMP.CLEAR_ALL, Reg.ACQ.ARM, Reg.ACQ.ABORT, Reg.TRIG.FORCE, Reg.ASH.ASH_ARM, Reg.ASH.ASH_STOP, Reg.EC.SNAP, Reg.CELL.RETIRE, beq_iff_eq, Bool.and_eq_true, decide_eq_true_eq]
  grind

theorem isPulse_FSRC_CLEAR : ∀ n, n < 256 → isPulse (Reg.FSRC.CLEAR n) 1 = true := by decide +kernel

theorem Dev.pulse_FSRC_CLEAR (d : Dev) (m : Memory) (x : Meet) {n : Nat} (hn : n < 256) :
    d.pulse m (Reg.FSRC.CLEAR n) 1 x = d.faultClear n := by
  have hi : Reg.FSRC.CLEAR n / 256 = 0x4000 + n := by simp only [Reg.FSRC.CLEAR]; omega
  have hs : Reg.FSRC.CLEAR n % 256 = 0x9 := by simp only [Reg.FSRC.CLEAR]; omega
  have hk : 0x300000 ≤ Reg.FSRC.CLEAR n := by simp only [Reg.FSRC.CLEAR]; omega
  have hd : 0x4000 + n - 0x4000 = n := by omega
  simp only [Dev.pulse, ackOf_high hk, Dev.codePulse, Dev.onePulse, hi, hs]
  simp only [Reg.DEVCMD.DEV_CMD, Reg.COMMIT.STROBE, Reg.STN.CLOSE_ARM, Reg.SPARE.SPARE_IN, Reg.STRANGER.IDENTIFY, Reg.NODE.GATE_CMD, Reg.COMMIT.TIME_ARM, Reg.IMAGE.VERIFY, Reg.IMAGE.ERASE, Reg.TB.LATCH, Reg.CONVT.CONVERT, Reg.MBX.START, Reg.MODE.START, Reg.MODE.ABORT, Reg.MEAS.CAL_ALL, Reg.KILN.CHECK, Reg.KILN.STAT_CLEAR, Reg.TRACE.RESTART, Reg.DAMP.CLEAR_ALL, Reg.ACQ.ARM, Reg.ACQ.ABORT, Reg.TRIG.FORCE, Reg.ASH.ASH_ARM, Reg.ASH.ASH_STOP, Reg.EC.SNAP, Reg.FSRC.CLEAR, beq_iff_eq, Bool.and_eq_true, decide_eq_true_eq]
  grind

theorem isPulse_FSRC_FORCE : ∀ n, n < 256 → isPulse (Reg.FSRC.FORCE n) 1 = true := by decide +kernel

theorem Dev.pulse_FSRC_FORCE (d : Dev) (m : Memory) (x : Meet) {n : Nat} (hn : n < 256) :
    d.pulse m (Reg.FSRC.FORCE n) 1 x = d.faultForce n := by
  have hi : Reg.FSRC.FORCE n / 256 = 0x4000 + n := by simp only [Reg.FSRC.FORCE]; omega
  have hs : Reg.FSRC.FORCE n % 256 = 0xa := by simp only [Reg.FSRC.FORCE]; omega
  have hk : 0x300000 ≤ Reg.FSRC.FORCE n := by simp only [Reg.FSRC.FORCE]; omega
  have hd : 0x4000 + n - 0x4000 = n := by omega
  simp only [Dev.pulse, ackOf_high hk, Dev.codePulse, Dev.onePulse, hi, hs]
  simp only [Reg.DEVCMD.DEV_CMD, Reg.COMMIT.STROBE, Reg.STN.CLOSE_ARM, Reg.SPARE.SPARE_IN, Reg.STRANGER.IDENTIFY, Reg.NODE.GATE_CMD, Reg.COMMIT.TIME_ARM, Reg.IMAGE.VERIFY, Reg.IMAGE.ERASE, Reg.TB.LATCH, Reg.CONVT.CONVERT, Reg.MBX.START, Reg.MODE.START, Reg.MODE.ABORT, Reg.MEAS.CAL_ALL, Reg.KILN.CHECK, Reg.KILN.STAT_CLEAR, Reg.TRACE.RESTART, Reg.DAMP.CLEAR_ALL, Reg.ACQ.ARM, Reg.ACQ.ABORT, Reg.TRIG.FORCE, Reg.ASH.ASH_ARM, Reg.ASH.ASH_STOP, Reg.EC.SNAP, Reg.FSRC.FORCE, beq_iff_eq, Bool.and_eq_true, decide_eq_true_eq]
  grind

theorem isPulse_STRANGER_IDENTIFY : ∀ n, n < 64 → isPulse (Reg.STRANGER.IDENTIFY n) 1 = true := by decide +kernel

theorem Dev.pulse_STRANGER_IDENTIFY (d : Dev) (m : Memory) (v : Nat) (x : Meet) {n : Nat} (hn : n < 64) :
    d.pulse m (Reg.STRANGER.IDENTIFY n) v x = if v == 0 then d.ret stOK else if v ≤ 2 then d.strangerIdentify n v else d.ret stRANGE := by
  have hi : Reg.STRANGER.IDENTIFY n / 256 = 0x9e00 + n := by simp only [Reg.STRANGER.IDENTIFY]; omega
  have hs : Reg.STRANGER.IDENTIFY n % 256 = 0x7 := by simp only [Reg.STRANGER.IDENTIFY]; omega
  have hk : 0x300000 ≤ Reg.STRANGER.IDENTIFY n := by simp only [Reg.STRANGER.IDENTIFY]; omega
  have hd : 0x9e00 + n - 0x9e00 = n := by omega
  simp only [Dev.pulse, ackOf_high hk, Dev.codePulse, Dev.onePulse, hi, hs]
  simp only [Reg.DEVCMD.DEV_CMD, Reg.COMMIT.STROBE, Reg.STN.CLOSE_ARM, Reg.SPARE.SPARE_IN, Reg.NODE.GATE_CMD, Reg.COMMIT.TIME_ARM, Reg.IMAGE.VERIFY, Reg.IMAGE.ERASE, Reg.TB.LATCH, Reg.CONVT.CONVERT, Reg.MBX.START, Reg.MODE.START, Reg.MODE.ABORT, Reg.MEAS.CAL_ALL, Reg.KILN.CHECK, Reg.KILN.STAT_CLEAR, Reg.TRACE.RESTART, Reg.DAMP.CLEAR_ALL, Reg.ACQ.ARM, Reg.ACQ.ABORT, Reg.TRIG.FORCE, Reg.ASH.ASH_ARM, Reg.ASH.ASH_STOP, Reg.EC.SNAP, Reg.STRANGER.IDENTIFY, beq_iff_eq, Bool.and_eq_true, decide_eq_true_eq]
  grind

theorem isPulse_STRANGER_CLEAR : ∀ n, n < 64 → isPulse (Reg.STRANGER.CLEAR n) 1 = true := by decide +kernel

theorem Dev.pulse_STRANGER_CLEAR (d : Dev) (m : Memory) (x : Meet) {n : Nat} (hn : n < 64) :
    d.pulse m (Reg.STRANGER.CLEAR n) 1 x = d.strangerClear n := by
  have hi : Reg.STRANGER.CLEAR n / 256 = 0x9e00 + n := by simp only [Reg.STRANGER.CLEAR]; omega
  have hs : Reg.STRANGER.CLEAR n % 256 = 0x8 := by simp only [Reg.STRANGER.CLEAR]; omega
  have hk : 0x300000 ≤ Reg.STRANGER.CLEAR n := by simp only [Reg.STRANGER.CLEAR]; omega
  have hd : 0x9e00 + n - 0x9e00 = n := by omega
  simp only [Dev.pulse, ackOf_high hk, Dev.codePulse, Dev.onePulse, hi, hs]
  simp only [Reg.DEVCMD.DEV_CMD, Reg.COMMIT.STROBE, Reg.STN.CLOSE_ARM, Reg.SPARE.SPARE_IN, Reg.STRANGER.IDENTIFY, Reg.NODE.GATE_CMD, Reg.COMMIT.TIME_ARM, Reg.IMAGE.VERIFY, Reg.IMAGE.ERASE, Reg.TB.LATCH, Reg.CONVT.CONVERT, Reg.MBX.START, Reg.MODE.START, Reg.MODE.ABORT, Reg.MEAS.CAL_ALL, Reg.KILN.CHECK, Reg.KILN.STAT_CLEAR, Reg.TRACE.RESTART, Reg.DAMP.CLEAR_ALL, Reg.ACQ.ARM, Reg.ACQ.ABORT, Reg.TRIG.FORCE, Reg.ASH.ASH_ARM, Reg.ASH.ASH_STOP, Reg.EC.SNAP, Reg.STRANGER.CLEAR, beq_iff_eq, Bool.and_eq_true, decide_eq_true_eq]
  grind

/-! What a write that nothing refuses does. -/

theorem Dev.writeAt_DEVCMD_DEV_CMD {d : Dev} (m : Memory) (v : Nat) (hv : v < 256) (x : Meet) (hw : d.writable Reg.DEVCMD.DEV_CMD = true) :
    d.writeAt m Reg.DEVCMD.DEV_CMD 1 v x = d.devCmd m v := by
  rw [Dev.writeAt_pulse hw isPulse_DEVCMD_DEV_CMD (.inl (by decide)), show v % 256 ^ 1 = v by omega]; exact Dev.pulse_DEVCMD_DEV_CMD d m v x
theorem Dev.writeAt_COMMIT_STROBE {d : Dev} (m : Memory) (v : Nat) (hv : v < 256) (x : Meet) (hw : d.writable Reg.COMMIT.STROBE = true) :
    d.writeAt m Reg.COMMIT.STROBE 1 v x = (d.commitNow m v).1.ret stOK := by
  rw [Dev.writeAt_pulse hw isPulse_COMMIT_STROBE (.inl (by decide)), show v % 256 ^ 1 = v by omega]; exact Dev.pulse_COMMIT_STROBE d m v x
theorem Dev.writeAt_STN_CLOSE_ARM {d : Dev} (m : Memory) (v : Nat) (hv : v < 256) (x : Meet) (hw : d.writable Reg.STN.CLOSE_ARM = true) :
    d.writeAt m Reg.STN.CLOSE_ARM 1 v x = d.closeArmWrite v := by
  rw [Dev.writeAt_pulse hw isPulse_STN_CLOSE_ARM (.inl (by decide)), show v % 256 ^ 1 = v by omega]; exact Dev.pulse_STN_CLOSE_ARM d m v x
theorem Dev.writeAt_SPARE_SPARE_IN {d : Dev} (m : Memory) (v : Nat) (hv : v < 256) (x : Meet) (hw : d.writable Reg.SPARE.SPARE_IN = true) :
    d.writeAt m Reg.SPARE.SPARE_IN 1 v x = d.spareIn v := by
  rw [Dev.writeAt_pulse hw isPulse_SPARE_SPARE_IN (.inl (by decide)), show v % 256 ^ 1 = v by omega]; exact Dev.pulse_SPARE_SPARE_IN d m v x
theorem Dev.writeAt_COMMIT_TIME_ARM {d : Dev} (m : Memory) (x : Meet) (hw : d.writable Reg.COMMIT.TIME_ARM = true) :
    d.writeAt m Reg.COMMIT.TIME_ARM 1 1 x = d.timeArm m := by
  rw [Dev.writeAt_pulse hw isPulse_COMMIT_TIME_ARM (.inl (by decide)), show 1 % 256 ^ 1 = 1 by omega]; exact Dev.pulse_COMMIT_TIME_ARM d m x
theorem Dev.writeAt_IMAGE_VERIFY {d : Dev} (m : Memory) (x : Meet) (hw : d.writable Reg.IMAGE.VERIFY = true) :
    d.writeAt m Reg.IMAGE.VERIFY 1 1 x = d.imageVerify x.net := by
  rw [Dev.writeAt_pulse hw isPulse_IMAGE_VERIFY (.inl (by decide)), show 1 % 256 ^ 1 = 1 by omega]; exact Dev.pulse_IMAGE_VERIFY d m x
theorem Dev.writeAt_IMAGE_ERASE {d : Dev} (m : Memory) (x : Meet) (hw : d.writable Reg.IMAGE.ERASE = true) :
    d.writeAt m Reg.IMAGE.ERASE 1 1 x = d.imageErase m := by
  rw [Dev.writeAt_pulse hw isPulse_IMAGE_ERASE (.inl (by decide)), show 1 % 256 ^ 1 = 1 by omega]; exact Dev.pulse_IMAGE_ERASE d m x
theorem Dev.writeAt_TB_LATCH {d : Dev} (m : Memory) (x : Meet) (hw : d.writable Reg.TB.LATCH = true) :
    d.writeAt m Reg.TB.LATCH 1 1 x = d.latch.ret stOK := by
  rw [Dev.writeAt_pulse hw isPulse_TB_LATCH (.inl (by decide)), show 1 % 256 ^ 1 = 1 by omega]; exact Dev.pulse_TB_LATCH d m x
theorem Dev.writeAt_CONVT_CONVERT {d : Dev} (m : Memory) (x : Meet) (hw : d.writable Reg.CONVT.CONVERT = true) :
    d.writeAt m Reg.CONVT.CONVERT 1 1 x = d.convert.ret stOK := by
  rw [Dev.writeAt_pulse hw isPulse_CONVT_CONVERT (.inl (by decide)), show 1 % 256 ^ 1 = 1 by omega]; exact Dev.pulse_CONVT_CONVERT d m x
theorem Dev.writeAt_MBX_START {d : Dev} (m : Memory) (x : Meet) (hw : d.writable Reg.MBX.START = true) :
    d.writeAt m Reg.MBX.START 1 1 x = d.mbxStart m := by
  rw [Dev.writeAt_pulse hw isPulse_MBX_START (.inl (by decide)), show 1 % 256 ^ 1 = 1 by omega]; exact Dev.pulse_MBX_START d m x
theorem Dev.writeAt_MODE_START {d : Dev} (m : Memory) (x : Meet) (hw : d.writable Reg.MODE.START = true) :
    d.writeAt m Reg.MODE.START 1 1 x = d.modeStart := by
  rw [Dev.writeAt_pulse hw isPulse_MODE_START (.inl (by decide)), show 1 % 256 ^ 1 = 1 by omega]; exact Dev.pulse_MODE_START d m x
theorem Dev.writeAt_MODE_ABORT {d : Dev} (m : Memory) (x : Meet) (hw : d.writable Reg.MODE.ABORT = true) :
    d.writeAt m Reg.MODE.ABORT 1 1 x = d.modeAbortWrite := by
  rw [Dev.writeAt_pulse hw isPulse_MODE_ABORT (.inl (by decide)), show 1 % 256 ^ 1 = 1 by omega]; exact Dev.pulse_MODE_ABORT d m x
theorem Dev.writeAt_MEAS_CAL_ALL {d : Dev} (m : Memory) (x : Meet) (hw : d.writable Reg.MEAS.CAL_ALL = true) :
    d.writeAt m Reg.MEAS.CAL_ALL 1 1 x = d.calAll := by
  rw [Dev.writeAt_pulse hw isPulse_MEAS_CAL_ALL (.inl (by decide)), show 1 % 256 ^ 1 = 1 by omega]; exact Dev.pulse_MEAS_CAL_ALL d m x
theorem Dev.writeAt_KILN_CHECK {d : Dev} (m : Memory) (x : Meet) (hw : d.writable Reg.KILN.CHECK = true) :
    d.writeAt m Reg.KILN.CHECK 1 1 x = d.graphCheck := by
  rw [Dev.writeAt_pulse hw isPulse_KILN_CHECK (.inl (by decide)), show 1 % 256 ^ 1 = 1 by omega]; exact Dev.pulse_KILN_CHECK d m x
theorem Dev.writeAt_KILN_STAT_CLEAR {d : Dev} (m : Memory) (x : Meet) (hw : d.writable Reg.KILN.STAT_CLEAR = true) :
    d.writeAt m Reg.KILN.STAT_CLEAR 1 1 x = d.statClear := by
  rw [Dev.writeAt_pulse hw isPulse_KILN_STAT_CLEAR (.inl (by decide)), show 1 % 256 ^ 1 = 1 by omega]; exact Dev.pulse_KILN_STAT_CLEAR d m x
theorem Dev.writeAt_TRACE_RESTART {d : Dev} (m : Memory) (x : Meet) (hw : d.writable Reg.TRACE.RESTART = true) :
    d.writeAt m Reg.TRACE.RESTART 1 1 x = d.traceRestart := by
  rw [Dev.writeAt_pulse hw isPulse_TRACE_RESTART (.inl (by decide)), show 1 % 256 ^ 1 = 1 by omega]; exact Dev.pulse_TRACE_RESTART d m x
theorem Dev.writeAt_DAMP_CLEAR_ALL {d : Dev} (m : Memory) (x : Meet) (hw : d.writable Reg.DAMP.CLEAR_ALL = true) :
    d.writeAt m Reg.DAMP.CLEAR_ALL 1 1 x = d.faultClearAll := by
  rw [Dev.writeAt_pulse hw isPulse_DAMP_CLEAR_ALL (.inl (by decide)), show 1 % 256 ^ 1 = 1 by omega]; exact Dev.pulse_DAMP_CLEAR_ALL d m x
theorem Dev.writeAt_ACQ_ARM {d : Dev} (m : Memory) (x : Meet) (hw : d.writable Reg.ACQ.ARM = true) :
    d.writeAt m Reg.ACQ.ARM 1 1 x = d.acqArm := by
  rw [Dev.writeAt_pulse hw isPulse_ACQ_ARM (.inl (by decide)), show 1 % 256 ^ 1 = 1 by omega]; exact Dev.pulse_ACQ_ARM d m x
theorem Dev.writeAt_ACQ_ABORT {d : Dev} (m : Memory) (x : Meet) (hw : d.writable Reg.ACQ.ABORT = true) :
    d.writeAt m Reg.ACQ.ABORT 1 1 x = d.acqAbort := by
  rw [Dev.writeAt_pulse hw isPulse_ACQ_ABORT (.inl (by decide)), show 1 % 256 ^ 1 = 1 by omega]; exact Dev.pulse_ACQ_ABORT d m x
theorem Dev.writeAt_TRIG_FORCE {d : Dev} (m : Memory) (x : Meet) (hw : d.writable Reg.TRIG.FORCE = true) :
    d.writeAt m Reg.TRIG.FORCE 1 1 x = d.trigForce := by
  rw [Dev.writeAt_pulse hw isPulse_TRIG_FORCE (.inl (by decide)), show 1 % 256 ^ 1 = 1 by omega]; exact Dev.pulse_TRIG_FORCE d m x
theorem Dev.writeAt_ASH_ASH_ARM {d : Dev} (m : Memory) (x : Meet) (hw : d.writable Reg.ASH.ASH_ARM = true) :
    d.writeAt m Reg.ASH.ASH_ARM 1 1 x = d.ashStart := by
  rw [Dev.writeAt_pulse hw isPulse_ASH_ASH_ARM (.inl (by decide)), show 1 % 256 ^ 1 = 1 by omega]; exact Dev.pulse_ASH_ASH_ARM d m x
theorem Dev.writeAt_ASH_ASH_STOP {d : Dev} (m : Memory) (x : Meet) (hw : d.writable Reg.ASH.ASH_STOP = true) :
    d.writeAt m Reg.ASH.ASH_STOP 1 1 x = d.ashRows.ashStop := by
  rw [Dev.writeAt_pulse hw isPulse_ASH_ASH_STOP (.inl (by decide)), show 1 % 256 ^ 1 = 1 by omega]; exact Dev.pulse_ASH_ASH_STOP d m x
theorem Dev.writeAt_EC_SNAP {d : Dev} (m : Memory) (x : Meet) (hw : d.writable Reg.EC.SNAP = true) :
    d.writeAt m Reg.EC.SNAP 1 1 x = d.snap.ret stOK := by
  rw [Dev.writeAt_pulse hw isPulse_EC_SNAP (.inl (by decide)), show 1 % 256 ^ 1 = 1 by omega]; exact Dev.pulse_EC_SNAP d m x
theorem Dev.writeAt_TC_ARM {d : Dev} (m : Memory) (x : Meet) {n : Nat} (hn : n < 16) (hw : d.writable (Reg.TC.ARM n) = true) :
    d.writeAt m (Reg.TC.ARM n) 1 1 x = d.compareArm n := by
  rw [Dev.writeAt_pulse hw (isPulse_TC_ARM n hn) (.inl (by simp only [Reg.TC.ARM]; omega)), show 1 % 256 ^ 1 = 1 by omega]; exact Dev.pulse_TC_ARM d m x n hn
theorem Dev.writeAt_TC_DISARM {d : Dev} (m : Memory) (x : Meet) {n : Nat} (hn : n < 16) (hw : d.writable (Reg.TC.DISARM n) = true) :
    d.writeAt m (Reg.TC.DISARM n) 1 1 x = d.compareDisarm n := by
  rw [Dev.writeAt_pulse hw (isPulse_TC_DISARM n hn) (.inl (by simp only [Reg.TC.DISARM]; omega)), show 1 % 256 ^ 1 = 1 by omega]; exact Dev.pulse_TC_DISARM d m x n hn
theorem Dev.writeAt_CV_URGENT {d : Dev} (m : Memory) (x : Meet) {n : Nat} (hn : n < 18) (hw : d.writable (Reg.CV.URGENT n) = true) :
    d.writeAt m (Reg.CV.URGENT n) 1 1 x = d.urgentWrite n := by
  rw [Dev.writeAt_pulse hw (isPulse_CV_URGENT n hn) (.inl (by simp only [Reg.CV.URGENT]; omega)), show 1 % 256 ^ 1 = 1 by omega]; exact Dev.pulse_CV_URGENT d m x n hn
theorem Dev.writeAt_CV_CAL {d : Dev} (m : Memory) (x : Meet) {n : Nat} (hn : n < 18) (hw : d.writable (Reg.CV.CAL n) = true) :
    d.writeAt m (Reg.CV.CAL n) 1 1 x = d.maCal n := by
  rw [Dev.writeAt_pulse hw (isPulse_CV_CAL n hn) (.inl (by simp only [Reg.CV.CAL]; omega)), show 1 % 256 ^ 1 = 1 by omega]; exact Dev.pulse_CV_CAL d m x n hn
theorem Dev.writeAt_GAU_CMP_ARM {d : Dev} (m : Memory) (x : Meet) {n : Nat} (hn : n < 2) (hw : d.writable (Reg.GAU.CMP_ARM n) = true) :
    d.writeAt m (Reg.GAU.CMP_ARM n) 1 1 x = d.angleArm n := by
  rw [Dev.writeAt_pulse hw (isPulse_GAU_CMP_ARM n hn) (.inl (by simp only [Reg.GAU.CMP_ARM]; omega)), show 1 % 256 ^ 1 = 1 by omega]; exact Dev.pulse_GAU_CMP_ARM d m x n hn
theorem Dev.writeAt_GAU_CMP_DISARM {d : Dev} (m : Memory) (x : Meet) {n : Nat} (hn : n < 2) (hw : d.writable (Reg.GAU.CMP_DISARM n) = true) :
    d.writeAt m (Reg.GAU.CMP_DISARM n) 1 1 x = d.angleDisarm n := by
  rw [Dev.writeAt_pulse hw (isPulse_GAU_CMP_DISARM n hn) (.inl (by simp only [Reg.GAU.CMP_DISARM]; omega)), show 1 % 256 ^ 1 = 1 by omega]; exact Dev.pulse_GAU_CMP_DISARM d m x n hn
theorem Dev.writeAt_ARM_ARM_CMD {d : Dev} (m : Memory) (v : Nat) (hv : v < 256) (x : Meet) {n : Nat} (hn : n < 6) (hw : d.writable (Reg.ARM.ARM_CMD n) = true) :
    d.writeAt m (Reg.ARM.ARM_CMD n) 1 v x = d.armCmd n v := by
  rw [Dev.writeAt_pulse hw (isPulse_ARM_ARM_CMD n hn) (.inl (by simp only [Reg.ARM.ARM_CMD]; omega)), show v % 256 ^ 1 = v by omega]; exact Dev.pulse_ARM_ARM_CMD d m v x n hn
theorem Dev.writeAt_PWM_CLEAR {d : Dev} (m : Memory) (x : Meet) {n : Nat} (hn : n < 6) (hw : d.writable (Reg.PWM.CLEAR n) = true) :
    d.writeAt m (Reg.PWM.CLEAR n) 1 1 x = d.pwClear n := by
  rw [Dev.writeAt_pulse hw (isPulse_PWM_CLEAR n hn) (.inl (by simp only [Reg.PWM.CLEAR]; omega)), show 1 % 256 ^ 1 = 1 by omega]; exact Dev.pulse_PWM_CLEAR d m x n hn
theorem Dev.writeAt_MSLOT_START {d : Dev} (m : Memory) (x : Meet) {n : Nat} (hn : n < 4) (hw : d.writable (Reg.MSLOT.START n) = true) :
    d.writeAt m (Reg.MSLOT.START n) 1 1 x = d.maStartWrite n := by
  rw [Dev.writeAt_pulse hw (isPulse_MSLOT_START n hn) (.inl (by simp only [Reg.MSLOT.START]; omega)), show 1 % 256 ^ 1 = 1 by omega]; exact Dev.pulse_MSLOT_START d m x n hn
theorem Dev.writeAt_MSLOT_ABORT {d : Dev} (m : Memory) (x : Meet) {n : Nat} (hn : n < 4) (hw : d.writable (Reg.MSLOT.ABORT n) = true) :
    d.writeAt m (Reg.MSLOT.ABORT n) 1 1 x = d.maAbort n x.done := by
  rw [Dev.writeAt_pulse hw (isPulse_MSLOT_ABORT n hn) (.inl (by simp only [Reg.MSLOT.ABORT]; omega)), show 1 % 256 ^ 1 = 1 by omega]; exact Dev.pulse_MSLOT_ABORT d m x n hn
theorem Dev.writeAt_SEG_RELEASE {d : Dev} (m : Memory) (x : Meet) {n : Nat} (hn : n < 16) (hs : n < d.get Reg.ACQ.SEGMENTS) (hw : d.writable (Reg.SEG.RELEASE n) = true) :
    d.writeAt m (Reg.SEG.RELEASE n) 1 1 x = d.segRelease n := by
  rw [Dev.writeAt_pulse hw (isPulse_SEG_RELEASE n hn) (.inr (by simp only [Reg.SEG.RELEASE]; omega)), show 1 % 256 ^ 1 = 1 by omega]; exact Dev.pulse_SEG_RELEASE d m x n hn
theorem Dev.writeAt_NODE_CANCEL {d : Dev} (m : Memory) (x : Meet) {n : Nat} (hn : n < 4096) (hw : d.writable (Reg.NODE.CANCEL n) = true) :
    d.writeAt m (Reg.NODE.CANCEL n) 1 1 x = d.nodeCancel n := by
  rw [Dev.writeAt_pulse hw (isPulse_NODE_CANCEL hn) (.inl (by simp only [Reg.NODE.CANCEL]; omega)), show 1 % 256 ^ 1 = 1 by omega]; exact Dev.pulse_NODE_CANCEL d m x hn
theorem Dev.writeAt_NODE_GATE_CMD {d : Dev} (m : Memory) (v : Nat) (hv : v < 256) (x : Meet) {n : Nat} (hn : n < 4096) (hw : d.writable (Reg.NODE.GATE_CMD n) = true) :
    d.writeAt m (Reg.NODE.GATE_CMD n) 1 v x = if v == 1 then d.gateOpenCmd n else if v == 2 then d.gateCloseCmd n else d.ret stSTATE := by
  rw [Dev.writeAt_pulse hw (isPulse_NODE_GATE_CMD hn) (.inl (by simp only [Reg.NODE.GATE_CMD]; omega)), show v % 256 ^ 1 = v by omega]; exact Dev.pulse_NODE_GATE_CMD d m v x hn
theorem Dev.writeAt_CELL_RETIRE {d : Dev} (m : Memory) (v : Nat) (hv : v < 256) (x : Meet) {n : Nat} (hn : n < 3072) (hw : d.writable (Reg.CELL.RETIRE n) = true) :
    d.writeAt m (Reg.CELL.RETIRE n) 1 v x = if v == 1 then d.cellRetire n else if v == 2 then d.cellRelease n else d.ret stSTATE := by
  rw [Dev.writeAt_pulse hw (isPulse_CELL_RETIRE hn) (.inl (by simp only [Reg.CELL.RETIRE]; omega)), show v % 256 ^ 1 = v by omega]; exact Dev.pulse_CELL_RETIRE d m v x hn
theorem Dev.writeAt_FSRC_CLEAR {d : Dev} (m : Memory) (x : Meet) {n : Nat} (hn : n < 256) (hw : d.writable (Reg.FSRC.CLEAR n) = true) :
    d.writeAt m (Reg.FSRC.CLEAR n) 1 1 x = d.faultClear n := by
  rw [Dev.writeAt_pulse hw (isPulse_FSRC_CLEAR n hn) (.inl (by simp only [Reg.FSRC.CLEAR]; omega)), show 1 % 256 ^ 1 = 1 by omega]; exact Dev.pulse_FSRC_CLEAR d m x hn
theorem Dev.writeAt_FSRC_FORCE {d : Dev} (m : Memory) (x : Meet) {n : Nat} (hn : n < 256) (hw : d.writable (Reg.FSRC.FORCE n) = true) :
    d.writeAt m (Reg.FSRC.FORCE n) 1 1 x = d.faultForce n := by
  rw [Dev.writeAt_pulse hw (isPulse_FSRC_FORCE n hn) (.inl (by simp only [Reg.FSRC.FORCE]; omega)), show 1 % 256 ^ 1 = 1 by omega]; exact Dev.pulse_FSRC_FORCE d m x hn
theorem Dev.writeAt_STRANGER_IDENTIFY {d : Dev} (m : Memory) (v : Nat) (hv : v < 256) (x : Meet) {n : Nat} (hn : n < 64) (hw : d.writable (Reg.STRANGER.IDENTIFY n) = true) :
    d.writeAt m (Reg.STRANGER.IDENTIFY n) 1 v x = if v == 0 then d.ret stOK else if v ≤ 2 then d.strangerIdentify n v else d.ret stRANGE := by
  rw [Dev.writeAt_pulse hw (isPulse_STRANGER_IDENTIFY n hn) (.inl (by simp only [Reg.STRANGER.IDENTIFY]; omega)), show v % 256 ^ 1 = v by omega]; exact Dev.pulse_STRANGER_IDENTIFY d m v x hn
theorem Dev.writeAt_STRANGER_CLEAR {d : Dev} (m : Memory) (x : Meet) {n : Nat} (hn : n < 64) (hw : d.writable (Reg.STRANGER.CLEAR n) = true) :
    d.writeAt m (Reg.STRANGER.CLEAR n) 1 1 x = d.strangerClear n := by
  rw [Dev.writeAt_pulse hw (isPulse_STRANGER_CLEAR n hn) (.inl (by simp only [Reg.STRANGER.CLEAR]; omega)), show 1 % 256 ^ 1 = 1 by omega]; exact Dev.pulse_STRANGER_CLEAR d m x hn

end Sys2Proof.Machine
end

