-- ==== Sys2Proof/Tests/Slice0.lean ====
section
/-!
SUPPORT. Tests: examples of the spec, an ill-formed command for each check of well-formedness, and for each statement of
the obligations states and operands that meet its hypotheses.
-/
namespace Sys2Proof.Tests
open Sys2Proof Sys2Proof.Machine
set_option Elab.async false

/-! Helpers. -/

/-- A device in a device state, with some sub-entries set: TT is 10 s. -/
def mk (ds : Nat) (regs : List (Nat × Nat)) (f : Dev → Dev := id) : State :=
  let d : Dev := { now := 200000000000, ttZero := some 100000000000, kindle := { poresetLow := false } }
  { dev := f ((d.sets regs).set Reg.DEV.STATE ds) }

/-- What a test reads of the state after a command. -/
def after (s : State) (i : Instr) (p : State → Bool) : Bool :=
  match exec i s with
  | .next t => p t
  | _ => false

theorem found {d : Dev} {i j : Nat} {b : Bool} {P : Entry → Prop} [DecidablePred P]
    (h : (match d.find i j b with | .inl e => decide (P e) | .inr _ => false) = true) : ∃ e, d.find i j b = .inl e ∧ P e := by
  revert h
  cases d.find i j b with
  | inl e => intro h; exact ⟨e, rfl, of_decide_eq_true h⟩
  | inr _ => intro h; cases h

theorem some_of {α : Type} {o : Option α} {P : α → Prop} [DecidablePred P]
    (h : (match o with | some a => decide (P a) | none => false) = true) : ∃ a, o = some a ∧ P a := by
  revert h
  cases o with
  | some a => intro h; exact ⟨a, rfl, of_decide_eq_true h⟩
  | none => intro h; cases h

/-! Witnesses: for each statement, states and operands that meet its hypotheses. -/

def hbBanked : Heartbeat :=
  { devState := BitVec.ofNat 8 dsBANKED, twinId := 1, fit := true, generation := 0, armBits := 0, lease := 0, failed := none, launch := 0,
    echoLaunch := 0, echoArrival := 0 }

theorem witness_StepTakesTheFrontOrIdles : ∃ s : State, s.pending = [] := ⟨.reset, rfl⟩

theorem witness_StepKeepsInvariant : (∃ s t : State, s.Inv ∧ step s = .next t) ∧
    (∃ (s : State) (t : State), s.Inv ∧ s.pending ≠ [] ∧ step s = .next t) :=
  ⟨⟨.reset, .reset, ⟨by decide +kernel, rfl⟩, rfl⟩, State.reset.front (.prpSupervision 7), _, ⟨by decide +kernel, rfl⟩, by simp [State.front], rfl⟩

theorem witness_WellFormedCommandsComplete :
    (∃ i : Instr, i.wf = true ∧ i = .fusePhaseDone 0 true 1024) ∧ (∃ i : Instr, i.wf = false ∧ i = .fusePhaseDone 0 true 1025) :=
  ⟨⟨_, by decide +kernel, rfl⟩, _, by decide +kernel, rfl⟩

theorem witness_ResetAndKindlingStart :
    (∃ (s : State) (t : Nat), s.Inv ∧ 10000 ≤ t) ∧ (∃ (s : State) (t : Nat), s.Inv ∧ 10000 < t ∧ s.dev.ds ≠ dsBANKED) ∧
    (∃ s : State, s.dev.kindle.poresetLow = true ∧ s.dev.kindle.vddLow = false) ∧
    (∃ (s : State) (above : Nat), s.dev.kindle.vddLow = true ∧ s.dev.kindle.poresetLow = false ∧ 1000000 ≤ above) ∧
    (∃ (s : State) (dt : Nat), (s.met dt).writable Reg.DEVCMD.DEV_CMD = true) :=
  ⟨⟨mk dsRUNNING [], 10000, ⟨by decide +kernel, rfl⟩, by decide⟩, ⟨mk dsRUNNING [], 10001, ⟨by decide +kernel, rfl⟩, by decide +kernel⟩,
    ⟨.reset, by decide +kernel⟩,
    ⟨mk dsRESET [] (fun d => { d with kindle := { d.kindle with vddLow := true } }), 1000000, by decide +kernel⟩,
    mk dsSAFE [], 0, by decide +kernel⟩

theorem witness_KindlingPhases :
    (∃ s : State, s.dev.ds = dsKINDLING ∧ s.dev.get Reg.KINDLE.PHASE = 1) ∧
    (∃ (s : State) (rows : Nat), s.dev.ds = dsKINDLING ∧ s.dev.get Reg.KINDLE.PHASE = 2 ∧ rows ≤ 1024) ∧
    (∃ (s : State) (rows : Nat), s.dev.ds = dsKINDLING ∧ s.dev.get Reg.KINDLE.PHASE = 3 ∧ s.dev.get Reg.KINDLE.REPAIRED + rows ≤ 1024) ∧
    (∃ s : State, s.dev.ds = dsKINDLING ∧ s.dev.get Reg.KINDLE.PHASE = 4 ∧ s.dev.bootSrc ≤ 1 ∧ s.dev.safeDefault = false) :=
  ⟨⟨mk dsKINDLING [(Reg.KINDLE.PHASE, 1)], by decide +kernel⟩,
    ⟨mk dsKINDLING [(Reg.KINDLE.PHASE, 2)], 1024, by decide +kernel⟩,
    ⟨mk dsKINDLING [(Reg.KINDLE.PHASE, 3), (Reg.KINDLE.REPAIRED, 1000)], 24, by decide +kernel⟩,
    mk dsKINDLING [(Reg.KINDLE.PHASE, 4), (Reg.KINDLE.STRAPS, 1)], by decide +kernel⟩

theorem witness_KindlingFailures :
    (∃ (s : State) (rows : Nat), s.dev.ds = dsKINDLING ∧ s.dev.get Reg.KINDLE.PHASE = 2 ∧ rows ≤ 1024) ∧
    (∃ (s : State) (bad : Nat), s.dev.ds = dsKINDLING ∧ s.dev.get Reg.KINDLE.PHASE = 3 ∧ bad ≤ 2) ∧
    (∃ (s : State) (flash : List Byte), s.Inv ∧ s.dev.ds = dsKINDLING ∧
      (∀ slot, slot < 2 → imageCheck (s.dev.get Reg.IDENT.REVISION) (s.dev.slotBytes s.mem slot) ≠ igVALID) ∧
      (∀ k ∈ [Reg.KINDLE.IMG_A, Reg.KINDLE.IMG_B, Reg.KINDLE.IMG_EXT], s.dev.get k ≠ igVALID) ∧
      s.dev.get Reg.KINDLE.PHASE = 5 ∧ imageCheck (s.dev.get Reg.IDENT.REVISION) (flashBytes flash) ≠ igVALID) ∧
    (∃ (s : State) (dt : Nat), s.Inv ∧ s.dev.ds = dsKINDLING ∧
      (∀ slot, slot < 2 → imageCheck (s.dev.get Reg.IDENT.REVISION) (s.dev.slotBytes s.mem slot) ≠ igVALID) ∧
      (∀ k ∈ [Reg.KINDLE.IMG_A, Reg.KINDLE.IMG_B, Reg.KINDLE.IMG_EXT], s.dev.get k ≠ igVALID) ∧
      s.dev.kindle.netBoot = true ∧ (∃ t0, s.dev.kindle.netLinkAt = some t0 ∧ t0 + 600000000000 ≤ s.dev.now + dt)) :=
  ⟨⟨mk dsKINDLING [(Reg.KINDLE.PHASE, 2)], 1024, by decide +kernel⟩, ⟨mk dsKINDLING [(Reg.KINDLE.PHASE, 3)], 2, by decide +kernel⟩,
    ⟨mk dsKINDLING [(Reg.KINDLE.PHASE, 5)], [], ⟨by decide +kernel, rfl⟩, by decide +kernel⟩,
    mk dsKINDLING [(Reg.KINDLE.PHASE, 6)] (fun d => { d with kindle := { d.kindle with netBoot := true, netLinkAt := some 100000000000 } }),
    500000000000, ⟨by decide +kernel, rfl⟩, by decide +kernel, by decide +kernel, by decide +kernel, rfl, 100000000000, rfl, by decide +kernel⟩

theorem witness_StartDecisionAndDeviceCommands :
    (∃ (s : State) (dt : Nat), s.dev.ds = dsCONFIGURED ∧ s.dev.safeDefault = false ∧ s.dev.kindle.decided = false ∧
      s.dev.twinEn = true ∧ (s.dev.twinEn = true → s.dev.twin.actSeen = false ∧
        s.dev.kindle.configuredAt + (1 + s.dev.twinId) * 10000000 ≤ s.dev.now + dt) ∧ s.dev.estop = false) ∧
    (∃ (s : State) (dt : Nat), (s.met dt).writable Reg.DEVCMD.DEV_CMD = true ∧ s.dev.ds = dsREADY ∧ s.dev.estop = false ∧
      s.dev.kindle.deblock = true) ∧
    (∃ (s : State) (dt : Nat), (s.met dt).writable Reg.DEVCMD.DEV_CMD = true ∧ s.dev.ds = dsRUNNING ∧ s.dev.twinEn = true ∧
      s.dev.partnerReady = true ∧ s.dev.twin.swap = 0) ∧
    (∃ (s : State) (dt : Nat), (s.met dt).writable Reg.DEVCMD.DEV_CMD = true ∧
      s.dev.ds ∈ [dsCONFIGURED, dsLINKS_UP, dsADMITTED, dsREADY] ∧ s.dev.get Reg.LOCK.LOCK = 0 ∧ s.dev.safeDefault = false ∧
      s.dev.bootSrc ≤ 1) :=
  ⟨⟨mk dsCONFIGURED [(Reg.TWIN.TWIN_EN, 1), (Reg.KINDLE.STRAPS, 4)]
      (fun d => { d with kindle := { d.kindle with configuredAt := d.now, decided := false } }), 20000000, by decide +kernel⟩,
    ⟨mk dsREADY [] (fun d => { d with kindle := { d.kindle with deblock := true } }), 0, by decide +kernel⟩,
    ⟨mk dsRUNNING [(Reg.TWIN.TWIN_EN, 1), (Reg.TWIN.PATHS, 3)] (fun d => { d with twin := { d.twin with hb := some (hbBanked, 0, 0) } }),
      0, by decide +kernel⟩,
    mk dsCONFIGURED [(Reg.KINDLE.STRAPS, 1)], 0, by decide +kernel⟩

theorem witness_LeafAckAndSummaryRead :
    (∃ s : State, (s.met 0).writable (leafAckOf .regStatus).1 = true) ∧ (∃ s : State, (s.met 0).writable (leafAckOf (.gau 1)).1 = true) ∧
    (∃ s : State, s.dev.live = true) :=
  ⟨⟨mk dsCONFIGURED [], by decide +kernel⟩, ⟨mk dsRUNNING [], by decide +kernel⟩, mk dsSAFE [], by decide +kernel⟩


/-- The hypotheses that the clauses of FieldWritesByAccessType share, with those of one clause. -/
def Writes (s : State) (key : Nat) (coincide : Bool) (data : List Byte) (P : Dev → Entry → Prop) : Prop :=
  isTestIdx (key / 256) = false ∧ (s.met 0).writable key = true ∧ s.dev.twin.cfg.length < 1536 ∧ pairKey key = key ∧
    ∃ e, (s.met 0).find (key / 256) (key % 256) false = .inl e ∧ P (s.met 0) e ∧ (coincide = true → data.length = e.size)

/-- The same in a device in READY, in the form that is evaluated. -/
theorem writes_of {key : Nat} {coincide : Bool} {data : List Byte} {P : Dev → Entry → Prop} [∀ d, DecidablePred (P d)]
    (h : decide (isTestIdx (key / 256) = false ∧ ((mk dsREADY []).met 0).writable key = true ∧ pairKey key = key) &&
      (match ((mk dsREADY []).met 0).find (key / 256) (key % 256) false with
        | .inl e => decide (P ((mk dsREADY []).met 0) e ∧ (coincide = true → data.length = e.size))
        | .inr _ => false) = true) : Writes (mk dsREADY []) key coincide data P := by
  simp only [Bool.and_eq_true, decide_eq_true_eq] at h
  exact ⟨h.1.1, h.1.2.1, by decide +kernel, h.1.2.2, found h.2⟩

theorem witness_FieldWritesByAccessType :
    Writes (mk dsREADY []) Reg.DEVTYPE.DEVICE_TYPE false [] (fun _ e => e.acc ∈ [.ro, .rl, .rc] ∧ rtMask Reg.DEVTYPE.DEVICE_TYPE = 0) ∧
    Writes (mk dsREADY []) Reg.REGST.LEAVES false [] (fun _ e => e.acc ∈ [.ro, .rl, .rc] ∧ rtMask Reg.REGST.LEAVES ≠ 0) ∧
    Writes (mk dsREADY []) Reg.NET.LIFE_CHECK false [1] (fun _ e => e.acc ∈ [.rw, .lk, .ct, .rt] ∧ 1 ≠ e.size) ∧
    Writes (mk dsREADY []) Reg.LINK.TF false (leBytes 2 201)
      (fun d e => e.acc ∈ [.rw, .lk, .ct, .rt] ∧ 2 = e.size ∧ d.valueOk Reg.LINK.TF e 201 = false) ∧
    Writes (mk dsREADY []) (Reg.TC.TARGET 15) true (leBytes 8 7)
      (fun d e => e.acc ∈ [.rw, .lk, .ct, .rt] ∧ 8 = e.size ∧ d.valueOk (Reg.TC.TARGET 15) e 7 = true ∧ advancedKey (Reg.TC.TARGET 15) = true) ∧
    Writes (mk dsREADY []) Reg.REGST.SPI_CRC_COUNT true (leBytes 4 (2 ^ 32 - 1))
      (fun d e => e.acc = .ct ∧ d.takes Reg.REGST.SPI_CRC_COUNT e (leBytes 4 (2 ^ 32 - 1)) true = true) ∧
    Writes (mk dsREADY []) Reg.LINK.TF false (leBytes 2 200)
      (fun d e => e.acc = .rw ∧ e.com = .buf ∧ d.takes Reg.LINK.TF e (leBytes 2 200) false = true) ∧
    Writes (mk dsREADY []) (Reg.TC.TARGET 15) false (leBytes 8 (2 ^ 64 - 1))
      (fun d e => e.acc = .rw ∧ e.com ≠ .buf ∧ d.takes (Reg.TC.TARGET 15) e (leBytes 8 (2 ^ 64 - 1)) false = true) :=
  ⟨writes_of (by decide +kernel), writes_of (by decide +kernel), writes_of (by decide +kernel), writes_of (by decide +kernel),
    writes_of (by decide +kernel), writes_of (by decide +kernel), writes_of (by decide +kernel), writes_of (by decide +kernel)⟩

theorem witness_LockedWriteIsIgnored : ∃ (s : State) (idx : BitVec 16) (sub : Byte) (data : List Byte),
    (∃ e, (s.met 0).find idx.toNat sub.toNat false = .inl e ∧ True) ∧ isTestIdx idx.toNat = false ∧ (s.met 0).live = true ∧
    (s.met 0).writeState idx.toNat data = true ∧ (s.met 0).lockHolds (subKey idx.toNat sub.toNat) = true :=
  ⟨mk dsRUNNING [(Reg.LOCK.LOCK, 0x1F)], 0x2201, 0x18, [5], found (by decide +kernel), by decide +kernel⟩

theorem witness_UnacceptedDeviceCommandIsIgnored :
    (∃ (s : State) (v : Byte), (s.met 0).writable Reg.DEVCMD.DEV_CMD = true ∧ v ∉ [0x10, 0x11, 0x20, 0x30, 0x40]) ∧
    (∃ s : State, (s.met 0).writable Reg.DEVCMD.DEV_CMD = true ∧ (s.dev.ds ≠ dsREADY ∨ s.dev.estop = true)) ∧
    (∃ s : State, (s.met 0).writable Reg.DEVCMD.DEV_CMD = true ∧ s.dev.ds ≠ dsRUNNING ∧ (s.dev.ds ≠ dsREADY ∨ s.dev.kindle.deblock = false)) ∧
    (∃ s : State, (s.met 0).writable Reg.DEVCMD.DEV_CMD = true ∧ (s.dev.ds ≠ dsRUNNING ∨ s.dev.twinEn = false)) ∧
    (∃ s : State, (s.met 0).writable Reg.DEVCMD.DEV_CMD = true ∧ s.dev.ds ∉ [dsCONFIGURED, dsLINKS_UP, dsADMITTED, dsREADY]) :=
  ⟨⟨mk dsRUNNING [], 0x12, by decide +kernel⟩, ⟨mk dsADMITTED [], by decide +kernel⟩, ⟨mk dsREADY [], by decide +kernel⟩,
    ⟨mk dsRUNNING [], by decide +kernel⟩, mk dsRUNNING [], by decide +kernel⟩

/-- Whether a test space has entries is left to Config: the witness says so as a premise of its own. -/
theorem witness_TestSpaceWriteByDeviceState (h : Config.testEntry 0x2FFF 0 = true) (h1 : Config.testEntry 0x2FFF 1 = true) :
    testIdxOk 0x2FFF = true ∧ ∀ s : State, ∃ e, (s.met 0).find 0x2FFF 1 false = .inl e := by
  refine ⟨by decide, fun s => ⟨⟨0x2FFF, 0x2FFF, 1, 1, .u, Config.testSize 0x2FFF 1, .rt, .imm, none, .any, .c (Config.testReset 0x2FFF 1)⟩, ?_⟩⟩
  simp [Dev.find, Dev.indexDefined, entryOf, isTestIdx, h, h1]

theorem witness_LockSetAndCommitMap :
    (∃ s : State, (s.met 0).writable Reg.LOCK.LOCK = true ∧ s.dev.twin.cfg.length < 1536 ∧ s.dev.shadow = [(0x220118, 5)] ∧
      (lockOf 0x220118).isSome = true) ∧
    (∃ (s : State) (dom : Fin 10) (v : Byte), (s.met 0).writable (Reg.CMAP.GROUP dom) = true ∧ s.dev.twin.cfg.length < 1536 ∧ 7 < v.toNat ∧
      s.dev.pendingGroups = 0) ∧
    (∃ (s : State) (dom : Fin 10) (v : Byte), (s.met 0).writable (Reg.CMAP.GROUP dom) = true ∧ s.dev.twin.cfg.length < 1536 ∧ 7 < v.toNat ∧
      s.dev.pendingGroups ≠ 0) ∧
    (∃ (s : State) (dom : Fin 10) (v : Byte), (s.met 0).writable (Reg.CMAP.GROUP dom) = true ∧ s.dev.twin.cfg.length < 1536 ∧
      v.toNat ≤ 7 ∧ s.dev.pendingGroups ≠ 0) ∧
    (∃ (s : State) (dom : Fin 10) (v : Byte), (s.met 0).writable (Reg.CMAP.GROUP dom) = true ∧ s.dev.twin.cfg.length < 1536 ∧
      v.toNat ≤ 7 ∧ s.dev.pendingGroups = 0) :=
  ⟨⟨mk dsREADY [] (fun d => { d with shadow := [(0x220118, 5)] }), by decide +kernel⟩, ⟨mk dsREADY [], 9, 8, by decide +kernel⟩,
    ⟨mk dsREADY [] (fun d => { d with shadow := [(Reg.LINK.TF, 120)] }), 9, 8, by decide +kernel⟩,
    ⟨mk dsREADY [] (fun d => { d with shadow := [(Reg.LINK.TF, 120)] }), 9, 7, by decide +kernel⟩, mk dsREADY [], 9, 7, by decide +kernel⟩

/-- A shadow that waits: PERIOD of PWM channel 5. -/
def waiting : List (Nat × Nat) := [(Reg.PWM.PERIOD 5, 50000)]

theorem witness_StrobesApplyFromTheApplyIndex :
    (∃ (s : State) (v : Byte), (s.met 0).writable Reg.COMMIT.STROBE = true ∧ s.dev.shadow = waiting ∧
      v.toNat.testBit (s.dev.groupOf (Reg.PWM.PERIOD 5)) = true ∧ s.dev.refused = [] ∧ (∀ o ∈ s.dev.hist, o.key ≠ Reg.PWM.PERIOD 5)) ∧
    (∃ s : State, s.dev.live = true ∧ s.dev.get Reg.COMMIT.PIN_EDGE = 0 ∧ s.dev.get Reg.COMMIT.SRC_PIN ≠ 0 ∧
      (∀ p ∈ s.dev.shadow, (s.dev.get Reg.COMMIT.SRC_PIN).testBit (s.dev.groupOf p.1) = false)) ∧
    (∃ s : State, s.dev.live = true ∧ s.dev.get Reg.COMMIT.PIN_EDGE = 1 ∧ s.dev.get Reg.COMMIT.SRC_PIN ≠ 0) ∧
    (∃ s : State, s.dev.live = true ∧ s.dev.get Reg.COMMIT.PIN_EDGE = 2 ∧ s.dev.get Reg.COMMIT.SRC_PIN ≠ 0) ∧
    (∃ s : State, s.dev.get Reg.COMMIT.TIME_ARMED ≠ 0 ∧ s.dev.time.commitFar = false ∧
      0 ≤ diffW 64 (s.met 0).tick (s.dev.get Reg.COMMIT.TIME_AT) ∧ s.dev.shadow = waiting) ∧
    ((0x1130 ≤ Reg.ALLOW.PREFIX_LEN 15 / 256 ∧ Reg.ALLOW.PREFIX_LEN 15 / 256 ≤ 0x113F) ∧
      (0x2800 ≤ Reg.LANE.SEED_SW 5 / 256 ∧ Reg.LANE.SEED_SW 5 / 256 ≤ 0x2805)) := by
  refine ⟨⟨mk dsRUNNING [] (fun d => { d with shadow := waiting }), 0xFF, ?_⟩, ⟨mk dsRUNNING [(Reg.COMMIT.SRC_PIN, 1)], ?_⟩,
    ⟨mk dsRUNNING [(Reg.COMMIT.SRC_PIN, 1), (Reg.COMMIT.PIN_EDGE, 1)], ?_⟩,
    ⟨mk dsRUNNING [(Reg.COMMIT.SRC_PIN, 128), (Reg.COMMIT.PIN_EDGE, 2)], ?_⟩,
    ⟨mk dsRUNNING [(Reg.COMMIT.TIME_ARMED, 1), (Reg.COMMIT.TIME_AT, 100000000000)] (fun d => { d with shadow := waiting }), ?_⟩, ?_⟩ <;>
    decide +kernel

theorem witness_CommitCompareArms :
    (∃ s : State, (s.met 0).writable Reg.COMMIT.TIME_ARM = true ∧ s.dev.get Reg.COMMIT.TIME_ARMED ≠ 0) ∧
    (∃ s : State, (s.met 0).writable Reg.COMMIT.TIME_ARM = true ∧ s.dev.get Reg.COMMIT.TIME_ARMED = 0 ∧
      diffW 64 (s.dev.get Reg.COMMIT.TIME_AT) (s.ttAt 0) = 0) ∧
    (∃ s : State, (s.met 0).writable Reg.COMMIT.TIME_ARM = true ∧ s.dev.get Reg.COMMIT.TIME_ARMED = 0 ∧
      diffW 64 (s.dev.get Reg.COMMIT.TIME_AT) (s.ttAt 0) = -1 ∧ s.dev.shadow = []) :=
  ⟨⟨mk dsRUNNING [(Reg.COMMIT.TIME_ARMED, 1)], by decide +kernel⟩, ⟨mk dsRUNNING [(Reg.COMMIT.TIME_AT, 100000000000)], by decide +kernel⟩,
    mk dsRUNNING [(Reg.COMMIT.TIME_AT, 99999999999)], by decide +kernel⟩

/-- A client of the field network, the device's address and a datagram between them. -/
def client : IpAddr := .v4 0x0A000002
def iopTo (p : List Byte) : Udp :=
  { rx := { net := 0, good := true, srcMac := 0x112233, rct := none }, src := client, srcPort := 50000, dst := .v4 0x0A000001
    dstPort := 51744, payload := p }
def served (ds : Nat) (regs : List (Nat × Nat)) (f : Dev → Dev := id) : State :=
  mk ds ([(Reg.V4.V4_EN 0, 1), (Reg.V4.V4_ADDR 0, 0x0A000001), (Reg.NETP.LINK 0, 1)] ++ regs) f
/-- READ of 0x2100:02 with SEQ 0x1234. -/
def readRate : List Byte := [1, 1, 0x34, 0x12, 4, 0, 0, 1, 0x00, 0x21, 2, 0]
def keptRead : Kept :=
  { src := client, port := 50000, seq := 0x1234, content := readRate, response := [1], dst := .v4 0x0A000001, at_ := 199999999999 }

/-- The hypotheses that the clauses of IopRequestIsAnswered share. -/
def Heard (s : State) (u : Udp) (ty : Nat) : Prop :=
  (u.payload.getD 1 0).toNat = ty ∧ ((s.met 0).frameIn u.rx).2 = true ∧ ((s.met 0).frameIn u.rx).1.iopServes = true ∧
    ((s.met 0).frameIn u.rx).1.ownsIp u.rx.net.val u.dst = true ∧ u.dstPort.toNat = ((s.met 0).frameIn u.rx).1.get Reg.IOP.UDP_PORT ∧
    iopMalformed u.payload = false ∧ ((s.met 0).frameIn u.rx).1.allowed u.src = true ∧ ((s.met 0).frameIn u.rx).1.net.wait = none ∧
    ((s.met 0).frameIn u.rx).1.portBusy = false

theorem witness_IopRequestIsAnswered :
    (Heard (served dsRUNNING []) (iopTo readRate) 1 ∧
      (((served dsRUNNING []).met 0).frameIn (iopTo readRate).rx).1.keptNow = [] ∧ iopParse readRate = some [.read 0x2100 2] ∧
      (((served dsRUNNING []).met 0).frameIn (iopTo readRate).rx).1.iopSize [] [.read 0x2100 2] ≤ 1440 ∧
      (Dev.iopRun [] (((served dsRUNNING []).met 0).frameIn (iopTo readRate).rx).1 [.read 0x2100 2]).2.2 = none ∧
      (Dev.iopRun [] (((served dsRUNNING []).met 0).frameIn (iopTo readRate).rx).1 [.read 0x2100 2]).1.justReset = false ∧
      (∀ p ∈ (((served dsRUNNING []).met 0).frameIn (iopTo readRate).rx).1.txPorts 0,
        (Dev.iopRun [] (((served dsRUNNING []).met 0).frameIn (iopTo readRate).rx).1 [.read 0x2100 2]).1.netLive p = true)) ∧
    (∃ s : State, Heard s (iopTo readRate) 1 ∧ ((s.met 0).frameIn (iopTo readRate).rx).1.keptNow = [keptRead]) := by
  refine ⟨⟨?_, ?_⟩, served dsRUNNING [] (fun d => { d with net := { d.net with kept := [keptRead] } }), ?_, ?_⟩
  · unfold Heard; decide +kernel
  · decide +kernel
  · unfold Heard; decide +kernel
  · decide +kernel

theorem witness_CacheExpiryAndNotify : ∃ (s : State) (n : Fin 2) (src : IpAddr), (s.met 0).live = true ∧ (s.met 0).bootNet = false ∧
    (s.dev.net.notify.get n {}).queued = true ∧ s.dev.get (Reg.NDEST.ENABLE n) ≠ 0 ∧
    (∀ t0, (s.dev.net.notify.get n {}).last = some t0 → t0 + s.dev.get Reg.IOP.NOTIFY_GAP * 10000 ≤ s.dev.now + 0) ∧
    (s.met 0).route ((s.met 0).notifyDst n) = some (0, src) := by
  refine ⟨served dsRUNNING [(Reg.NDEST.ENABLE 1, 1), (Reg.NDEST.ADDR_LO 1, 0x0A000002)] (fun d => { d with net := { d.net with
      notify := [(1, { bits := 2, queued := true, last := some 199990000000, seq := 65535 })] } }), 1, .v4 0x0A000001,
    by decide +kernel, by decide +kernel, by decide +kernel, by decide +kernel, ?_, by decide +kernel⟩
  intro t0 h; cases h; decide +kernel

/-- READ of 0x2100:02 over the service SPI, with its CRC. -/
def spiRead2 : List Byte := let b : List Byte := [1, 0x00, 0x21, 2, 0]; b ++ [BitVec.ofNat 8 (crc8 b)]

/-- ARM_CMD BLOCK of ARM5 over the service SPI, and a device that accepts it. -/
def spiBlock : List Byte :=
  let b : List Byte := [2] ++ leBytes 2 (Reg.ARM.ARM_CMD 5 / 256) ++ [BitVec.ofNat 8 (Reg.ARM.ARM_CMD 5 % 256), 1, 4]
  b ++ [BitVec.ofNat 8 (crc8 b)]
def blockable : State := mk dsRUNNING [(Reg.ARM.STATE 5, asCLOSED)]

theorem witness_SpiRequestIsAnswered :
    ((spiRead2.getD 0 0).toNat = 1 ∧ spiLength 1 0 < spiRead2.length ∧ ((mk dsSAFE []).met 0).live = true ∧
      crc8 (spiRead2.take (spiLength 1 0)) = (spiRead2.getD (spiLength 1 0) 0).toNat ∧
      (mk dsSAFE []).dev.net.spiWait = none ∧ ((mk dsSAFE []).met 0).portBusy = false ∧
      (((mk dsSAFE []).met 0).read 0x2100 2).justReset = false) ∧
    (crc8 (spiBlock.take 6) = (spiBlock.getD 6 0).toNat ∧ blockable.dev.live = true ∧ (blockable.met 0).portBusy = false ∧
      ((blockable.met 0).write [] (Reg.ARM.ARM_CMD 5 / 256) (Reg.ARM.ARM_CMD 5 % 256) [4] { net := some false }).writeWaits
        (Reg.ARM.ARM_CMD 5 / 256) (Reg.ARM.ARM_CMD 5 % 256) = some 5) ∧
    (spiLength 1 0 < [1, 0x00, 0x21, 2, 0, 0].length ∧ crc8 ([1, 0x00, 0x21, 2, 0, 0].take (spiLength 1 0)) ≠ 0) := by
  decide +kernel

theorem witness_FieldNetworkServices :
    (∃ (s : State) (n : Fin 2), (s.met 0).netRuns n = true) ∧
    (∃ s : State, (s.met 0).prp = true ∧ s.dev.net.supervisionAt ≤ s.dev.now + 0 ∧ (s.met 0).netLive 0 = false ∧ (s.met 0).netLive 1 = true) ∧
    (∃ s : State, ((s.met 0).frameIn (iopTo []).rx).2 = true ∧ (s.met 0).ownsV4 0 0x0A000001 = true ∧ (s.met 0).ownsV6 0 1 = true ∧
      (s.met 0).ownsIp 0 (.v4 0x0A000001) = true) :=
  ⟨⟨mk dsSAFE [], 1, by decide +kernel⟩, ⟨mk dsSAFE [(Reg.NET.NET0_EN, 0), (Reg.NETP.LINK 1, 1)], by decide +kernel⟩,
    served dsRUNNING [(Reg.V6.V6_EN 0, 1), (Reg.V6.V6_ADDR_LO 0, 1)], by decide +kernel⟩

theorem witness_ImageDelivery :
    (∃ s : State, s.Inv ∧ s.dev.get Reg.IMAGE.TARGET = 2 ∧ s.dev.kindle.verify = none ∧
      ∀ k ∈ [Reg.IMAGE.WINDOW, Reg.IMAGE.VERIFY, Reg.IMAGE.ERASE],
        (s.met 0).serves = true ∧ (s.met 0).beforeFuses = false ∧ (s.met 0).lockHolds k = false) ∧
    (∃ s : State, s.Inv ∧ s.dev.get Reg.IMAGE.TARGET = 1 ∧ s.dev.kindle.verify ≠ none ∧ (s.met 0).serves = true ∧
      (s.met 0).beforeFuses = false ∧ (s.met 0).lockHolds Reg.IMAGE.VERIFY = false) ∧
    (∃ s : State, s.Inv ∧ s.dev.kindle.verify = some 2 ∧ s.dev.ds ≠ dsKINDLING) ∧
    (∃ s : State, s.Inv ∧ s.dev.kindle.verify = some 1 ∧ s.dev.ds = dsKINDLING ∧ s.dev.kindle.waiting = false) :=
  ⟨⟨mk dsCONFIGURED [(Reg.IMAGE.TARGET, 2)], ⟨by decide +kernel, rfl⟩, by decide +kernel⟩,
    ⟨mk dsCONFIGURED [(Reg.IMAGE.TARGET, 1)] (fun d => { d with kindle := { d.kindle with verify := some 2 } }),
      ⟨by decide +kernel, rfl⟩, by decide +kernel⟩,
    ⟨mk dsCONFIGURED [] (fun d => { d with kindle := { d.kindle with verify := some 2 } }), ⟨by decide +kernel, rfl⟩, by decide +kernel⟩,
    mk dsKINDLING [] (fun d => { d with kindle := { d.kindle with verify := some 1 } }), ⟨by decide +kernel, rfl⟩, by decide +kernel⟩

theorem witness_TimeWritesFollowTheServo :
    (∃ s : State, (s.met 0).writable (0x2100 * 256 + 4) = true ∧ s.dev.get Reg.SERVO.STATE = 3 ∧ s.dev.get Reg.SERVO.SOURCE = 1) ∧
    (∃ s : State, (s.met 0).writable (0x2100 * 256 + 3) = true ∧ s.dev.get Reg.SERVO.STATE = 3) ∧
    (∃ s : State, (s.met 0).writable (0x2100 * 256 + 2) = true ∧ s.dev.get Reg.SERVO.STATE = 0 ∧
      toSigned 32 (219902325 : BitVec 32).toNat = rateMax ∧ toSigned 32 (-219902325 : BitVec 32).toNat = -rateMax) :=
  ⟨⟨mk dsRUNNING [(Reg.SERVO.STATE, 3), (Reg.SERVO.SOURCE, 1)], by decide +kernel⟩, ⟨mk dsRUNNING [(Reg.SERVO.STATE, 3)], by decide +kernel⟩,
    mk dsRUNNING [], by decide +kernel⟩

theorem witness_RateLatchAndConvert :
    (∃ s : State, (s.met 0).writable Reg.TB.RATE = true ∧ s.dev.get Reg.SERVO.STATE = 0 ∧ rateMax < toSigned 32 (219902326 : BitVec 32).toNat) ∧
    (∃ s : State, (s.met 0).writable Reg.TB.LATCH = true ∧ (s.met 0).writable Reg.CONVT.CONVERT = true) :=
  ⟨⟨mk dsRUNNING [], by decide +kernel⟩, mk dsRUNNING [], by decide +kernel⟩

/-- A measurement that finds no offset. -/
def exact (s : State) : Measure := { tt := 50000000000, ref := ((s.dev.stAbs 50000000000 : Int) : Rat) }
/-- The servo in a state, with that measurement waiting 100 s after the one before. -/
def steering (st : Nat) : State :=
  mk dsRUNNING [(Reg.SERVO.STATE, st), (Reg.SERVO.ENABLE, 1)]
    (fun d => { d with time := { d.time with measure := some (exact { dev := d }), lastRef := some 0 } })

theorem witness_ServoMoves :
    (∀ st ∈ [svSEEKING, svLOCKING, svLOCKED, svHOLDOVER], ∃ m : Measure, (steering st).dev.time.measure = some m ∧
      (steering st).dev.time.lastRef = some 0 ∧ (steering st).dev.get Reg.SERVO.STATE ≠ svDISABLED ∧
      ((((steering st).dev.stAbs m.tt : Int) : Rat) - m.ref) / 10 = 0) ∧
    (∃ s : State, s.dev.get Reg.SERVO.STATE ∈ [svLOCKING, svLOCKED] ∧ (s.met 0).sourceLost = true ∧ s.dev.live = true) ∧
    (∃ s : State, s.dev.get Reg.SERVO.STATE ∉ [svLOCKING, svLOCKED]) := by
  refine ⟨?_, ⟨steering svLOCKED, by decide +kernel⟩, steering svDISABLED, by decide +kernel⟩
  intro st hst
  simp only [List.mem_cons, List.not_mem_nil, or_false] at hst
  rcases hst with rfl | rfl | rfl | rfl <;> exact ⟨_, rfl, by decide +kernel⟩

/-- A PTP message in domain 0 on NET1 without a tag. -/
def ptpHdr : PtpHdr := { net := 1, vlan := none, domain := 0, srcId := 0xA1, srcPort := 7, seq := 9, correction := 0, logInterval := 0,
                         reqId := 0xFFFE000000, reqPort := 2 }
def announce : PtpAnnounce :=
  { priority1 := 128, clockClass := 6, accuracy := 0x21, variance := 0, priority2 := 128, gmId := 0xA1, stepsRemoved := 0 }
def syncWaits : SyncX := { net := 1, srcId := 0xA1, srcPort := 7, seq := 9, tt := 1, correction := 0 }
def ptpOn (regs : List (Nat × Nat)) (f : Dev → Dev := id) : State := mk dsRUNNING ([(Reg.PTP.PORT_EN, 3), (Reg.NETP.LINK 1, 1)] ++ regs) f

/-- A master on NET1 whose Syncs and Announces stopped long ago. -/
def quiet (regs : List (Nat × Nat)) : State :=
  ptpOn ([(Reg.PTP.ACTIVE_PORT, 2), (Reg.PTP.MASTER_ID, 0xA1), (Reg.PTP.MASTER_PORT, 7)] ++ regs)
    (fun d => d.setPtpPort 1 { ann := some announce })

theorem witness_PtpMessages :
    (∃ s : State, (s.met 0).ptpTakes ptpHdr = true ∧ s.dev.get Reg.PTP.ACTIVE_PORT = ptpHdr.net.val + 1 ∧
      s.dev.get Reg.PTP.MASTER_ID = ptpHdr.srcId.toNat ∧ s.dev.get Reg.PTP.MASTER_PORT = ptpHdr.srcPort.toNat ∧
      s.dev.get Reg.SERVO.SOURCE = 0 ∧ s.dev.time.sync = some syncWaits ∧ syncWaits.net = ptpHdr.net.val ∧
      syncWaits.srcId = ptpHdr.srcId.toNat ∧ syncWaits.srcPort = ptpHdr.srcPort.toNat ∧ syncWaits.seq = ptpHdr.seq.toNat) ∧
    (∃ s : State, (s.met 0).ptpTakes ptpHdr = true ∧ s.dev.get Reg.PTP.ACTIVE_PORT ≠ ptpHdr.net.val + 1) ∧
    (∃ s : State, (s.met 0).ptpTakes ptpHdr = true ∧ (s.dev.ptpPort 0).ann = none ∧ (s.dev.ptpPort 1).ann = none) ∧
    (∃ s : State, (s.met 0).ptpTakes ptpHdr = true ∧ (s.dev.ptpPort 1).ann = some announce ∧ (s.dev.ptpPort (1 - 1)).ann = none ∧
      (s.dev.ptpPort 1).annAt + s.dev.get Reg.PTP.ANNOUNCE_TIMEOUT * logUnits (s.dev.ptpPort 1).annLog ≤ s.dev.now + 0 ∧
      s.dev.get Reg.SERVO.STATE = svDISABLED) ∧
    (∃ s : State, (s.met 0).ptpTakes ptpHdr = true ∧ s.dev.get Reg.PTP.ACTIVE_PORT = 2 ∧ s.dev.get Reg.SERVO.SOURCE = 0 ∧
      s.dev.get Reg.SERVO.STATE ∈ [svLOCKING, svLOCKED] ∧
      s.dev.time.syncAt + s.dev.get Reg.PTP.SYNC_TIMEOUT * logUnits s.dev.time.syncLog ≤ s.dev.now + 0) ∧
    (∃ s : State, (s.met 0).ptpTakes ptpHdr = true ∧ (s.dev.ptpPort 1).req = some (9, 5) ∧ ptpHdr.reqId.toNat = (s.met 0).clockId ∧
      ptpHdr.reqPort.toNat = 1 + 1) ∧
    (∃ s : State, (s.met 0).ptpTakes ptpHdr = true ∧ (s.dev.ptpPort 1).due ≤ s.dev.now + 0) ∧
    (∃ s : State, (s.met 0).ptpTakes ptpHdr = true ∧ s.dev.now + 0 < (s.dev.ptpPort 1).due) :=
  ⟨⟨ptpOn [(Reg.PTP.ACTIVE_PORT, 2), (Reg.PTP.MASTER_ID, 0xA1), (Reg.PTP.MASTER_PORT, 7)]
      (fun d => { d with time := { d.time with sync := some syncWaits } }), by decide +kernel⟩,
    ⟨ptpOn [], by decide +kernel⟩, ⟨ptpOn [], by decide +kernel⟩, ⟨quiet [], by decide +kernel⟩,
    ⟨quiet [(Reg.SERVO.STATE, svLOCKED), (Reg.SERVO.SOURCE, 0)], by decide +kernel⟩,
    ⟨ptpOn [(Reg.NET.MAC_BASE, 0)] (fun d => d.setPtpPort 1 { d.ptpPort 1 with req := some (9, 5) }), by decide +kernel⟩,
    ⟨ptpOn [] (fun d => d.setPtpPort 1 { d.ptpPort 1 with due := 200000000000 }), by decide +kernel⟩,
    ptpOn [] (fun d => d.setPtpPort 1 { d.ptpPort 1 with due := 200000000001 }), by decide +kernel⟩

/-- RATE and OFFSET 0 put TT and station time together: 10 s is a whole second. -/
def ppsState (regs : List (Nat × Nat)) (f : Dev → Dev := id) : State :=
  mk dsRUNNING ([(Reg.PPS.IN_EN, 1), (Reg.PPS.OUT_MODE, 1), (Reg.PPS.OUT_DELAY, 0)] ++ regs) f

theorem witness_PpsAndClockSupervision :
    (∃ (s : State) (rising : Bool), s.dev.live = true ∧ s.dev.get Reg.PPS.IN_EN ≠ 0 ∧ rising = (s.dev.get Reg.PPS.IN_EDGE == 0) ∧
      s.dev.get Reg.SERVO.SOURCE = 0) ∧
    (∃ (s : State) (t0 : Nat), s.dev.live = true ∧ s.dev.get Reg.PPS.IN_EN ≠ 0 ∧ s.dev.time.ppsSeen = some t0 ∧
      t0 + 11000000000 ≤ s.dev.now + 0 ∧ s.dev.bit Reg.TB.LEAVES 5 = false ∧ s.dev.get Reg.SERVO.SOURCE = 0) ∧
    (∃ s : State, s.dev.live = true ∧ s.dev.get Reg.PPS.OUT_MODE = 1 ∧ s.dev.get Reg.PPS.OUT_QUAL = 0 ∧
      (s.met 0).ppsSt ((s.ttAt 0 : Int) + s.dev.getI Reg.PPS.OUT_DELAY 32) = 10 * secUnits ∧ s.dev.time.pulsed = []) ∧
    (∃ s : State, s.dev.live = true ∧ s.dev.get Reg.PPS.OUT_MODE = 1 ∧ s.dev.get Reg.PPS.OUT_QUAL = 0 ∧
      (s.met 0).ppsSt ((s.ttAt 0 : Int) + s.dev.getI Reg.PPS.OUT_DELAY 32) = 10 * secUnits ∧ s.dev.time.pulsed = [(10, 10)]) ∧
    (∃ s : State, s.dev.live = true ∧ s.dev.time.ppsOut = true ∧ s.dev.time.ppsOutAt + s.dev.get Reg.PPS.OUT_WIDTH * 10000 ≤ s.dev.now + 0) ∧
    (∃ s : State, s.dev.live = true ∧ s.dev.ttZero.isSome = true ∧ s.dev.bit Reg.TB.LEAVES 0 = false) :=
  ⟨⟨ppsState [], true, by decide +kernel⟩,
    ⟨ppsState [] (fun d => { d with time := { d.time with ppsSeen := some 189000000000 } }), 189000000000, by decide +kernel⟩,
    ⟨ppsState [(Reg.PPS.OUT_QUAL, 0)], by decide +kernel⟩,
    ⟨ppsState [(Reg.PPS.OUT_QUAL, 0)] (fun d => { d with time := { d.time with pulsed := [(10, 10)] } }), by decide +kernel⟩,
    ⟨ppsState [] (fun d => { d with time := { d.time with ppsOut := true, ppsOutAt := 0 } }), by decide +kernel⟩, mk dsRUNNING [], by decide +kernel⟩

theorem witness_TimeComparesArmAndFire :
    (∃ s : State, (s.met 0).writable (Reg.TC.ARM 15) = true ∧ (s.dev.get (Reg.TC.STATUS 15)).testBit tcARMED = true) ∧
    (∃ s : State, (s.met 0).writable (Reg.TC.ARM 15) = true ∧ (s.dev.get (Reg.TC.STATUS 15)).testBit tcARMED = false ∧
      diffW 64 (s.dev.get (Reg.TC.TARGET 15)) (s.ttAt 0) = 2 ^ 31 - 1) ∧
    (∃ s : State, (s.met 0).writable (Reg.TC.ARM 15) = true ∧ (s.dev.get (Reg.TC.STATUS 15)).testBit tcARMED = false ∧
      diffW 64 (s.dev.get (Reg.TC.TARGET 15)) (s.ttAt 0) = 2 ^ 31) ∧
    (∃ s : State, (s.met 0).writable (Reg.TC.DISARM 15) = true ∧ diffW 64 (s.met 0).tick (s.dev.get (Reg.TC.TARGET 15)) < 0) ∧
    (∃ s : State, (s.met 0).compareDue 0 = true ∧ s.dev.get (Reg.TC.PERIOD 0) = 0 ∧ s.dev.bit Reg.EC.SNAP_SRC 1 = false ∧
      (∀ c, c < 18 → s.dev.get (Reg.CV.START_SRC c) ≠ 0x10 + 0 ∧ s.dev.get (Reg.CV.URGENT_SRC c) ≠ 0x10 + 0)) ∧
    (∃ s : State, (s.met 0).compareDue 0 = true ∧ s.dev.get (Reg.TC.PERIOD 0) ≠ 0 ∧ s.dev.bit Reg.EC.SNAP_SRC 1 = false ∧
      (∀ c, c < 18 → s.dev.get (Reg.CV.START_SRC c) ≠ 0x10 + 0 ∧ s.dev.get (Reg.CV.URGENT_SRC c) ≠ 0x10 + 0)) ∧
    (∃ s : State, Tab.find s.dev.time.trig 1 = some (99999990000, 100000000000) ∧ 100000000000 ≤ s.ttAt 0) :=
  ⟨⟨mk dsRUNNING [(Reg.TC.STATUS 15, 1)], by decide +kernel⟩, ⟨mk dsRUNNING [(Reg.TC.TARGET 15, 100000000000 + 2 ^ 31 - 1)], by decide +kernel⟩,
    ⟨mk dsRUNNING [(Reg.TC.TARGET 15, 100000000000 + 2 ^ 31)], by decide +kernel⟩, ⟨mk dsRUNNING [(Reg.TC.TARGET 15, 100000000016)], by decide +kernel⟩,
    ⟨mk dsRUNNING [(Reg.TC.TARGET 0, 99999999999), (Reg.TC.STATUS 0, 1)], by decide +kernel⟩,
    ⟨mk dsRUNNING [(Reg.TC.TARGET 0, 99999999999), (Reg.TC.STATUS 0, 1), (Reg.TC.PERIOD 0, 2000)], by decide +kernel⟩,
    mk dsRUNNING [] (fun d => { d with time := { d.time with trig := [(1, 99999990000, 100000000000)] } }), by decide +kernel⟩

/-- A device in RUNNING with frame 5 begun `off` (100 ps) ago, TF 10 us. -/
def linked (off : Nat) (regs : List (Nat × Nat)) (f : Dev → Dev := id) : State :=
  mk dsRUNNING regs (fun d => f { d with frame :=
    { run := true, started := true, n := 5, bn := 100000000000 - off, bnOld := 99999900000 - off, next := 100000100000 - off } })
def onPort (p : Nat) (x : PortX) (d : Dev) : Dev := d.setPort p x
/-- A burst whose CRC is right: type, frame, address and payload. -/
def burst (ty fr addr : Nat) (payload : List Byte) (arrival : Int := 0) : Burst :=
  { codeOk := true, bytes := withCrc16 (beBytes 2 (ty * 4096 + fr * 256 + addr) ++ payload), arrival := arrival }
def bypass : DlCmd := { dest := 7, op := opBYPASS, seq := some 3 }
/-- The slot conditions of DownlinkSlotContent: the start of slot 0, or a start point of the frame's last slot. -/
def SlotBegins (s : State) (p j i k : Nat) : Prop :=
  s.dev.frame.run = true ∧ (s.met 0).slotNow = some (j, i, k) ∧ ((s.met 0).armOfPort p).isSome = true ∧
    (s.dev.port p).slotUsed ≠ some (s.dev.frame.n, j) ∧ (s.dev.port p).live = true ∧ ((s.dev.port p).fragsSent < 4 → j < 24)
def onArm5 (off : Nat) (x : PortX) : State := linked off [(Reg.PMAP.PORT_ARM 23, 5)] (onPort 23 x)

theorem witness_DownlinkSlotContent :
    (∃ s : State, SlotBegins s 23 0 0 0 ∧ (s.dev.port 23).fresh = false ∧ (s.dev.port 23).blockWord = true) ∧
    (∃ s : State, SlotBegins s 23 554 0 5 ∧ (s.dev.port 23).fresh = false ∧ (s.dev.port 23).blockWord = true) ∧
    (∃ s : State, SlotBegins s 23 554 5 5 ∧ (s.dev.port 23).fresh = false ∧ (s.dev.port 23).blockWord = false ∧
      (s.dev.port 23).stackQ = [bypass]) ∧
    (∃ s : State, SlotBegins s 23 0 0 0 ∧ (s.dev.port 23).fresh = true ∧ (s.dev.port 23).fragsSent = 0 ∧ (s.dev.port 23).blockWord = true) ∧
    (∃ s : State, SlotBegins s 23 23 0 0 ∧ (s.dev.port 23).fresh = false ∧ (s.dev.port 23).fragsSent = 0 ∧
      (s.dev.port 23).blockWord = false ∧ (s.dev.port 23).stackQ = [] ∧ (s.dev.port 23).otherQ = []) ∧
    (∀ i ∈ [4, 5], ∃ s : State, SlotBegins s 23 554 i 5 ∧ (s.dev.port 23).fresh = false ∧ (s.dev.port 23).blockWord = false ∧
      (s.dev.port 23).stackQ = [] ∧ (s.dev.port 23).otherQ = [] ∧ 4 ≤ (s.dev.port 23).fragsSent ∧ (s.dev.port 23).frags = [] ∧
      (s.dev.port 23).mgmtQ = []) := by
  unfold SlotBegins
  refine ⟨⟨onArm5 0 { live := true, blockWord := true, stackQ := [bypass] }, ?_⟩,
    ⟨onArm5 99720 { live := true, blockWord := true, fragsSent := 4 }, ?_⟩,
    ⟨onArm5 99820 { live := true, stackQ := [bypass], fragsSent := 4 }, ?_⟩,
    ⟨onArm5 0 { live := true, fresh := true, blockWord := true, fragsSent := 0 }, ?_⟩,
    ⟨onArm5 4140 { live := true, fragsSent := 0 }, ?_⟩, ?_⟩
  rotate_right
  · intro i hi
    simp only [List.mem_cons, List.not_mem_nil, or_false] at hi
    rcases hi with rfl | rfl
    · exact ⟨onArm5 99800 { live := true, fragsSent := 4 }, by decide +kernel⟩
    · exact ⟨onArm5 99820 { live := true, fragsSent := 4 }, by decide +kernel⟩
  all_goals decide +kernel

def zeros12 : List Byte := [0, 0, 0, 0, 0, 0, 0, 0, 0, 0]
/-- Cell 127 of port 23, on arm 5, in a cell state. -/
def lastCell (st : Nat) (regs : List (Nat × Nat) := []) (f : Dev → Dev := id) : State :=
  linked 0 ([(Reg.PMAP.PORT_ARM 23, 5), (Reg.CELL.STATE 3071, st), (Reg.TURF.SERIAL 3071, 0xC0FFEE)] ++ regs) (fun d => f (d.setCell 3071 {}))

theorem witness_SodsReachTheirCell :
    (∃ (s : State) (b : Burst), s.dev.frame.run = true ∧ (s.met 0).armOfPort 23 = some 5 ∧ s.dev.cellState 3071 = csACTIVE ∧
      (s.met 0).strmOf 3 = [] ∧ 127 < ((s.met 0).uplinkOf 23 (fun _ => 220 * 127)).2.2.1.nSod ∧ b.codeOk = true ∧ b.crcOk = true ∧ b.typ = 1 ∧
      b.addr = 127 ∧ b.frame = ((s.met 0).uplinkOf 23 (fun _ => 220 * 127)).1 % 16 ∧ b.bytes.length = 16) ∧
    (∃ s : State, s.dev.frame.run = true ∧ (s.met 0).armOfPort 23 = some 5 ∧ s.dev.cellState 3071 = csACTIVE ∧ (s.met 0).strmOf 3 = [] ∧
      127 < ((s.met 0).uplinkOf 23 (fun _ => 220 * 128)).2.2.1.nSod ∧ (s.dev.port 23).errCount < s.dev.get (Reg.PORT.ERR_LIMIT 23) ∧
      s.dev.get (Reg.CELL.MISSED 3071) + 2 = s.dev.get (Reg.LANE.STALE_SODS 5) ∧ s.dev.get (Reg.CELL.MISSED 3071) + 1 < 256) ∧
    (∃ s : State, s.dev.frame.run = true ∧ (s.met 0).armOfPort 23 = some 5 ∧ s.dev.cellState 3071 = csACTIVE ∧ (s.met 0).strmOf 3 = [] ∧
      127 < ((s.met 0).uplinkOf 23 (fun _ => 220 * 128)).2.2.1.nSod ∧ (s.dev.port 23).errCount < s.dev.get (Reg.PORT.ERR_LIMIT 23) ∧
      s.dev.get (Reg.CELL.MISSED 3071) + 1 = s.dev.get (Reg.LANE.STALE_SODS 5)) :=
  ⟨⟨lastCell csACTIVE, burst 1 4 127 ([0, 0] ++ zeros12), by decide +kernel⟩,
    ⟨lastCell csACTIVE [(Reg.LANE.STALE_SODS 5, 4), (Reg.CELL.MISSED 3071, 2)], by decide +kernel⟩,
    lastCell csACTIVE [(Reg.LANE.STALE_SODS 5, 4), (Reg.CELL.MISSED 3071, 3)], by decide +kernel⟩

/-- An announce of serial 0xC0FFEE with MODEL_FW 0x01020304. -/
def announces : Burst := burst 2 4 0 (beBytes 8 0xC0FFEE ++ [1, 2, 3, 4, 0, 0, 0, 0])

theorem witness_AnnounceQueuesForRanging : ∃ (s : State) (b : Burst), s.dev.frame.run = true ∧ b.codeOk = true ∧ b.crcOk = true ∧ b.typ = 2 ∧
    b.bytes.length = 20 ∧ b.frame = ((s.met 0).uplinkOf 23 Plan.tinder).1 % 16 ∧ ofBe (b.payload.take 8) ≠ 0 ∧
    s.dev.turfSlot 23 (ofBe (b.payload.take 8)) = some 3071 ∧ s.dev.cellState 3071 = csABSENT ∧ addrOf 3071 < (s.dev.port 23).plan.nSod ∧
    (∀ n, n < 64 → s.dev.get (Reg.STRANGER.PORT n) = 0xFF ∨ s.dev.get (Reg.STRANGER.SERIAL n) ≠ ofBe (b.payload.take 8)) :=
  ⟨lastCell csABSENT, announces, by decide +kernel⟩

/-- A ranging burst of serial 0xC0FFEE at an arrival in units of 50 ps. -/
def ranges (arrival : Int) : Burst := burst 3 4 0 (beBytes 8 0xC0FFEE) arrival
def RangedAt (s : State) (b : Burst) : Prop :=
  s.dev.frame.run = true ∧ (if ((s.met 0).uplinkOf 23 (fun q => q.mgmtAt + 16000)).2.2.2 then (s.dev.port 23).ranging
      else (s.dev.port 23).rangingOld) = some 3071 ∧ s.dev.cellState 3071 = csANNOUNCED ∧ b.codeOk = true ∧ b.crcOk = true ∧ b.typ = 3 ∧
    b.frame = ((s.met 0).uplinkOf 23 (fun q => q.mgmtAt + 16000)).1 % 16 ∧ b.bytes.length = 12 ∧
    ofBe b.payload = s.dev.get (Reg.TURF.SERIAL 3071)

theorem witness_RangingAdmits :
    (∃ s : State, RangedAt s (ranges 0)) ∧
    (∃ s : State, RangedAt s (ranges 63000) ∧ (63000 : Int) ≤ 2 * min ((10 * (((s.met 0).uplinkOf 23 (fun q => q.mgmtAt + 16000)).2.2.1.eq - 1000) : Nat) : Int) 31500) ∧
    (∃ s : State, s.dev.frame.run = true ∧ s.dev.cellState 3071 = csADMITTED ∧ (s.dev.cell 3071).admitFrame + 4 < s.dev.frame.n ∧
      (s.dev.cell 3071).fails + 1 < s.dev.get Reg.LINK.RANGE_TRIES) ∧
    (∃ s : State, s.dev.frame.run = true ∧ s.dev.cellState 3071 = csADMITTED ∧ (s.dev.cell 3071).admitFrame + 4 < s.dev.frame.n ∧
      (s.dev.cell 3071).fails + 1 = s.dev.get Reg.LINK.RANGE_TRIES) ∧
    (∃ s : State, s.dev.frame.run = true ∧ s.dev.cellState 3071 = csSTALE ∧
      (s.dev.cell 3071).staleFrame + s.dev.get Reg.LINK.ABSENT_AFTER ≤ s.dev.frame.n) := by
  unfold RangedAt
  exact ⟨⟨lastCell csANNOUNCED [] (onPort 23 { rangingOld := some 3071 }), by decide +kernel⟩,
    ⟨lastCell csANNOUNCED [] (onPort 23 { rangingOld := some 3071 }), by decide +kernel⟩,
    ⟨lastCell csADMITTED [(Reg.LINK.RANGE_TRIES, 3)], by decide +kernel⟩,
    ⟨lastCell csADMITTED [(Reg.LINK.RANGE_TRIES, 3)] (fun d => d.setCell 3071 { fails := 2 }), by decide +kernel⟩,
    lastCell csSTALE [(Reg.LINK.ABSENT_AFTER, 5)], by decide +kernel⟩

def txn (tries : Nat) : Txn := { tid := 0x21, slot := 3071, rsp := 7, param := 0, body := [], tries := tries, due := some 4, expect := some 4 }
/-- A response of 29 bytes to that transaction. -/
def response : Burst := burst 4 4 127 ([0x21, 0, 29] ++ List.replicate 29 0x5A)

theorem witness_MailboxTransactions :
    (∃ s : State, s.Inv ∧ (s.met 0).writable Reg.MBX.START = true ∧ s.dev.get Reg.MBX.STATUS ≠ 1 ∧ s.dev.get Reg.MBX.TARGET = 3071 ∧
      s.dev.cellState 3071 ∈ [csACTIVE, csSTALE, csDISPUTED] ∧ s.dev.get Reg.MBX.OP = 0 ∧ (s.dev.port 23).plan.mgmt ≠ 0 ∧
      (s.dev.port 23).txnWait = [] ∧ (s.dev.port 23).freeRsp = some 0) ∧
    (∃ (s : State) (b : Burst) (q : Txn), s.Inv ∧ s.dev.frame.run = true ∧
      (s.met 0).txnAt 23 7 ((s.met 0).uplinkOf 23 (fun z => z.mgmtAt + 440 * 7)).1 = some q ∧ q.seed = false ∧ b.codeOk = true ∧ b.crcOk = true ∧
      b.typ = 4 ∧ b.frame = ((s.met 0).uplinkOf 23 (fun z => z.mgmtAt + 440 * 7)).1 % 16 ∧ b.addr = addrOf q.slot ∧
      ofBe (b.payload.take 1) = q.tid ∧ ofBe ((b.payload.drop 1).take 1) = 0 ∧ ofBe ((b.payload.drop 2).take 1) = 29 ∧ b.payload.length = 29 + 3) ∧
    (∃ s : State, s.Inv ∧ s.dev.frame.run = true ∧ s.dev.live = true ∧ s.dev.get Reg.MBX.TRIES = 2 ∧
      (s.dev.port 23).txns.find? (fun z => z.rsp == 7 && (match z.expect with
        | some f => decide (f ≤ ((s.met 0).uplinkOf 23 (fun z => z.mgmtAt + 440 * 8)).1)
        | none => false)) = some (txn 1)) ∧
    (∃ s : State, s.Inv ∧ s.dev.frame.run = true ∧ s.dev.live = true ∧ s.dev.get Reg.MBX.TRIES = 2 ∧
      (s.dev.port 23).txns.find? (fun z => z.rsp == 7 && (match z.expect with
        | some f => decide (f ≤ ((s.met 0).uplinkOf 23 (fun z => z.mgmtAt + 440 * 8)).1)
        | none => false)) = some (txn 2)) :=
  ⟨⟨lastCell csACTIVE [(Reg.MBX.TARGET, 3071)], ⟨by decide +kernel, rfl⟩, by decide +kernel⟩,
    ⟨lastCell csACTIVE [] (onPort 23 { txns := [txn 1] }), response, txn 1, ⟨by decide +kernel, rfl⟩, by decide +kernel⟩,
    ⟨lastCell csACTIVE [(Reg.MBX.TRIES, 2)] (onPort 23 { txns := [txn 1] }), ⟨by decide +kernel, rfl⟩, by decide +kernel⟩,
    lastCell csACTIVE [(Reg.MBX.TRIES, 2)] (onPort 23 { txns := [txn 2] }), ⟨by decide +kernel, rfl⟩, by decide +kernel⟩

theorem witness_StrangersAndTurf :
    (∃ s : State, (s.met 0).writable (Reg.STRANGER.IDENTIFY 63) = true ∧ s.dev.get Reg.LINK.STRANGER_POLICY = 0 ∧
      (s.met 0).writable (Reg.STRANGER.CLEAR 63) = true) ∧
    (∃ s : State, (s.met 0).writable (Reg.STRANGER.IDENTIFY 63) = true ∧ s.dev.get Reg.LINK.STRANGER_POLICY ≠ 0 ∧ s.dev.get (Reg.STRANGER.PORT 63) = 0xFF) ∧
    (∃ s : State, (s.met 0).writable (Reg.STRANGER.IDENTIFY 63) = true ∧ s.dev.get Reg.LINK.STRANGER_POLICY ≠ 0 ∧ s.dev.get (Reg.STRANGER.PORT 63) = 23) ∧
    (∃ s : State, (s.met 0).writable (Reg.TURF.SERIAL 3071) = true ∧ s.dev.twin.cfg.length < 1536 ∧ s.dev.hasLease = false) ∧
    (∃ s : State, (s.met 0).writable (Reg.TURF.SERIAL 3071) = true ∧ s.dev.twin.cfg.length < 1536 ∧ s.dev.hasLease = true ∧
      7 ≠ s.dev.get (Reg.TURF.SERIAL 3071) ∧ s.dev.cellState 3071 ≠ csABSENT) ∧
    (∃ s : State, (s.met 0).writable (Reg.TURF.SERIAL 0) = true ∧ s.dev.twin.cfg.length < 1536 ∧ s.dev.hasLease = true ∧
      s.dev.cellState 0 = csABSENT ∧ s.dev.turfAny 0xC0FFEE = some 1) ∧
    (∃ s : State, (s.met 0).writable (Reg.TURF.SERIAL 3071) = true ∧ s.dev.twin.cfg.length < 1536 ∧ s.dev.hasLease = true ∧
      s.dev.cellState 3071 = csABSENT) :=
  ⟨⟨mk dsSAFE [(Reg.LINK.STRANGER_POLICY, 0)], by decide +kernel⟩, ⟨mk dsSAFE [(Reg.LINK.STRANGER_POLICY, 1)], by decide +kernel⟩,
    ⟨mk dsSAFE [(Reg.LINK.STRANGER_POLICY, 1), (Reg.STRANGER.PORT 63, 23)], by decide +kernel⟩,
    ⟨mk dsSAFE [(Reg.TWIN.TWIN_EN, 1)], by decide +kernel⟩, ⟨lastCell csACTIVE, by decide +kernel⟩,
    ⟨mk dsSAFE [(Reg.TURF.SERIAL 1, 0xC0FFEE)], by decide +kernel⟩, lastCell csABSENT, by decide +kernel⟩

def changing (st : Nat) (x : ModeX) (regs : List (Nat × Nat) := []) : State :=
  linked 0 ([(Reg.MODE.STATE, st)] ++ regs) (fun d => { d with link := { d.link with mode := x } })

/-- TT lies at the boundary at which the change is decided. -/
def DueNow (s : State) : Prop :=
  s.dev.get Reg.MODE.STATE = 1 ∧ s.dev.link.mode.aborts = 0 ∧ s.dev.frame.run = true ∧ s.dev.frame.started = true ∧ s.ttAt 0 = s.dev.frame.bn

theorem witness_ProfileChange :
    (∃ s : State, (s.met 0).writable Reg.MODE.START = true ∧ s.dev.get Reg.MODE.STATE = 5 ∧ s.dev.ds ≠ dsCONFIGURED ∧
      (s.dev.get Reg.MODE.PREP_FRAMES + s.dev.get Reg.MODE.LEAD) * s.dev.get Reg.LINK.TF ≤ 100000 ∧ s.dev.get Reg.MODE.ARM_MASK % 64 ≠ 0) ∧
    (∃ s : State, (s.met 0).writable Reg.MODE.ABORT = true ∧ s.dev.get Reg.MODE.STATE = 3) ∧
    (∃ s : State, (s.met 0).writable Reg.MODE.ABORT = true ∧ s.dev.get Reg.MODE.STATE = 1 ∧ s.dev.link.mode.aborts = 0) ∧
    (∃ s : State, DueNow s ∧ s.dev.acked = s.dev.link.mode.targets) ∧
    (∃ s : State, DueNow s ∧ s.dev.acked.length < s.dev.link.mode.targets.length ∧ s.dev.get Reg.MODE.QUORUM = 0 ∧
      s.dev.link.mode.p + s.dev.get Reg.MODE.PREP_FRAMES = s.dev.frame.n) ∧
    (∃ s : State, DueNow s ∧ s.dev.acked.length < s.dev.link.mode.targets.length ∧
      s.dev.link.mode.p + s.dev.get Reg.MODE.PREP_FRAMES = s.dev.frame.n ∧ s.dev.get Reg.MODE.QUORUM ≠ 0 ∧
      (∀ a ∈ s.dev.modeArms, s.dev.get Reg.MODE.QUORUM ≤ s.dev.ackedOf a)) ∧
    (∃ s : State, s.dev.frame.run = true ∧ s.dev.get Reg.MODE.STATE = 2 ∧ s.dev.link.mode.aborts = 0 ∧ s.dev.link.mode.m = s.dev.frame.n + 4) ∧
    (∃ s : State, s.dev.frame.run = true ∧ s.dev.get Reg.MODE.STATE = 3 ∧ s.dev.knownSlots = [] ∧ s.dev.link.mode.m = s.dev.frame.n) := by
  unfold DueNow
  exact ⟨⟨changing 5 {} [(Reg.MODE.ARM_MASK, 32)], by decide +kernel⟩, ⟨changing 3 {}, by decide +kernel⟩, ⟨changing 1 {}, by decide +kernel⟩,
    ⟨changing 1 {}, by decide +kernel⟩,
    ⟨changing 1 { targets := [3071], p := 1 } [(Reg.MODE.QUORUM, 0), (Reg.MODE.PREP_FRAMES, 4)], by decide +kernel⟩,
    ⟨linked 0 [(Reg.MODE.STATE, 1), (Reg.MODE.QUORUM, 1), (Reg.MODE.PREP_FRAMES, 4), (Reg.PMAP.PORT_ARM 23, 5)] (fun d =>
      Dev.setCell { d with link := { d.link with mode := { arms := 32, targets := [3070, 3071], p := 1, m := 9 } } } 3070 { prepAck := true }),
      by decide +kernel⟩,
    ⟨changing 2 { m := 9 }, by decide +kernel⟩, changing 3 { m := 5 }, by decide +kernel⟩

theorem witness_FrameBoundaryBeginsTheFrame :
    (∃ s : State, ¬(s.dev.frame.run = true ∧ s.dev.frame.next ≤ s.ttAt 0)) ∧
    (∃ s : State, s.dev.frame.run = true ∧ s.dev.frame.next = s.ttAt 0 ∧ s.dev.get Reg.COMMIT.SRC_FRAME = 0 ∧ s.dev.shadow ≠ []) ∧
    (∃ s : State, s.dev.frame.run = true ∧ s.dev.frame.next ≤ s.ttAt 0 ∧ s.dev.get Reg.COMMIT.SRC_FRAME ≠ 0 ∧ s.dev.shadow = []) :=
  ⟨⟨linked 99999 [], by decide +kernel⟩, ⟨linked 100000 [] (fun d => { d with shadow := waiting }), by decide +kernel⟩,
    linked 100000 [(Reg.COMMIT.SRC_FRAME, 0x81)], by decide +kernel⟩

/-- Input 7 has a function. -/
def input (ds fn : Nat) (regs : List (Nat × Nat) := []) : State := mk ds ((Reg.STN.IN_CFG 7, fn) :: regs)

theorem witness_StationInputs :
    (∃ s : State, s.dev.live = false) ∧
    (∃ s : State, s.dev.ds ∈ [dsLINKS_UP, dsADMITTED, dsRUNNING, dsTAKEOVER, dsSAFE] ∧ s.dev.stnFn 7 = 0) ∧
    (∃ s : State, s.dev.ds ∈ [dsLINKS_UP, dsADMITTED, dsRUNNING, dsTAKEOVER, dsSAFE] ∧ s.dev.stnFn 7 = 4 ∧
      (true != s.dev.bit (Reg.STN.IN_CFG 7) 7) = true ∧ s.dev.estop = false) ∧
    (∃ s : State, s.dev.ds = dsREADY ∧ s.dev.stnFn 7 = 4 ∧ (false != s.dev.bit (Reg.STN.IN_CFG 7) 7) = true ∧ s.dev.estop = false) ∧
    (∃ s : State, s.dev.ds = dsRUNNING ∧ s.dev.stnFn 7 ∈ [1, 2, 3] ∧ (false != s.dev.bit (Reg.STN.IN_CFG 7) 7) = false ∧
      s.dev.permissive (s.dev.stnFn 7) = true) ∧
    (∃ s : State, s.dev.ds = dsREADY ∧ s.dev.readyOk = true ∧ s.dev.stnFn 7 = 5 ∧ (true != s.dev.bit (Reg.STN.IN_CFG 7) 7) = true ∧
      s.dev.stnAny 5 = false) ∧
    (∃ s : State, s.dev.stnFn 7 = 6 ∧ (true != s.dev.bit (Reg.STN.IN_CFG 7) 7) = true ∧ s.dev.stnAny 6 = false ∧ s.dev.ds = dsRUNNING ∧
      s.dev.readyOk = true ∧ (s.met 0).writable Reg.DEVCMD.DEV_CMD = true) :=
  ⟨⟨.reset, by decide +kernel⟩, ⟨input dsSAFE 0, by decide +kernel⟩, ⟨input dsTAKEOVER 4, by decide +kernel⟩,
    ⟨input dsREADY 0x84, by decide +kernel⟩, ⟨input dsRUNNING 3 [(Reg.STN.IN_LEVEL, 0x80)], by decide +kernel⟩,
    ⟨input dsREADY 5, by decide +kernel⟩, input dsRUNNING 6, by decide +kernel⟩

/-- Grid angle unit 1 with its lines in quadrant 0, angle and frequency valid: 50 Hz. -/
def gau1 (regs : List (Nat × Nat)) (x : GauX := {}) (f : Dev → Dev := id) : State :=
  mk dsRUNNING ([(Reg.GAU.ENABLE 1, 1), (Reg.GAU.STATUS 1, 0x33), (Reg.GAU.FREQ 1, 0x42480000)] ++ regs)
    (fun d => f (d.setGau 1 { x with known := true, convTt := 100000000000 }))
def Target (s : State) (cyc : Nat) : Int :=
  toSigned 32 cyc * 2 ^ 32 + s.dev.get (Reg.GAU.CMP_ANGLE 1) - (s.met 0).position 1 (s.ttAt 0)

theorem witness_AngleComparesAndClosePulse :
    (∃ s : State, (s.met 0).writable Reg.STN.CLOSE_ARM = true ∧ s.dev.ds ∉ [dsLINKS_UP, dsADMITTED, dsREADY, dsRUNNING]) ∧
    (∃ s : State, (s.met 0).writable Reg.STN.CLOSE_ARM = true ∧ (s.met 0).writable (Reg.GAU.CMP_ARM 1) = true ∧
      s.dev.ds ∈ [dsLINKS_UP, dsADMITTED, dsREADY, dsRUNNING] ∧ s.dev.cs 1 csARMED = true) ∧
    (∃ s : State, (s.met 0).writable Reg.STN.CLOSE_ARM = true ∧ s.dev.ds ∈ [dsLINKS_UP, dsADMITTED, dsREADY, dsRUNNING] ∧
      s.dev.cs 1 csARMED = false ∧ s.dev.get (Reg.GAU.CMP_MODE 1) = 1 ∧ s.dev.cmpBlocked 1 = true) ∧
    (∃ s : State, (s.met 0).writable Reg.STN.CLOSE_ARM = true ∧ s.dev.ds ∈ [dsLINKS_UP, dsADMITTED, dsREADY, dsRUNNING] ∧
      s.dev.cs 1 csARMED = false ∧ s.dev.get (Reg.GAU.CMP_MODE 1) = 0 ∧ s.dev.cmpBlocked 1 = true) ∧
    (∃ s : State, (s.met 0).writable Reg.STN.CLOSE_ARM = true ∧ s.dev.ds ∈ [dsLINKS_UP, dsADMITTED, dsREADY, dsRUNNING] ∧
      s.dev.cs 1 csARMED = false ∧ s.dev.cmpBlocked 1 = false ∧ s.dev.get (Reg.GAU.CMP_MODE 1) = 0 ∧
      Target s (s.dev.get (Reg.GAU.CMP_CYCLES 1)) = 0) ∧
    (∃ s : State, (s.met 0).writable Reg.STN.CLOSE_ARM = true ∧ s.dev.ds ∈ [dsLINKS_UP, dsADMITTED, dsREADY, dsRUNNING] ∧
      s.dev.cs 1 csARMED = false ∧ s.dev.cmpBlocked 1 = false ∧ s.dev.get (Reg.GAU.CMP_MODE 1) = 0 ∧
      Target s (s.dev.get (Reg.GAU.CMP_CYCLES 1)) = -1 ∧ (s.dev.gau 1).hit = none ∧ s.dev.get (Reg.GAU.CMP_ROUTE 1) = 0 ∧
      s.dev.kindle.closeArm.testBit 1 = false ∧ (s.met 0).writable (Reg.GAU.CMP_DISARM 1) = true) ∧
    (∃ s : State, (s.dev.gau 1).hit = some (s.ttAt 0) ∧ s.dev.cs 1 csARMED = true ∧ s.dev.cs 1 csHELD = false ∧
      s.dev.kindle.closeArm.testBit 1 = true ∧ s.dev.live = true ∧ s.dev.bit (Reg.GAU.CMP_ROUTE 1) 1 = true ∧ s.dev.time.trig.find 1 = none) ∧
    (∃ s : State, (s.dev.gau 1).hit = some (s.ttAt 0) ∧ s.dev.cs 1 csARMED = true ∧ s.dev.cs 1 csHELD = false ∧ s.dev.live = true ∧
      s.dev.kindle.closeArm.testBit 1 = false) ∧
    (∃ s : State, s.dev.kindle.close.find 1 = some 100) ∧
    (∃ s : State, (s.met 0).writable Reg.STN.CLOSE_ARM = true) :=
  ⟨⟨mk dsSAFE [], by decide +kernel⟩, ⟨gau1 [(Reg.GAU.CMP_STATUS 1, 1)], by decide +kernel⟩,
    ⟨gau1 [(Reg.GAU.STATUS 1, 0x3B), (Reg.GAU.CMP_MODE 1, 1)], by decide +kernel⟩, ⟨gau1 [(Reg.GAU.STATUS 1, 0x3B), (Reg.GAU.CMP_MODE 1, 0)], by decide +kernel⟩,
    ⟨gau1 [(Reg.GAU.CMP_MODE 1, 0), (Reg.GAU.CYCLES 1, 3), (Reg.GAU.CMP_CYCLES 1, 3), (Reg.GAU.CMP_ANGLE 1, 77)] { angle := 77 }, by decide +kernel⟩,
    ⟨gau1 [(Reg.GAU.CMP_MODE 1, 0), (Reg.GAU.CYCLES 1, 3), (Reg.GAU.CMP_CYCLES 1, 3), (Reg.GAU.CMP_ANGLE 1, 76)] { angle := 77 }, by decide +kernel⟩,
    ⟨gau1 [(Reg.GAU.CMP_STATUS 1, 1), (Reg.GAU.CMP_ROUTE 1, 2)] { hit := some 100000000000 }
      (fun d => { d with kindle := { d.kindle with closeArm := 3 } }), by decide +kernel⟩,
    ⟨gau1 [(Reg.GAU.CMP_STATUS 1, 1)] { hit := some 100000000000 }, by decide +kernel⟩,
    ⟨mk dsRUNNING [] (fun d => { d with kindle := { d.kindle with close := [(1, 100)] } }), by decide +kernel⟩,
    mk dsRUNNING [], by decide +kernel⟩

def conv17 (x : CvX) (regs : List (Nat × Nat) := []) : State := mk dsRUNNING regs (fun d => d.setCv 17 x)

/-- A start of the converter's grid is due, and nothing waits to restart. -/
def GridStart (s : State) : Prop :=
  s.dev.sampling = true ∧ (s.met 0).gridSlot 17 (s.ttAt 0) = some 100000000 ∧ (s.dev.cv 17).restart = none
/-- An urgent request of single converter 17, which does not calibrate. -/
def Urgent (s : State) : Prop := (s.met 0).writable (Reg.CV.URGENT 17) = true ∧ s.dev.calibrating 17 = false
def running17 : ConvX := { strobe := 99999999000, si := 99999999 }

theorem witness_ConversionStarts :
    (∃ s : State, GridStart s ∧ (s.dev.cv 17).busyUntil = s.ttAt 0 ∧ (s.dev.cv 17).urgentWait = false ∧ (s.dev.cv 17).pend = none ∧
      (s.dev.cv 17).calWait = false) ∧
    (∃ s : State, GridStart s ∧ s.ttAt 0 + 1 = (s.dev.cv 17).busyUntil ∧ (s.dev.cv 17).pend = none) ∧
    (∃ s : State, GridStart s ∧ s.ttAt 0 < (s.dev.cv 17).busyUntil ∧ (s.dev.cv 17).pend.isSome = true) ∧
    (∃ s : State, (s.met 0).writable (Reg.CV.URGENT 11) = true ∧ (s.met 0).writable (Reg.CV.URGENT 12) = true ∧
      s.dev.calibrating 12 = true) ∧
    (∃ s : State, Urgent s ∧ s.ttAt 0 + 1 = (s.dev.cv 17).urgentUntil ∧ (s.dev.cv 17).urgentWait = false) ∧
    (∃ s : State, Urgent s ∧ s.ttAt 0 + 1 = (s.dev.cv 17).urgentUntil ∧ (s.dev.cv 17).urgentWait = true) ∧
    (∃ s : State, Urgent s ∧ (s.dev.cv 17).calWait = false ∧ (s.dev.cv 17).urgentUntil = s.ttAt 0 ∧ (s.dev.cv 17).busyUntil = s.ttAt 0) ∧
    (∃ (s : State) (c : ConvX), Urgent s ∧ (s.dev.cv 17).calWait = false ∧ (s.dev.cv 17).conv = some c ∧
      (s.dev.cv 17).urgentUntil ≤ s.ttAt 0 ∧ (s.ttAt 0 + 99) / 100 * 100 < (s.dev.cv 17).busyUntil) := by
  unfold GridStart Urgent
  exact ⟨⟨conv17 { busyUntil := 100000000000 }, by decide +kernel⟩, ⟨conv17 { busyUntil := 100000000001 }, by decide +kernel⟩,
    ⟨conv17 { busyUntil := 100000000001, pend := some { due := 0, si := 0 } }, by decide +kernel⟩,
    ⟨mk dsRUNNING [(Reg.CV.CAL_STATE 12, 1)], by decide +kernel⟩, ⟨conv17 { urgentUntil := 100000000001 }, by decide +kernel⟩,
    ⟨conv17 { urgentUntil := 100000000001, urgentWait := true }, by decide +kernel⟩,
    ⟨conv17 { urgentUntil := 100000000000, busyUntil := 100000000000 }, by decide +kernel⟩,
    conv17 { busyUntil := 100000001000, conv := some running17 }, running17, by decide +kernel⟩

/-- The hypotheses of ConversionResults that its two clauses share. -/
def Converted (s : State) (k : Nat) (c : ConvX) : Prop :=
  (s.dev.cv k).late = none ∧ (s.dev.cv k).conv = some c ∧ c.strobe + 1500 = s.ttAt 0 ∧ c.cal = false ∧
    (∀ j, j < 18 → s.dev.calibrating j = false) ∧ (s.dev.cv k).calSettle = none ∧ (s.dev.cv (chanOf k)).emptyAt = [] ∧
    (s.dev.cv (chanOf k)).settle = [] ∧ (s.dev.cv k).calWait = false ∧ s.dev.ashRunning = false
def ending : ConvX := { strobe := 99999998500, si := 99999998 }

theorem witness_ConversionResults :
    (∃ (s : State) (c : ConvX), Converted s 12 c ∧ (s.dev.cv 12).filterAt c.strobe (s.dev.get (Reg.CV.FILTER 12)) = 0 ∧ (s.met 0).strmOf 1 = [] ∧
      (∀ a, a < 6 → s.dev.get (Reg.ARM.V_POLE_CV a) ≠ 12 ∧ s.dev.get (Reg.ARM.V_AC_CV a) ≠ 12)) ∧
    (∃ (s : State) (c : ConvX), Converted s 11 c ∧ (s.met 0).getAt c.si (Reg.CV.FILTER 10) = 0 ∧ (s.dev.cv 10).reduced = false ∧
      s.dev.sampling = true) := by
  unfold Converted
  exact ⟨⟨mk dsRUNNING [(Reg.CV.FILTER 12, 0)] (fun d => d.setCv 12 { conv := some ending }), ending, by decide +kernel⟩,
    mk dsRUNNING [(Reg.CV.FILTER 10, 0)] (fun d => d.setCv 11 { conv := some ending }), ending, by decide +kernel⟩

theorem witness_Calibration :
    (∃ s : State, (∀ j, j < 4 → s.dev.get (Reg.MSLOT.STATUS j) ≠ 1) ∧ (s.met 0).writable (Reg.CV.CAL 11) = true ∧ s.dev.calibrating 11 = false ∧
      (s.dev.cv 11).calWait = false ∧ (s.dev.cv 11).conv = none ∧ s.dev.ds = dsRUNNING ∧ s.dev.calibrating 10 = false ∧
      (s.dev.cv 10).calWait = false ∧ s.dev.bit (Reg.CV.RESULT 10) 31 = true) ∧
    (∃ s : State, (∀ j, j < 4 → s.dev.get (Reg.MSLOT.STATUS j) ≠ 1) ∧ (s.met 0).writable (Reg.CV.CAL 11) = true ∧ s.dev.calibrating 11 = false ∧
      (s.dev.cv 11).calWait = false ∧ (s.dev.cv 11).conv = none ∧ s.dev.ds = dsCONFIGURED ∧ s.dev.calibrating 10 = false ∧
      (s.dev.cv 10).calWait = false ∧ s.dev.bit (Reg.CV.RESULT 10) 31 = false) ∧
    (∃ s : State, (∀ j, j < 4 → s.dev.get (Reg.MSLOT.STATUS j) ≠ 1) ∧ (s.met 0).writable (Reg.CV.CAL 12) = true ∧ s.dev.calibrating 12 = false ∧
      (s.dev.cv 12).calWait = false ∧ (s.dev.cv 12).conv = none ∧ s.dev.ds = dsREADY ∧ s.dev.get (Reg.CV.REDUNDANT 12) = 0xFF ∧
      (s.met 0).writable Reg.MEAS.CAL_ALL = true ∧
      (∀ j, j < 18 → s.dev.calibrating j = false ∧ (s.dev.cv j).calWait = false ∧ (s.dev.cv j).conv = none)) ∧
    (∃ s : State, (∀ j, j < 4 → s.dev.get (Reg.MSLOT.STATUS j) ≠ 1) ∧ (s.met 0).writable (Reg.CV.CAL 17) = true ∧ s.dev.calibrating 17 = false ∧
      (s.dev.cv 17).calWait = false ∧ (s.dev.cv 17).conv = none ∧ s.dev.ds = dsRUNNING ∧ s.dev.get (Reg.CV.REDUNDANT 17) = 0xFF ∧
      (s.met 0).writable Reg.MEAS.CAL_ALL = true) ∧
    (∃ s : State, (∀ j, j < 4 → s.dev.get (Reg.MSLOT.STATUS j) ≠ 1) ∧ (s.met 0).writable (Reg.CV.CAL 17) = true ∧ s.dev.calibrating 17 = false ∧
      (s.dev.cv 17).calWait = false ∧ (s.dev.cv 17).conv = none ∧ s.dev.ds = dsRUNNING ∧ s.dev.get (Reg.CV.REDUNDANT 17) = 12 ∧
      s.dev.calibrating 12 = false ∧ s.dev.get (Reg.CV.AIN 12) = s.dev.get (Reg.CV.AIN 17) ∧
      s.dev.get (Reg.CV.GAIN 12) = s.dev.get (Reg.CV.GAIN 17) ∧ (s.dev.cv 12).lastValid = some 99990000000 ∧ s.ttAt 0 ≤ 99990000000 + 10000000) ∧
    (∃ s : State, (∀ j, j < 4 → s.dev.get (Reg.MSLOT.STATUS j) ≠ 1) ∧ s.dev.calibrating 17 = true ∧ s.dev.live = true) :=
  ⟨⟨mk dsRUNNING [(Reg.CV.RESULT 10, 2 ^ 31)], by decide +kernel⟩, ⟨mk dsCONFIGURED [], by decide +kernel⟩, ⟨mk dsREADY [], by decide +kernel⟩,
    ⟨mk dsRUNNING [], by decide +kernel⟩,
    ⟨mk dsRUNNING [(Reg.CV.REDUNDANT 17, 12), (Reg.CV.AIN 12, 5), (Reg.CV.AIN 17, 5)] (fun d => d.setCv 12 { lastValid := some 99990000000 }), by decide +kernel⟩,
    mk dsRUNNING [(Reg.CV.CAL_STATE 17, 1)], by decide +kernel⟩

theorem witness_ReferenceAndComparators :
    (∃ s : State, s.dev.live = true ∧ s.dev.bit Reg.MEAS.LEAVES 0 = false ∧ s.dev.get (Reg.OC.ENABLE 11) = 0) ∧
    (∃ s : State, s.dev.live = true ∧ s.dev.get (Reg.OC.ENABLE 11) ≠ 0 ∧ s.dev.bit (Reg.OC.LEVEL 11) 0 = false ∧ s.dev.bit (Reg.OC.LEVEL 11) 1 = true ∧
      4 < ((926 : Int) - s.dev.get (Reg.OC.UPPER 11)).natAbs ∧ ¬ 4 < ((925 : Int) - s.dev.get (Reg.OC.UPPER 11)).natAbs ∧
      ¬ 4 < ((99 : Int) - s.dev.get (Reg.OC.LOWER 11)).natAbs) :=
  ⟨⟨mk dsSAFE [], by decide +kernel⟩,
    mk dsRUNNING [(Reg.OC.ENABLE 11, 1), (Reg.OC.LEVEL 11, 2), (Reg.OC.UPPER 11, 921), (Reg.OC.LOWER 11, 103)], by decide +kernel⟩

def edge (t : Nat) : Nat × Bool := (t, false)

theorem witness_GridAngle :
    (∃ s : State, s.dev.gauOn 1 = true ∧ s.dev.cs 1 csARMED = false ∧ (s.dev.gau 1).known = true ∧ 0 = (s.dev.quadrant 1 + 1) % 4 ∧
      s.dev.gs 1 gsDIR = false ∧ (s.dev.gau 1).edges.take 4 = [edge 4, edge 3, edge 2, edge 1] ∧ 1 < s.ttAt 0) ∧
    (∃ s : State, s.dev.gauOn 1 = true ∧ s.dev.cs 1 csARMED = false ∧ (s.dev.gau 1).known = true ∧ 3 = (s.dev.quadrant 1 + 3) % 4 ∧
      s.dev.gs 1 gsDIR = false ∧ (s.dev.gau 1).against = 0) ∧
    (∃ s : State, s.dev.gauOn 1 = true ∧ s.dev.cs 1 csARMED = false ∧ (s.dev.gau 1).known = true ∧ 3 = (s.dev.quadrant 1 + 3) % 4 ∧
      s.dev.gs 1 gsDIR = false ∧ (s.dev.gau 1).against = 1) ∧
    (∃ s : State, s.dev.gauOn 1 = true ∧ s.dev.cs 1 csARMED = false ∧ (s.dev.gau 1).known = true ∧ 2 = (s.dev.quadrant 1 + 2) % 4) ∧
    (∃ s : State, s.dev.gauOn 1 = true ∧ s.dev.cs 1 csARMED = false ∧ (s.dev.gau 1).lastEdge + s.dev.get (Reg.GAU.FREQ_TIMEOUT 1) * 10000 ≤ s.ttAt 0) ∧
    (∃ (s : State) (amp : BitVec 16), s.dev.gauOn 1 = true ∧ s.dev.cs 1 csARMED = false ∧ amp.toNat = s.dev.get (Reg.GAU.AMP_MIN 1) ∧
      s.dev.gs 1 gsLOSS = false) ∧
    (∃ (s : State) (amp : BitVec 16), s.dev.gauOn 1 = true ∧ s.dev.cs 1 csARMED = false ∧ amp.toNat < s.dev.get (Reg.GAU.AMP_MIN 1) ∧
      s.dev.gs 1 gsLOSS = false ∧ (s.dev.gau 1).low = 7) ∧
    (∃ (s : State) (amp : BitVec 16), s.dev.gauOn 1 = true ∧ s.dev.cs 1 csARMED = false ∧ amp.toNat = s.dev.get (Reg.GAU.AMP_MIN 1) ∧
      s.dev.gs 1 gsLOSS = true ∧ (s.dev.gau 1).high = 7) ∧
    (∃ s : State, s.dev.gauOn 1 = true ∧ s.dev.cs 1 csARMED = false ∧ s.dev.get Reg.FLUE.DAT_EN ≠ 0 ∧ s.dev.get Reg.FLUE.SEL = 1 ∧
      s.ttAt 0 % (s.dev.get Reg.FLUE.DAT_PERIOD * 10000) = 0) :=
  ⟨⟨gau1 [(Reg.GAU.STATUS 1, 0x32)] { edges := [edge 4, edge 3, edge 2, edge 1] }, by decide +kernel⟩, ⟨gau1 [], by decide +kernel⟩,
    ⟨gau1 [] { against := 1 }, by decide +kernel⟩, ⟨gau1 [], by decide +kernel⟩, ⟨gau1 [], by decide +kernel⟩,
    ⟨gau1 [(Reg.GAU.AMP_MIN 1, 200)], 200, by decide +kernel⟩, ⟨gau1 [(Reg.GAU.AMP_MIN 1, 200)] { low := 7 }, 199, by decide +kernel⟩,
    ⟨gau1 [(Reg.GAU.AMP_MIN 1, 200), (Reg.GAU.STATUS 1, 0x73)] { high := 7 }, 200, by decide +kernel⟩,
    gau1 [(Reg.FLUE.DAT_EN, 1), (Reg.FLUE.SEL, 1), (Reg.FLUE.DAT_PERIOD, 10)], by decide +kernel⟩

/-- A VALID word of arm 5. -/
def word5 : WordX := { si := 99999990, valid := true, data := 12, leg := 1, reason := 0 }
/-- Arm 5 in a state with that word, converters and feed-forward with plain numbers, 4 ports mapped. -/
def arm5 (st : Nat) (x : ArmX := {}) (regs : List (Nat × Nat) := []) (ds : Nat := dsRUNNING) (f : Dev → Dev := id) : State :=
  mk ds ([(Reg.ARM.STATE 5, st), (Reg.CV.SCALE 10, 0x3F800000), (Reg.ARM.V_AVG_MIN 5, 0x42C80000), (Reg.ARM.INVALID_MAX 5, 8),
    (Reg.PMAP.PORT_ARM 23, 5)] ++ regs) (fun d => f (d.setArm 5 { x with words := [word5] }))

theorem witness_ArmSampleLaw : ∃ s : State, (s.dev.arm 5).words = [word5] ∧ word5.valid = true ∧ s.dev.armState 5 = asCLOSED ∧
    s.dev.ds ≠ dsTAKEOVER ∧ (s.dev.arm 5).req = none ∧ (s.dev.arm 5).asks = [] ∧ (s.dev.arm 5).burst = 0 ∧ (s.dev.arm 5).events = [] ∧
    0 < (s.met 0).getAt word5.si (Reg.ARM.INVALID_MAX 5) ∧ s.dev.ashRunning = false ∧ s.dev.twin.take.left = 0 ∧ s.dev.net.wait = none ∧
    s.dev.net.spiWait = none ∧ (s.dev.lane 5).removals = [] ∧ F32.isNaN ((s.met 0).ffCount 5 word5.si ((s.dev.arm 5).frameOf word5.si)) = false ∧
    F32.isNaN ((s.met 0).refCode 5 word5.si ((s.dev.arm 5).frameOf word5.si)) = false ∧ (s.dev.arm 5).dwellEnd ≤ word5.si :=
  ⟨arm5 asCLOSED, by decide +kernel⟩

def asked (act : ArmAct) (cause : Nat := caDEVICE) : ArmAsk := { act := act, cause := cause, from_ := 99999990000 }
/-- The hypotheses that the transitions of ArmTransitions share. -/
def Turning (s : State) (act : ArmAct) (cause : Nat := caDEVICE) : Prop :=
  (s.dev.arm 5).words = [word5] ∧ word5.valid = true ∧ (s.dev.arm 5).req = none ∧ (s.dev.arm 5).asks = [asked act cause] ∧
    (asked act cause).from_ ≤ (s.met 0).strobe 5 word5.si ∧ (s.dev.arm 5).transSi ≠ word5.si ∧ (s.dev.arm 5).events = [] ∧
    0 < (s.met 0).getAt word5.si (Reg.ARM.INVALID_MAX 5) ∧ s.dev.ashRunning = false ∧ s.dev.twin.take.left = 0 ∧ s.dev.net.wait = none ∧
    s.dev.net.spiWait = none

theorem witness_ArmTransitions :
    (∀ st ∈ [asBLOCKED, asHOLD, asOPEN, asCLOSED], ((arm5 st).met 0).writable (Reg.ARM.ARM_CMD 5) = true ∧ (arm5 st).dev.armState 5 = st ∧
      (arm5 st).dev.armCause 5 ≠ caTAKEOVER ∧ (arm5 st).dev.armMapped 5 = true ∧ (arm5 st).dev.ds = dsRUNNING ∧
      (arm5 st).dev.coefWaits 5 = false) ∧
    (∃ s : State, (s.met 0).writable (Reg.ARM.ARM_CMD 5) = true ∧ s.dev.armState 5 = asOPEN ∧ s.dev.armCause 5 ≠ caTAKEOVER ∧
      s.dev.coefWaits 5 = true) ∧
    (∃ s : State, s.dev.armState 5 = asOPEN ∧
      (s.dev.arm 5).openSince + (s.met 0).getAt (siOf (s.met 0).tt) (Reg.ARM.T_OPEN_MAX 5) * 10000 ≤ (s.met 0).tt ∧
      ∀ o ∈ (s.dev.arm 5).asks, o.cause ≠ caWATCHDOG) ∧
    (∃ s, Turning s .block ∧ s.dev.armState 5 = asCLOSED) ∧ (∃ s, Turning s .hold ∧ s.dev.armState 5 = asCLOSED) ∧
    (∃ s, Turning s .openArm ∧ s.dev.armState 5 = asHOLD ∧ s.dev.ds ∈ [dsRUNNING, dsTAKEOVER]) ∧
    (∃ s, Turning s .deblock ∧ s.dev.armState 5 = asBLOCKED ∧ s.dev.ds = dsRUNNING ∧ s.dev.armMapped 5 = true) ∧
    (∃ s, Turning s .close ∧ s.dev.armState 5 = asOPEN ∧ s.dev.armCause 5 ≠ caTAKEOVER ∧ s.dev.fbLoss 5 = false ∧
      (s.met 0).coefPending 5 word5.si = false) ∧
    (∃ s, Turning s .hold caWATCHDOG ∧ s.dev.armState 5 = asOPEN) ∧ (∃ s, Turning s .hold caWATCHDOG ∧ s.dev.armState 5 = asCLOSED) := by
  unfold Turning
  exact ⟨by decide +kernel, ⟨arm5 asOPEN {} [] dsRUNNING (fun d => { d with shadow := [(0x260506, 1)] }), by decide +kernel⟩,
    ⟨arm5 asOPEN {} [(Reg.ARM.T_OPEN_MAX 5, 100)], by decide +kernel⟩, ⟨arm5 asCLOSED { asks := [asked .block] }, by decide +kernel⟩,
    ⟨arm5 asCLOSED { asks := [asked .hold] }, by decide +kernel⟩, ⟨arm5 asHOLD { asks := [asked .openArm] } [] dsTAKEOVER, by decide +kernel⟩,
    ⟨arm5 asBLOCKED { asks := [asked .deblock] }, by decide +kernel⟩, ⟨arm5 asOPEN { asks := [asked .close] }, by decide +kernel⟩,
    ⟨arm5 asOPEN { asks := [asked .hold caWATCHDOG] }, by decide +kernel⟩, arm5 asCLOSED { asks := [asked .hold caWATCHDOG] }, by decide +kernel⟩

def request (left : Nat) : SelReq := { si := 99999990, dir := 1, asked := 2, left := left, fb0 := 0, dFb := 0, pos := true }
/-- Arm 5 with a request and the ACTIVE cell 3071 on port 23. -/
def laned (left cmd : Nat) : State :=
  lastCell csACTIVE [(Reg.CELL.CMD_STATE 3071, cmd), (Reg.ARM.STATE 5, asCLOSED)] (fun d => d.setArm 5 { req := some (request left) })

theorem witness_LaneSelections :
    (∃ r : SelReq, ((laned 2 swBYP).dev.arm 5).req = some r ∧ 1 < r.left ∧ r.burst = false ∧ r.rest = false ∧
      (∃ g, ((laned 2 swBYP).met 0).choose 5 r.si r.dir r.pos false = some g ∧ g.1 = 3071 ∧ g.2.1 = opPOS) ∧
      (laned 2 swBYP).dev.armOfSlot 3071 = some 5 ∧ (laned 2 swBYP).dev.cmdState 3071 ≠ opState opPOS ∧
      ((laned 2 swBYP).dev.port 23).ban = false ∧ ((laned 2 swBYP).dev.port 23).stackQ.length < 8) ∧
    (∃ r : SelReq, ((laned 1 swPOS).dev.arm 5).req = some r ∧ 0 < r.left ∧ r.burst = false ∧ r.rest = false ∧
      ((laned 1 swPOS).met 0).choose 5 r.si r.dir r.pos false = none ∧ r.granted = 0 ∧ 0 < r.asked ∧ (laned 1 swPOS).dev.live = true) ∧
    (∃ (s : State) (v : KeyVals), (s.dev.lane 5).building = some v) :=
  ⟨⟨request 2, by decide +kernel, by decide, rfl, rfl, some_of (by decide +kernel), by decide +kernel⟩,
    ⟨request 1, by decide +kernel⟩, mk dsRUNNING [] (fun d => d.setLane 5 { building := some {} }), {}, by decide +kernel⟩

theorem witness_CellsAndLanesChange :
    (∃ s : State, (s.met 0).writable (Reg.CELL.RETIRE 3071) = true ∧ s.dev.armOfSlot 3071 = some 5 ∧ s.dev.cellState 3071 = csDISPUTED ∧
      s.dev.cmdState 3071 = swNEG) ∧
    (∀ wait ∈ [true, false], ∀ flags ∈ [0, 2 ^ flUNCONFIRMED], ∃ s : State, (s.met 0).writable (Reg.CELL.RETIRE 3071) = true ∧
      s.dev.armOfSlot 3071 = some 5 ∧ s.dev.cellState 3071 = csRETIRED ∧ s.dev.armState 5 = asBLOCKED ∧ s.dev.cmdState 3071 ∈ [swPOS, swNEG] ∧
      (s.dev.port 23).ban = false ∧ (s.dev.lane 5).removals.any (fun r => r.1 == 3071) = wait ∧
      s.dev.flag 3071 flUNCONFIRMED = (flags != 0)) ∧
    (∃ s : State, (s.met 0).writable (Reg.CELL.RETIRE 3071) = true ∧ s.dev.armOfSlot 3071 = some 5 ∧ s.dev.cellState 3071 = csACTIVE ∧
      (s.dev.port 23).ban = true) ∧
    (∃ s : State, (s.met 0).writable (Reg.CELL.RETIRE 3071) = true ∧ s.dev.armOfSlot 3071 = some 5 ∧ s.dev.cellState 3071 = csRETIRED ∧
      s.dev.armState 5 ≠ asBLOCKED) ∧
    (∃ (s : State) (v w : BitVec 64), (s.met 0).writable (Reg.CELL.GROUPS 3071) = true ∧ (∃ k, k < 8 ∧ 127 < v.toNat / 256 ^ k % 256) ∧
      (∀ k, k < 8 → w.toNat / 256 ^ k % 256 ≤ 127)) ∧
    (∃ s : State, s.dev.live = true ∧ s.dev.maintSpares = s.dev ∧ s.dev.laneArm 6 = some 5) ∧
    (∃ s : State, (s.met 0).writable Reg.SPARE.SPARE_IN = true ∧ s.dev.get Reg.SPARE.SPARE_STATE = 1) ∧
    (∃ s : State, (s.met 0).writable Reg.SPARE.SPARE_IN = true ∧ s.dev.get Reg.SPARE.SPARE_STATE ≠ 1 ∧ s.dev.armState 5 ∉ [asBLOCKED, asHOLD]) ∧
    (∃ s : State, (s.met 0).writable Reg.SPARE.SPARE_IN = true ∧ s.dev.hasLease = true ∧ s.dev.get Reg.SPARE.SPARE_STATE = 0 ∧
      s.dev.bit Reg.SPARE.FAILED_LANES 6 = false ∧ s.dev.armState 5 ∈ [asBLOCKED, asHOLD]) ∧
    (∃ s : State, s.dev.live = true ∧ s.dev.maintSpares = s.dev ∧ s.dev.get Reg.SPARE.SPARE_STATE = 1 ∧ s.dev.spare.arm - 1 = 5 ∧
      (∀ j, j < 4 → s.dev.get (Reg.MSLOT.STATUS j) ≠ 1)) :=
  ⟨⟨lastCell csDISPUTED [(Reg.CELL.CMD_STATE 3071, swNEG)], by decide +kernel⟩,
    fun wait hw flags hf => ⟨lastCell csRETIRED [(Reg.CELL.CMD_STATE 3071, swPOS), (Reg.CELL.FLAGS 3071, flags)]
      (fun d => d.setLane 5 { removals := if wait then [{ slot := 3071, state := swBLK, tt := 0, unicast := true }] else [] }), by revert wait flags; decide +kernel⟩,
    ⟨lastCell csACTIVE [] (onPort 23 { ban := true }), by decide +kernel⟩,
    ⟨lastCell csRETIRED [(Reg.ARM.STATE 5, asHOLD)], by decide +kernel⟩,
    ⟨mk dsRUNNING [], 0x8000000000000000, 0x7F7F7F7F7F7F7F7F, by decide +kernel, ⟨7, by decide, by decide +kernel⟩, by decide +kernel⟩,
    ⟨mk dsRUNNING [(Reg.SPARE.LANE_MAP, 0x00643210)], by decide +kernel, rfl, by decide +kernel⟩, ⟨mk dsRUNNING [(Reg.SPARE.SPARE_STATE, 1)], by decide +kernel⟩,
    ⟨arm5 asCLOSED, by decide +kernel⟩, ⟨arm5 asHOLD, by decide +kernel⟩,
    mk dsRUNNING [(Reg.SPARE.SPARE_STATE, 1)] (fun d => { d with spare := { arm := 6 } }), by decide +kernel, rfl, by decide +kernel⟩

/-- Node 4095 (rate group 3) as a constant, on core 17. -/
def kiln (x : NodeX) (f : KilnX → KilnX := id) (regs : List (Nat × Nat) := []) : State :=
  mk dsRUNNING regs (fun d => { d with kiln := f { d.kiln with
    run := true, nodes := [(4095, { x with desc := 0x02 * 2 ^ 26 + 3 * 2 ^ 24 })], cores := [(17, { node := some 4095 })] } })
def coreFree (k : KilnX) : KilnX := { k with cores := [] }
def readied (k : KilnX) : KilnX := { k with cores := [], rgs := k.rgs.put 3 { k.rgs.get 3 {} with running := true, ready := [4095] } }
/-- The hypotheses that the clauses on NODE_COMPLETE share. -/
def Ending (s : State) : Prop :=
  s.dev.get Reg.TRACE.ENABLE = 0 ∧ s.dev.live = true ∧ (s.dev.kcore 17).node = some 4095 ∧ (s.dev.kcore 17).leave = none
def Finite (s : State) : Bool :=
  let r := evalOp (s.dev.node 4095).op ((s.met 0).opInput 4095)
  F32.isFinite r.o0 && F32.isFinite r.o1 && r.s.all F32.isFinite

theorem witness_KilnPeriods :
    (∃ s : State, s.dev.get Reg.TRACE.ENABLE = 0 ∧ s.dev.kiln.run = true ∧ s.dev.kiln.halted = false ∧ s.dev.get (Reg.CORES.STATE 15) = kcACTIVE ∧
      (s.dev.kcore 15).node = none ∧ (∀ b, b < 15 → s.dev.kcoreTakes b = false) ∧ (∀ j, j < 3 → (s.dev.rgx j).ready = []) ∧ (s.dev.rgx 3).ready = [4095] ∧ (s.dev.node 4095).phase = npREADY) ∧
    (∃ s : State, Ending s ∧ (s.dev.node 4095).phase = npGRANTED ∧ (s.dev.node 4095).dup = false ∧ Finite s = true) ∧
    (∃ s : State, Ending s ∧ (s.dev.node 4095).phase = npDUP_GRANTED ∧ Finite s = true) ∧
    (∃ s : State, Ending s ∧ (s.dev.node 4095).phase = npGRANTED ∧ (s.dev.node 4095).dup = false ∧ Finite s = false) ∧
    (∃ s : State, Ending s ∧ (s.dev.node 4095).phase = npGRANTED ∧ (s.dev.node 4095).dup = true) ∧
    (∃ s : State, s.dev.get Reg.TRACE.ENABLE = 0 ∧ s.dev.live = true ∧ s.dev.kiln.run = true ∧ s.dev.kiln.halted = false ∧
      (s.dev.rgx 3).running = true ∧ (s.dev.rgx 3).done = false ∧ (s.met 0).rgDue 3 ≤ s.ttAt 0 ∧ (∀ e ∈ s.dev.kiln.cores, e.2.leave = none) ∧ s.dev.rgNodes 3 = [4095] ∧
      (s.dev.node 4095).ended = false) ∧
    (∃ s : State, s.dev.get Reg.TRACE.ENABLE = 0 ∧ (s.met 0).writable (Reg.NODE.CANCEL 4095) = true ∧ s.dev.kiln.run = true ∧
      (s.dev.node 4095).phase ∈ [npWAITING, npREADY] ∧ (s.dev.rgx (s.dev.node 4095).rg).running = true) ∧
    (∃ s : State, s.dev.get Reg.TRACE.ENABLE = 0 ∧ (s.met 0).writable (Reg.NODE.CANCEL 4095) = true ∧ s.dev.kiln.run = false) := by
  unfold Ending
  exact ⟨⟨kiln { phase := npREADY } readied ((List.range 15).map (fun c => (Reg.CORES.STATE c, kcRETIRED))), by decide +kernel⟩,
    ⟨kiln { phase := npGRANTED, coefs := [0x3F800000] }, by decide +kernel⟩,
    ⟨kiln { phase := npDUP_GRANTED, coefs := [0x3F800000] }, by decide +kernel⟩, ⟨kiln { phase := npGRANTED, coefs := [0x7F800000] }, by decide +kernel⟩,
    ⟨kiln { phase := npGRANTED, dup := true }, by decide +kernel⟩, ⟨kiln { phase := npREADY } readied, by decide +kernel⟩,
    ⟨kiln { phase := npREADY } readied, by decide +kernel⟩, mk dsRUNNING [], by decide +kernel⟩

/-- Node 4095 as a LOOP whose gate is in a state. -/
def loop (gate : Nat) (f : Dev → Dev := id) : State :=
  mk dsRUNNING [(Reg.NODE.STATUS 4095, gate * 256)] (fun d => f { d with kiln := { d.kiln with nodes := [(4095, { desc := 0x19 * 2 ^ 26 })] } })

theorem witness_KilnService :
    (∀ g ∈ [gtOPEN, gtCLOSED], ((loop g).met 0).writable (Reg.NODE.GATE_CMD 4095) = true ∧ isLoopOp ((loop g).dev.node 4095).op = true ∧
      (loop g).dev.nodeGate 4095 = g ∧ (loop g).dev.nodeCoefPending 4095 = false) ∧
    (∃ s : State, (s.met 0).writable (Reg.NODE.GATE_CMD 4095) = true ∧ isLoopOp (s.dev.node 4095).op = true ∧
      s.dev.nodeGate 4095 = gtOPEN ∧ s.dev.nodeCoefPending 4095 = true) ∧
    (∃ s : State, (s.met 0).writable (Reg.NODE.GATE_CMD 4095) = true ∧ isLoopOp (s.dev.node 4095).op = false) ∧
    (∃ s : State, (s.met 0).writable Reg.KILN.CHECK = true ∧ s.dev.get Reg.KILN.CHECK_STATE = 1) ∧
    (∃ s : State, (s.met 0).writable Reg.KILN.CHECK = true ∧ s.dev.get Reg.KILN.CHECK_STATE ≠ 1 ∧ (s.met 0).writable Reg.KILN.STAT_CLEAR = true ∧
      (s.met 0).writable Reg.TRACE.RESTART = true ∧ s.dev.kiln.halted = false) ∧
    (∃ s : State, s.dev.kiln.halted = true ∧ (∀ e ∈ s.dev.kiln.cores, e.2.leave = none)) ∧ (∃ s : State, s.dev.get Reg.STATS.WINDOW = s.dev.kiln.winFrames) :=
  ⟨by decide +kernel, ⟨loop gtOPEN (fun d => { d with shadow := [(Reg.NODE.K 4095 7, 1)] }), by decide +kernel⟩, ⟨mk dsRUNNING [], by decide +kernel⟩,
    ⟨mk dsRUNNING [(Reg.KILN.CHECK_STATE, 1)], by decide +kernel⟩, ⟨mk dsRUNNING [], by decide +kernel⟩,
    ⟨mk dsRUNNING [] (fun d => { d with kiln := { d.kiln with halted := true } }), by decide +kernel⟩,
    mk dsRUNNING [(Reg.STATS.WINDOW, 10)] (fun d => { d with kiln := { d.kiln with winFrames := 10 } }), by decide +kernel⟩

/-- PWM channel 5. -/
def pwm5 (x : PwmX) (regs : List (Nat × Nat) := []) (f : Dev → Dev := id) : State :=
  mk dsRUNNING ((Reg.PWM.ENABLE 5, 1) :: regs) (fun d => f (d.setPw 5 x))
def Plain (s : State) (code : Nat) : Prop := ∀ k ∈ [12, 13, 14, 15, 16, 17], s.dev.get (Reg.CV.START_SRC k) ≠ code ∧ s.dev.get (Reg.CV.URGENT_SRC k) ≠ code
/-- The hypotheses that the two forms of PWM_PERIOD_START share. -/
def Starting (s : State) : Prop :=
  s.dev.kiln.halted = false ∧ s.dev.pwmWanted = true ∧ s.dev.get (Reg.PWM.ENABLE 5) ≠ 0 ∧ Plain s 0x25 ∧ Plain s 0x2D ∧ (s.met 0).frameDue = false ∧
    field (s.dev.get (Reg.PWM.TRIP_MASK 5)) 0 6 &&& s.dev.pwm.trips = 0 ∧ s.dev.pwLatched 5 = false ∧
    s.dev.get (Reg.PWM.TRIP_COUNT 5) < s.dev.get (Reg.PWM.TRIP_LIMIT 5)

theorem witness_PwmChannels :
    (∃ s : State, Starting s ∧ (s.dev.pw 5).run = true ∧ (s.met 0).pwNext 5 ≤ s.ttAt 0) ∧
    (∃ s : State, Starting s ∧ (s.dev.pw 5).run = false ∧
      pwTick (s.met 0).tick (s.dev.get (Reg.PWM.PERIOD 5)) (s.dev.get (Reg.PWM.PHASE 5)) = (s.met 0).tick) ∧
    (∃ s : State, s.dev.kiln.halted = false ∧ s.dev.pwmWanted = true ∧ (s.dev.pw 5).run = true ∧ (s.met 0).pwNext 5 ≤ s.ttAt 0 ∧
      s.dev.get (Reg.PWM.ENABLE 5) = 0 ∧ Plain s 0x2D ∧ (s.met 0).frameDue = false) ∧
    (∃ s : State, (s.dev.pw 5).run = true ∧ (s.dev.pw 5).fresh = false ∧ s.dev.kiln.halted = false ∧ (s.dev.pw 5).fall = some (s.ttAt 0) ∧ Plain s 0x2D) ∧
    (∃ s : State, (s.dev.pw 5).run = true ∧ (s.dev.pw 5).fresh = false ∧ s.dev.kiln.halted = false ∧ (s.dev.pw 5).aDue = some (s.ttAt 0)) ∧
    (∃ s : State, (∀ o, o < 6 → (s.dev.pw o).run = true → s.ttAt 0 < (s.met 0).pwNext o) ∧ (s.met 0).frameDue = false ∧ s.dev.kiln.halted = false ∧ s.dev.pwmWanted = true ∧
      s.dev.live = true ∧ (s.dev.pw 5).run = true ∧ (s.dev.pw 5).mask.testBit 5 = true ∧ (s.dev.pw 5).tripped = false ∧
      (s.dev.pw 5).edgeSeen = false ∧ (s.dev.pw 5).cleared = none ∧ (∀ o, o < 6 → o ≠ 5 → (s.dev.pwMask o).testBit 5 = false) ∧ s.dev.pwLatched 5 = false ∧
      s.dev.get (Reg.PWM.TRIP_COUNT 5) = 254) ∧
    (∃ s : State, (s.met 0).writable (Reg.PWM.COMPARE 5) = true ∧ s.dev.get (Reg.PWM.DUTY_SRC 5) = 1 ∧ (s.dev.pw 5).run = false) ∧
    (∃ s : State, (s.met 0).writable (Reg.PWM.COMPARE 5) = true ∧ (s.dev.pw 5).src = 0 ∧ (s.dev.pw 5).run = true) ∧
    (∃ s : State, (s.dev.pw 5).transit = [(7, false)]) ∧ (∃ s : State, (s.dev.pw 5).transit = [(7, true), (8, false)]) ∧
    (∃ s : State, (s.met 0).writable (Reg.PWM.CLEAR 5) = true ∧ s.dev.tripHigh 5 = true) ∧
    (∃ s : State, (s.met 0).writable (Reg.PWM.CLEAR 5) = true ∧ s.dev.tripHigh 5 = false ∧ s.dev.pwm.edges = []) ∧
    (∃ s : State, (s.met 0).writable (Reg.PWM.CLEAR 5) = true ∧ ∃ k, k < 6 ∧ (s.dev.pwMask 5).testBit k = true ∧
      s.dev.pwm.edges.find k = some (s.met 0).tick) := by
  unfold Starting Plain
  exact ⟨⟨pwm5 { run := true, fin := 99000000000 }, by decide +kernel⟩, ⟨pwm5 {}, by decide +kernel⟩,
    ⟨pwm5 { run := true, fin := 99000000000 } [(Reg.PWM.ENABLE 5, 0)], by decide +kernel⟩,
    ⟨pwm5 { run := true, fresh := false, fall := some 100000000000 }, by decide +kernel⟩,
    ⟨pwm5 { run := true, fresh := false, aDue := some 100000000000 }, by decide +kernel⟩,
    ⟨pwm5 { run := true, fin := 100000000016, mask := 32 } [(Reg.PWM.TRIP_COUNT 5, 254)], by decide +kernel⟩,
    ⟨pwm5 {} [(Reg.PWM.DUTY_SRC 5, 1)], by decide +kernel⟩, ⟨pwm5 { run := true }, by decide +kernel⟩,
    ⟨pwm5 { transit := [(7, false)] }, by decide +kernel⟩, ⟨pwm5 { transit := [(7, true), (8, false)] }, by decide +kernel⟩,
    ⟨pwm5 { run := true, mask := 32 } [] (fun d => { d with pwm := { d.pwm with trips := 32 } }), by decide +kernel⟩, ⟨pwm5 {}, by decide +kernel⟩,
    pwm5 { run := true, mask := 32 } [] (fun d => { d with pwm := { d.pwm with edges := [(5, 100000000000)] } }), by decide +kernel⟩
/-- A HEARTBEAT of the partner in a device state. -/
def beat (ds : Byte := 7) (lease : Fin 3 := 0) (failed : Option (Fin 4) := none) (echo : BitVec 64 := 0) : Heartbeat :=
  { devState := ds, twinId := 1, fit := true, generation := 5, armBits := 32, lease := lease, failed := failed, launch := 99999990000
    echoLaunch := echo, echoArrival := echo }
/-- Twin operation on top of a device. -/
def twinned (ds : Nat) (x : TwinX := {}) (regs : List (Nat × Nat) := []) (f : Dev → Dev := id) : State :=
  mk ds ((Reg.TWIN.TWIN_EN, 1) :: regs) (fun d => f { d with twin := x })

/-- A device with one event of a source raised. -/
def eventOf (src at_ arm : Nat) (regs : List (Nat × Nat) := []) (ds : Nat := dsRUNNING) (f : DamperX → DamperX := id) : State :=
  mk ds regs (fun d => { d with damper := f { d.damper with raised := [{ src := src, at_ := at_, arm := arm, aux := 7 }] } })
/-- The hypotheses that the clauses on an event of DamperClassifiesAndReacts share. -/
def Logs (s : State) (f : Nat) : Prop :=
  s.dev.live = true ∧ (∃ r, s.dev.damper.raised = [r] ∧ r.src = f ∧ s.dev.eventAt f r.at_ = none) ∧ s.dev.damper.clears.find f = none ∧
    s.dev.damper.rateN < 2000 ∧ s.dev.get Reg.DAMP.LOG_INDEX < 8192 ∧ s.dev.acq.engineOpen = false
/-- The class that a first event of a source, on no arm of its own, is acted with. -/
def reacts (s : State) (f named : Nat) : Nat :=
  s.dev.acted (s.dev.get (if decide (s.dev.get (Reg.FSRC.COUNT_N f) ≤ 1) then Reg.FSRC.SEVERE_REACT f else Reg.FSRC.REACT f))
    (s.dev.armSetOf f named)

theorem witness_DamperClassifiesAndReacts :
    (∃ s : State, s.dev.damper.raised = []) ∧
    (∃ s : State, Logs s 190 ∧ s.dev.damper.winEnd.get 190 0 ≤ (s.met 0).now ∧ reacts s 190 0 = ALARM ∧ s.dev.get Reg.DAMP.LOG_INDEX = 8191 ∧
      s.dev.get Reg.DAMP.LOG_CLASS ≤ ALARM) ∧
    (∃ s : State, Logs s 190 ∧ reacts s 190 0 = LOG ∧ ALARM ≤ s.dev.get Reg.DAMP.LOG_CLASS) ∧
    (∃ s : State, Logs s 190 ∧ reacts s 190 0 = ARM_HOLD ∧ s.dev.armSetOf 190 0 = [5]) ∧
    (∃ s : State, Logs s 190 ∧ reacts s 190 0 = ARM_BLOCK ∧ s.dev.armSetOf 190 0 = [5]) ∧
    (∃ s : State, Logs s 190 ∧ reacts s 190 0 = CONVERTER_BLOCK ∧ s.dev.get (Reg.FSRC.CLASS 190) = 0xFF ∧ s.dev.ds = dsRUNNING) ∧
    (∃ s : State, Logs s 190 ∧ reacts s 190 0 = SAFE_REACTION) ∧
    (∃ s : State, Logs s 190 ∧ reacts s 190 0 = TAKEOVER_REQUEST) ∧
    (∃ s : State, s.dev.damper.winEnd.find 190 = some (s.met 0).now) ∧ (∃ s : State, s.dev.damper.winEnd.find 190 = some ((s.met 0).now + 1)) := by
  let sure (c : Nat) : List (Nat × Nat) := [(Reg.FSRC.REACT 190, c), (Reg.FSRC.SEVERE_REACT 190, c), (Reg.FSRC.ARM_MASK 190, 32)]
  have lg {s : State} {x : DamperX} {r : Raised} (h : s.dev.damper = { x with raised := [r] })
      (k : s.dev.live = true ∧ r.src = 190 ∧ s.dev.eventAt 190 r.at_ = none ∧ x.clears.find 190 = none ∧ x.rateN < 2000 ∧
        s.dev.get Reg.DAMP.LOG_INDEX < 8192 ∧ s.dev.acq.engineOpen = false) : Logs s 190 := by
    obtain ⟨k1, k2, k3, k4, k5, k6⟩ := k
    exact ⟨k1, ⟨r, by rw [h], k2, k3⟩, by rw [h]; exact k4, by rw [h]; exact k5, k6⟩
  exact ⟨⟨mk dsRUNNING [], rfl⟩,
    ⟨eventOf 190 199999999999 0xFF (sure 1 ++ [(Reg.DAMP.LOG_INDEX, 8191)]), lg rfl (by decide +kernel), by decide +kernel⟩,
    ⟨eventOf 190 199999999999 0xFF (sure 0 ++ [(Reg.DAMP.LOG_CLASS, 1)]), lg rfl (by decide +kernel), by decide +kernel⟩,
    ⟨eventOf 190 199999999999 0xFF (sure 2), lg rfl (by decide +kernel), by decide +kernel⟩,
    ⟨eventOf 190 199999999999 0xFF (sure 3), lg rfl (by decide +kernel), by decide +kernel⟩,
    ⟨eventOf 190 199999999999 0xFF (sure 4), lg rfl (by decide +kernel), by decide +kernel⟩,
    ⟨eventOf 190 199999999999 0xFF (sure 6), lg rfl (by decide +kernel), by decide +kernel⟩,
    ⟨twinned dsRUNNING { hb := some (beat, 199999990000, 99999990000) } (sure 5 ++ [(Reg.TWIN.PATHS, 3)]) (fun d => { d with
        damper := { d.damper with raised := [{ src := 190, at_ := 199999999999, arm := 0xFF, aux := 7 }] } }),
      lg rfl (by decide +kernel), by decide +kernel⟩,
    ⟨mk dsRUNNING [] (fun d => { d with damper := { d.damper with winEnd := [(190, 200000000000)] } }), by decide +kernel⟩,
    mk dsRUNNING [] (fun d => { d with damper := { d.damper with winEnd := [(190, 200000000001)] } }), by decide +kernel⟩

theorem witness_FaultForceAndClear :
    (∃ s : State, (s.met 0).writable (Reg.FSRC.FORCE 255) = true ∧ s.dev.get Reg.DAMP.FORCE_EN = 0) ∧
    (∃ s : State, (s.met 0).writable (Reg.FSRC.FORCE 255) = true ∧ s.dev.get Reg.DAMP.FORCE_EN ≠ 0) ∧
    (∃ s : State, (s.met 0).writable (Reg.FSRC.CLEAR 22) = true ∧ s.dev.srcLive 22 = true) ∧
    (∃ s : State, (s.met 0).writable (Reg.FSRC.CLEAR 255) = true ∧ s.dev.srcLive 255 = false ∧ (s.met 0).srcNow 255 = true) ∧
    (∃ s : State, (s.met 0).writable (Reg.FSRC.CLEAR 255) = true ∧ s.dev.srcLive 255 = false ∧ (s.met 0).srcNow 255 = false ∧
      s.dev.bit (Reg.FSRC.STATUS 255) ssPENDING = true ∧ s.dev.ds = dsREADY ∧ s.dev.readyOk = true) ∧
    (∃ s : State, (s.met 0).writable Reg.DAMP.CLEAR_ALL = true ∧ s.dev.bit (Reg.FSRC.STATUS 255) ssPENDING = true ∧ s.dev.ds ≠ dsREADY) :=
  ⟨⟨mk dsSAFE [], by decide +kernel⟩, ⟨mk dsSAFE [(Reg.DAMP.FORCE_EN, 1)], by decide +kernel⟩,
    ⟨mk dsSAFE [(Reg.MAINT.LEAVES, 4)], by decide +kernel⟩, ⟨eventOf 255 200000000000 0xFF, by decide +kernel⟩,
    ⟨mk dsREADY [(Reg.FSRC.STATUS 255, 1), (Reg.FSRC.CLASS 255, 1)], by decide +kernel⟩,
    mk dsSAFE [(Reg.FSRC.STATUS 255, 1)], by decide +kernel⟩

theorem witness_StallsAndMemoryErrors :
    (∃ s : State, s.dev.ds ∈ [dsRESET, dsKINDLING, dsBANKED]) ∧
    (∃ s : State, s.dev.live = true ∧ s.dev.maintSpares = s.dev ∧ s.dev.twinEn = false ∧ s.dev.laneArm 5 = some 5 ∧ s.dev.laneArm 6 = none ∧
      s.dev.acqState ∉ [acFILLING, acARMED]) ∧
    (∀ c ∈ [acFILLING, acARMED], (mk dsRUNNING [(Reg.ACQ.STATE, c)]).dev.live = true ∧ (mk dsRUNNING [(Reg.ACQ.STATE, c)]).dev.acqState = c) ∧
    (∃ s : State, s.dev.live = true ∧ 0 + 1 < s.dev.get Reg.MAINT.CE_LIMIT ∧ s.dev.maint.ce = [] ∧ 1023 ∉ s.dev.maint.mramCe) ∧
    (∃ s : State, s.dev.live = true ∧ s.dev.get Reg.MAINT.CE_LIMIT ≤ 0 + 1 ∧ s.dev.maint.ce = [] ∧ s.dev.bit Reg.MAINT.AUTO 2 = true ∧
      s.dev.get Reg.MAINT.SRAM_SPARE_ROWS = 0) ∧
    (∃ s : State, s.dev.live = true ∧ s.dev.get Reg.MAINT.CE_LIMIT ≤ 0 + 1 ∧ s.dev.maint.ce = [] ∧ s.dev.bit Reg.MAINT.AUTO 2 = true ∧
      s.dev.get Reg.MAINT.SRAM_SPARE_ROWS ≠ 0) ∧
    (∃ s : State, s.dev.live = true ∧ 1023 ∈ s.dev.maint.mramCe ∧ s.dev.bit Reg.MAINT.AUTO 3 = true ∧
      s.dev.get Reg.MAINT.MRAM_SPARE_BLOCKS ≠ 0) :=
  ⟨⟨mk dsBANKED [], by decide +kernel⟩, ⟨mk dsRUNNING [], by decide +kernel, rfl, by decide +kernel⟩, by decide +kernel,
    ⟨mk dsRUNNING [(Reg.MAINT.CE_LIMIT, 2)], by decide +kernel⟩,
    ⟨mk dsRUNNING [(Reg.MAINT.CE_LIMIT, 1), (Reg.MAINT.AUTO, 15), (Reg.MAINT.SRAM_SPARE_ROWS, 0)], by decide +kernel⟩,
    ⟨mk dsRUNNING [(Reg.MAINT.CE_LIMIT, 1), (Reg.MAINT.AUTO, 15), (Reg.MAINT.SRAM_SPARE_ROWS, 1)], by decide +kernel⟩,
    mk dsRUNNING [(Reg.MAINT.AUTO, 15), (Reg.MAINT.MRAM_SPARE_BLOCKS, 1)] (fun d => { d with maint := { proofBase := 0, mramCe := [1023] } }),
    by decide +kernel⟩

/-- Maintenance slots with (slot, code, instance, status). -/
def slots (ds : Nat) (l : List (Nat × Nat × Nat × Nat)) (regs : List (Nat × Nat) := []) (m : MaintX := { proofBase := 0 }) : State :=
  mk ds ((l.map (fun q => [(Reg.MSLOT.CODE q.1, q.2.1), (Reg.MSLOT.INSTANCE q.1, q.2.2.1), (Reg.MSLOT.STATUS q.1, q.2.2.2)])).flatten ++ regs)
    (fun d => { d with maint := m })
/-- The hypotheses on the order of judgement: the activity is known and the device state admits it; no running activity overlaps;
none of coverage runs. -/
def Known (s : State) (c i : Nat) : Prop := (maLast c).any (fun l => decide (i ≤ l)) = true ∧
  s.dev.ds ∈ (if 8 ≤ c then [dsREADY] else [dsCONFIGURED, dsLINKS_UP, dsADMITTED, dsREADY, dsRUNNING])
def Apart (s : State) (c i : Nat) : Prop := ∀ o, o < 4 → s.dev.maRunning o = true →
  (s.dev.maScope (s.dev.maCode o) (s.dev.maInst o)).all (fun r => !(s.dev.maScope c i).contains r) = true
def Covered (s : State) (c : Nat) : Prop := maCoverage c = true → ∀ o, o < 4 → s.dev.maRunning o = true → maCoverage (s.dev.maCode o) = false
/-- Slot 3 is free and its START writable; READY holds. -/
def Startable (s : State) (c i : Nat) : Prop := (s.met 0).writable (Reg.MSLOT.START 3) = true ∧ s.dev.maRunning 3 = false ∧
  (s.dev.ds = dsREADY → s.dev.readyOk = true) ∧ s.dev.maCode 3 = c ∧ s.dev.maInst 3 = i

theorem witness_MaintenanceStarts :
    (∃ s : State, (s.met 0).writable (Reg.MSLOT.START 3) = true ∧ s.dev.maRunning 3 = true) ∧
    (∃ s : State, Startable s 8 0 ∧ ¬Known s 8 0) ∧ (∃ s : State, Startable s 3 20480 ∧ ¬Known s 3 20480) ∧
    (∃ s : State, Startable s 1 17 ∧ Known s 1 17 ∧ ¬Apart s 1 17) ∧
    (∃ s : State, Startable s 3 20479 ∧ Known s 3 20479 ∧ Apart s 3 20479 ∧ ¬Covered s 3) ∧
    (∃ s : State, Startable s 3 20479 ∧ Known s 3 20479 ∧ Apart s 3 20479 ∧ Covered s 3 ∧ (s.met 0).maOwn 3 20479 ≠ 0) ∧
    (∃ s : State, Startable s 3 20479 ∧ Known s 3 20479 ∧ Apart s 3 20479 ∧ Covered s 3 ∧ (s.met 0).maOwn 3 20479 = 0) ∧
    (∃ s : State, Startable s 2 5 ∧ Known s 2 5 ∧ Apart s 2 5 ∧ Covered s 2 ∧ (s.met 0).maOwn 2 5 = 0) ∧
    (∃ s : State, Startable s 8 11 ∧ Known s 8 11 ∧ Apart s 8 11 ∧ Covered s 8 ∧ (s.met 0).maOwn 8 11 = 0) := by
  unfold Startable Known Apart Covered
  exact ⟨⟨slots dsRUNNING [(3, 1, 17, 1)], by decide +kernel⟩, ⟨slots dsRUNNING [(3, 8, 0, 0)], by decide +kernel⟩,
    ⟨slots dsRUNNING [(3, 3, 20480, 0)], by decide +kernel⟩, ⟨slots dsRUNNING [(3, 1, 17, 0), (0, 1, 17, 1)], by decide +kernel⟩,
    ⟨slots dsRUNNING [(3, 3, 20479, 0), (0, 6, 0, 1)], by decide +kernel⟩,
    ⟨slots dsRUNNING [(3, 3, 20479, 0)] [(Reg.MAINT.SRAM_SPARE_ROWS, 0)], by decide +kernel⟩,
    ⟨slots dsRUNNING [(3, 3, 20479, 0)], by decide +kernel⟩, ⟨slots dsRUNNING [(3, 2, 5, 0)], by decide +kernel⟩,
    slots dsREADY [(3, 8, 11, 0)], by decide +kernel⟩

/-- The engine wants one activity, and nothing periodic is due; its AUTO bit stands and its spares last. -/
def Wants (s : State) (w : WantX) : Prop := s.dev.live = true ∧ s.dev.maint.want = [w] ∧
  (s.met 0).now < s.dev.maint.calAt + s.dev.get Reg.MAINT.CAL_INTERVAL * 10000000000 ∧
  (s.met 0).now < s.dev.maint.adcAt + s.dev.get Reg.MAINT.ADC_CAL_INTERVAL * 10000000000 ∧ (s.met 0).now < s.dev.maint.wearAt + 10000000000
def Wanted (s : State) (w : WantX) : Prop :=
  Wants s w ∧ s.dev.bit Reg.MAINT.AUTO (w.code - 1) = true ∧ s.dev.maSpent w.code = false

theorem witness_MaintenanceActivities :
    (∃ s : State, (s.met 0).writable (Reg.MSLOT.ABORT 3) = true ∧ s.dev.maRunning 3 = false) ∧
    (∀ c ∈ [3, 4, 5, 7, 8, 9, 10, 11], ((slots dsRUNNING [(3, c, 0, 1)]).met 0).writable (Reg.MSLOT.ABORT 3) = true ∧
      (slots dsRUNNING [(3, c, 0, 1)]).dev.maRunning 3 = true ∧ (slots dsRUNNING [(3, c, 0, 1)]).dev.live = true ∧
      (slots dsRUNNING [(3, c, 0, 1)]).dev.maCode 3 = c) ∧
    (∃ s : State, s.dev.maRunning 3 = true ∧ s.dev.live = true ∧ s.dev.maCode 3 = maCORE_TEST ∧ s.dev.maInst 3 = 17) ∧
    (∃ s : State, s.dev.live = true ∧ (s.met 0).now < s.dev.maint.calAt + s.dev.get Reg.MAINT.CAL_INTERVAL * 10000000000 ∧
      (s.met 0).now < s.dev.maint.adcAt + s.dev.get Reg.MAINT.ADC_CAL_INTERVAL * 10000000000 ∧
      (s.met 0).now < s.dev.maint.wearAt + 10000000000 ∧ s.dev.maint.want = []) ∧
    (∃ (s : State) (w : WantX), Wants s w ∧ s.dev.bit Reg.MAINT.AUTO (w.code - 1) = false) ∧
    (∃ (s : State) (w : WantX), Wants s w ∧ s.dev.bit Reg.MAINT.AUTO (w.code - 1) = true ∧ s.dev.maSpent w.code = true) ∧
    (∃ (s : State) (w : WantX), Wanted s w ∧ w.at_ = (s.met 0).now) ∧
    (∃ (s : State) (w : WantX), Wanted s w ∧ w.at_ + 1 = (s.met 0).now ∧ s.dev.maFree = none) ∧
    (∃ (s : State) (w : WantX), Wanted s w ∧ w.at_ < (s.met 0).now ∧ s.dev.maFree = some 3 ∧ ¬Known s w.code w.inst) ∧
    (∃ (s : State) (w : WantX), Wanted s w ∧ w.at_ < (s.met 0).now ∧ s.dev.maFree = some 3 ∧ Known s w.code w.inst ∧
      Apart s w.code w.inst ∧ Covered s w.code ∧ (s.met 0).maOwn w.code w.inst = 0) ∧
    (∃ s : State, s.dev.live = true ∧ s.dev.get Reg.MAINT.PROOF_INTERVAL < (s.met 0).proofAge ∧ s.dev.bit Reg.MAINT.LEAVES 4 = false) ∧
    (∃ s : State, s.dev.live = true ∧ (s.met 0).proofAge = s.dev.get Reg.MAINT.PROOF_INTERVAL) := by
  let quiet : List (Nat × Nat) := [(Reg.MAINT.CAL_INTERVAL, 60), (Reg.MAINT.ADC_CAL_INTERVAL, 60), (Reg.MAINT.AUTO, 127)]
  let x : MaintX := { proofBase := 0, wearAt := 200000000000 }
  let busy : List (Nat × Nat × Nat × Nat) := [(0, 1, 0, 1), (1, 5, 0, 1), (2, 4, 0, 1)]
  let repair (at_ : Nat) : MaintX := { x with want := [⟨3, 20479, at_⟩] }
  unfold Wanted Wants Known Apart Covered
  exact ⟨⟨slots dsRUNNING [], by decide +kernel⟩, by decide +kernel, ⟨slots dsRUNNING [(3, maCORE_TEST, 17, 1)], by decide +kernel⟩,
    ⟨slots dsRUNNING [] quiet x, by decide +kernel⟩,
    ⟨slots dsRUNNING [] (quiet ++ [(Reg.MAINT.AUTO, 3)]) (repair 0), ⟨3, 20479, 0⟩, by decide +kernel⟩,
    ⟨slots dsRUNNING [] (quiet ++ [(Reg.MAINT.SRAM_SPARE_ROWS, 0)]) (repair 0), ⟨3, 20479, 0⟩, by decide +kernel⟩,
    ⟨slots dsRUNNING [] quiet (repair 200000000000), ⟨3, 20479, 200000000000⟩, by decide +kernel⟩,
    ⟨slots dsRUNNING (busy ++ [(3, 7, 0, 1)]) quiet { x with want := [⟨1, 17, 199999999999⟩] }, ⟨1, 17, 199999999999⟩, by decide +kernel⟩,
    ⟨slots dsSAFE busy quiet (repair 0), ⟨3, 20479, 0⟩, by decide +kernel⟩,
    ⟨slots dsRUNNING busy quiet (repair 199999999999), ⟨3, 20479, 199999999999⟩, by decide +kernel⟩,
    ⟨mk dsRUNNING [(Reg.MAINT.PROOF_INTERVAL, 99)] (fun d => { d with maint := { proofBase := 100 } }), by decide +kernel⟩,
    mk dsRUNNING [(Reg.MAINT.PROOF_INTERVAL, 100)] (fun d => { d with maint := { proofBase := 100 } }), by decide +kernel⟩
/-- An ember of the plainest kind, and one that ends a swap. -/
def plainEmber : Config.Ember :=
  { e := 7, be := 99999000000, serial := 1, generation := 5, devState := 6, arms := List.replicate 6 (3, 128), sinks := [], rgs := []
    laneMap := 0, failedLanes := 0, profiles := [], modeArms := 0, servoState := 0, integ := 0, rate := 0, offset := 0, epoch := 0
    cells := [], nodes := [], config := [], incomplete := false, swap := false }
def swapEmber : Config.Ember := { plainEmber with swap := true }

theorem witness_HeartbeatsAndPaths :
    (∃ s : State, s.dev.hbRuns = false ∧ (List.replicate 384 (0 : Byte)).length = 384) ∧
    (∃ s : State, s.dev.hbRuns = true ∧ (s.met 0).hbDue = false) ∧
    (∃ s : State, s.dev.hbRuns = true ∧ (s.met 0).hbDue = true ∧ s.dev.twin.stream = none ∧ s.dev.ds ≠ dsBANKED ∧
      s.dev.twin.sentAt = some 199999990000 ∧ s.dev.twin.hb = some (beat, 199999990000, 99999990000)) ∧
    (∃ s : State, s.dev.hbRuns = true ∧ (s.met 0).hbDue = true ∧ s.dev.twin.stream = some plainEmber ∧ s.dev.active = true ∧ s.dev.twin.streamOff = 511) ∧
    (∃ s : State, s.dev.hbRuns = true ∧ (s.met 0).hbDue = true ∧ s.dev.twin.stream = none ∧ s.dev.ds = dsBANKED ∧ s.dev.twin.statusAt + 1000000 = (s.met 0).now) ∧
    (∃ s : State, s.dev.hbRuns = true ∧ s.dev.ds ≠ dsBANKED ∧ s.dev.get Reg.TWIN.LEASE = 1 ∧ (beat 7 1 none 1).lease.val = 1 ∧
      (beat 7 1 none 1).echoLaunch ≠ 0) ∧
    (∃ s : State, s.dev.hbRuns = true ∧ s.dev.get Reg.TWIN.LEASE ≠ 1 ∧ s.dev.active = true ∧ (beat 7 2).lease.val = 2) ∧
    (∃ s : State, s.dev.judges = false) ∧
    (∃ s : State, s.dev.judges = true ∧ s.dev.active = true ∧ s.dev.twin.hbAt = none ∧
      max s.dev.twin.judgeFrom 0 + s.dev.get Reg.TWIN.T_HB * 10000 = (s.met 0).now) ∧
    (∃ s : State, s.dev.judges = true ∧ s.dev.ds = dsBANKED ∧ s.dev.linkBad = true ∧ s.dev.hbBad = true ∧ s.dev.twin.hbAt = none ∧
      s.dev.twin.hb = none ∧ max s.dev.twin.judgeFrom 0 + s.dev.get Reg.TWIN.T_HB * 10000 = (s.met 0).now) :=
  ⟨⟨mk dsRUNNING [], by decide +kernel⟩, ⟨twinned dsRUNNING { sentAt := some 199999990001 }, by decide +kernel⟩,
    ⟨twinned dsRUNNING { sentAt := some 199999990000, hb := some (beat, 199999990000, 99999990000) }, by decide +kernel⟩,
    ⟨twinned dsRUNNING { stream := some plainEmber, streamOff := 511 }, by decide +kernel⟩,
    ⟨twinned dsBANKED { statusAt := 199999000000 }, by decide +kernel⟩, ⟨twinned dsRUNNING {} [(Reg.TWIN.LEASE, 1)], by decide +kernel⟩,
    ⟨twinned dsRUNNING, by decide +kernel⟩, ⟨mk dsRUNNING [], by decide +kernel⟩,
    ⟨twinned dsRUNNING { judgeFrom := 199999000000 } [(Reg.TWIN.T_HB, 100)], by decide +kernel⟩,
    twinned dsBANKED { judgeFrom := 199999000000, linkLost := true, hbLost := true } [(Reg.TWIN.T_HB, 100)], by decide +kernel⟩

theorem witness_LeaseIdentityAndInterlock :
    (∃ s : State, s.dev.twinEn = true ∧ s.dev.active = true ∧ s.dev.get Reg.TWIN.LEASE ≠ 1 ∧ s.dev.partnerReleased = true) ∧
    (∃ s : State, s.dev.twinEn = true ∧ s.dev.active = true ∧ s.dev.get Reg.TWIN.LEASE ≠ 1 ∧ s.dev.partnerReleased = false ∧
      (s.met 0).leaseFreeAt = (s.met 0).now) ∧
    (∃ s : State, s.dev.twinEn = true ∧ s.dev.active = true ∧ s.dev.get Reg.TWIN.LEASE ≠ 1 ∧ s.dev.partnerReleased = false ∧
      (s.met 0).now < (s.met 0).leaseFreeAt) ∧
    (∃ s : State, s.dev.twinEn = false) ∧
    (∃ s : State, 0 < s.dev.twin.annLeft ∧ s.dev.get Reg.TWIN.LEASE = 1 ∧
      s.dev.twin.annAt + (3 - s.dev.twin.annLeft) * 500000000 = (s.met 0).now ∧ s.dev.netLive 1 = true ∧ s.dev.get Reg.CONVIP.V4_EN ≠ 0) ∧
    (∃ s : State, s.dev.twin.annLeft = 0) ∧
    (∃ s : State, s.dev.twinEn = true ∧ s.dev.live = true ∧ s.dev.active = true ∧ s.dev.bit Reg.TWIN.LEAVES 10 = false ∧ s.dev.ds = dsRUNNING) ∧
    (∀ ds ∈ [dsLINKS_UP, dsADMITTED, dsREADY], ∃ s : State, s.dev.twinEn = true ∧ s.dev.twin.yielded = false ∧ s.dev.twinId = 1 ∧
      s.dev.sameTwinId = false ∧ s.dev.ds = ds) ∧
    (∃ s : State, s.dev.twinEn = true ∧ s.dev.ds = dsTAKEOVER ∧ s.dev.twin.released = false ∧ s.dev.twin.yielded = false ∧
      s.dev.twin.stalled = false) ∧
    (∃ s : State, s.dev.ds ≠ dsTAKEOVER ∧ s.dev.twin.actIn = true) := by
  refine ⟨⟨twinned dsRUNNING { hb := some (beat 7 2, 199999990000, 99999990000) }, by decide +kernel⟩,
    ⟨twinned dsRUNNING { holdAt := some 190000000000 } [(Reg.TWIN.LEASE_TIME, 600), (Reg.TWIN.LEASE_MARGIN, 400)], by decide +kernel⟩,
    ⟨twinned dsRUNNING { holdAt := some 190000000000 } [(Reg.TWIN.LEASE_TIME, 600), (Reg.TWIN.LEASE_MARGIN, 401)], by decide +kernel⟩,
    ⟨mk dsRUNNING [], by decide +kernel⟩,
    ⟨twinned dsRUNNING { annLeft := 1, annAt := 199000000000 } [(Reg.TWIN.LEASE, 1), (Reg.CONVIP.V4_EN, 1), (Reg.NETP.LINK 1, 1)], by decide +kernel⟩,
    ⟨mk dsRUNNING [], by decide +kernel⟩, ⟨twinned dsRUNNING, by decide +kernel⟩, fun ds h => ⟨twinned ds {} [(Reg.KINDLE.STRAPS, 4)], ?_⟩,
    ⟨twinned dsTAKEOVER, by decide +kernel⟩, twinned dsRUNNING { actIn := true }, by decide +kernel⟩
  revert ds
  decide +kernel

theorem witness_EmbersAndSlowCopy :
    (∃ s : State, s.Inv ∧ s.dev.hbRuns = true ∧ s.dev.ds ≠ dsBANKED ∧ (List.replicate 384 (0 : Byte)).length = 384 ∧
      (s.dev.twin.slots.get 1 {}).e = (7 : BitVec 64).toNat ∧ setBit (s.dev.twin.slots.get 1 {}).got (511 : Fin 512).val = 2 ^ 512 - 1) ∧
    (∃ s : State, s.Inv ∧ s.dev.hbRuns = true ∧ s.dev.ds ≠ dsBANKED ∧ setBit (s.dev.twin.slots.get 1 {}).got (511 : Fin 512).val ≠ 2 ^ 512 - 1) ∧
    (∃ s : State, s.dev.twin.stream = none) ∧ (∃ s : State, s.dev.twin.stream = some plainEmber ∧ s.dev.twin.streamOff = 511) ∧
    (∃ s : State, s.dev.twin.stream = some plainEmber ∧ s.dev.twin.streamOff = 512 ∧ ¬(plainEmber.swap = true ∧ s.dev.twin.swap = 2)) ∧
    (∃ s : State, s.dev.twin.stream = some swapEmber ∧ s.dev.twin.streamOff = 512 ∧ swapEmber.swap = true ∧ s.dev.twin.swap = 2 ∧
      s.dev.ds = dsRUNNING) ∧
    (∃ s : State, s.Inv ∧ s.dev.twin.newest = some 1 ∧ s.dev.ds = dsBANKED ∧
      s.dev.twin.slowAt.getD s.dev.twin.judgeFrom + s.dev.get Reg.TWIN.SLOW_PERIOD * 10000000000 = (s.met 0).now) :=
  ⟨⟨twinned dsRUNNING { slots := [(1, { e := 7, got := 2 ^ 511 - 1 })] }, ⟨by decide +kernel, rfl⟩, by decide +kernel⟩,
    ⟨twinned dsRUNNING, ⟨by decide +kernel, rfl⟩, by decide +kernel⟩, ⟨mk dsRUNNING [], by decide +kernel⟩,
    ⟨twinned dsRUNNING { stream := some plainEmber, streamOff := 511 }, by decide +kernel⟩,
    ⟨twinned dsRUNNING { stream := some plainEmber, streamOff := 512 }, by decide +kernel⟩,
    ⟨twinned dsRUNNING { stream := some swapEmber, streamOff := 512, swap := 2 }, by decide +kernel⟩,
    twinned dsBANKED { newest := some 1, slowAt := some 190000000000 } [(Reg.TWIN.SLOW_PERIOD, 1)], ⟨by decide +kernel, rfl⟩, by decide +kernel⟩

/-- A takeover released, so far gone. -/
def taking (k : TakeX) : State := twinned dsTAKEOVER { released := true, take := k }

theorem witness_TakeoverWakesLoadsAndResumes :
    (∃ s : State, ¬(s.dev.ds = dsTAKEOVER)) ∧
    (∃ s : State, s.dev.ds = dsTAKEOVER ∧ s.dev.twin.released = true ∧ s.dev.twin.take.awake = false) ∧
    (∃ s : State, s.dev.ds = dsTAKEOVER ∧ s.dev.twin.take.awake = true ∧ s.dev.twin.take.loaded = false) ∧
    (∃ s : State, s.dev.ds = dsTAKEOVER ∧ s.dev.twin.take.loaded = true ∧ s.dev.frame.run = false ∧ s.dev.twin.take.ember = none) ∧
    (∃ s : State, s.dev.ds = dsTAKEOVER ∧ s.dev.twin.take.loaded = true ∧ s.dev.frame.run = false ∧ s.dev.twin.take.ember = some plainEmber) :=
  ⟨⟨mk dsRUNNING [], by decide +kernel⟩, ⟨taking {}, by decide +kernel⟩, ⟨taking { awake := true }, by decide +kernel⟩,
    ⟨taking { awake := true, loaded := true }, by decide +kernel⟩, taking { awake := true, loaded := true, ember := some plainEmber }, by decide +kernel⟩

/-- A record engine in a state; stream 15 on KIND 1, object 0, with the given other settings. -/
def recording (st : Nat) (regs : List (Nat × Nat) := []) (x : AcqX := {}) : State :=
  mk dsRUNNING ([(Reg.ACQ.STATE, st), (Reg.ACQ.SEGMENTS, 1)] ++ regs) (fun d => { d with acq := x })
def streams (l : List Nat) : List (Nat × Nat) := l.map (fun n => (Reg.STRM.KIND n, 1))
/-- 84 cells with a turf serial, in 15 streams of KIND 3: 4,047,750,000 bytes a second. -/
def fastHead : List (Nat × Nat) := [(Reg.DEV.STATE, dsRUNNING), (Reg.ACQ.STATE, acIDLE)] ++
  ((List.range 15).map (fun n => [(Reg.STRM.KIND n, 3), (Reg.STRM.COUNT n, 84)])).flatten
def fast : State := { dev := { mk dsRUNNING [] |>.dev with
  regs := fastHead ++ (List.range 84).map (fun n => (Reg.TURF.SERIAL n, 1)) } }

theorem find_of_low (p l : List (Nat × Nat)) (k : Nat) (h : p.all (fun e => decide (e.1 < k)) = true) : Tab.find (p ++ l) k = Tab.find l k := by
  induction p with
  | nil => rfl
  | cons e p ih => simp [Tab.find] at h ⊢; simp [Nat.ne_of_gt h.1, ih (by simpa using h.2)]
theorem find_const (l : List Nat) (j : Nat) (h : j ∈ l) : Tab.find (l.map (fun n => (Reg.TURF.SERIAL n, 1))) (Reg.TURF.SERIAL j) = some 1 := by
  induction l with
  | nil => cases h
  | cons n l ih =>
    simp only [List.map, Tab.find]
    split
    · rfl
    · rename_i g
      rcases List.mem_cons.1 h with rfl | h
      · simp at g
      · exact ih h
theorem fast_serial (j : Nat) (h : j < 84) : fast.dev.get (Reg.TURF.SERIAL j) = 1 := by
  have l : Reg.TURF.SERIAL 0 ≤ Reg.TURF.SERIAL j := by simp only [Reg.TURF.SERIAL]; omega
  have p : fastHead.all (fun e => decide (e.1 < Reg.TURF.SERIAL j)) = true := by
    have q : fastHead.all (fun e => decide (e.1 < Reg.TURF.SERIAL 0)) = true := by decide +kernel
    simp only [List.all_eq_true, decide_eq_true_eq] at q ⊢
    exact fun e m => Nat.lt_of_lt_of_le (q e m) l
  simp only [Dev.get, fast, find_of_low _ _ _ p, find_const _ j (List.mem_range.2 h), Option.getD_some]
theorem fast_rate : (4000000000 : Rat) < fast.dev.acqRate := by
  have slots : ∀ n ∈ List.range 15, fast.dev.strmRate n = 269850000 := by
    intro n h
    have g : ∀ n ∈ List.range 15, fast.dev.get (Reg.STRM.KIND n) = 3 ∧ fast.dev.get (Reg.STRM.COUNT n) = 84 ∧
        fast.dev.get (Reg.STRM.SOURCE n) = 0 := by decide +kernel
    obtain ⟨g1, g2, g3⟩ := g n h
    have g4 : (fast.dev.strmSlots n).length = 84 := by
      simp only [Dev.strmSlots, g2, g3]
      rw [List.filter_eq_self.2 (by simp; intro a ha; simp [fast_serial a ha])]
      simp
    simp only [Dev.strmRate, Dev.strmSize, Dev.strmBasis, g1, g4]
    decide +kernel
  have on : fast.dev.strmOn = List.range 15 := by decide +kernel
  rw [Dev.acqRate, on]
  have sums : ∀ (l : List Nat) (r : Rat), (∀ n ∈ l, fast.dev.strmRate n = 269850000) →
      l.foldl (fun r s => r + fast.dev.strmRate s) r = l.foldl (fun r _ => r + 269850000) r := by
    intro l
    induction l with
    | nil => intro r _; rfl
    | cons n l ih => intro r h; simp only [List.foldl, h n (List.mem_cons_self ..)]; exact ih _ (fun m k => h m (List.mem_cons_of_mem _ k))
  rw [sums _ _ slots]
  decide +kernel

/-- What the clauses on ACQ_ARM share: the order of judgement. -/
def MayArm (s : State) (fast big bare : Bool) : Prop := (s.met 0).writable Reg.ACQ.ARM = true ∧
  s.dev.ds ∈ [dsCONFIGURED, dsLINKS_UP, dsADMITTED, dsREADY, dsRUNNING] ∧ s.dev.acqBusy = false ∧
  decide ((4000000000 : Rat) < s.dev.acqRate) = fast ∧ decide (Mem.acqSize < s.dev.acqNeed * s.dev.get Reg.ACQ.SEGMENTS) = big ∧
  (List.range 16).all (fun n => s.dev.get (Reg.STRM.KIND n) == 0) = bare

theorem witness_AcquisitionRecords :
    (∃ s : State, (s.met 0).writable Reg.ACQ.ARM = true ∧ s.dev.acqBusy = true) ∧
    (∃ s : State, (s.met 0).writable Reg.ACQ.ARM = true ∧
      s.dev.ds ∈ [dsCONFIGURED, dsLINKS_UP, dsADMITTED, dsREADY, dsRUNNING] ∧ s.dev.acqBusy = false ∧ (4000000000 : Rat) < s.dev.acqRate) ∧
    (∃ s, MayArm s false true false) ∧ (∃ s, MayArm s false false true) ∧
    (∃ s, MayArm s false false false ∧ s.dev.segFree = none) ∧ (∃ s, MayArm s false false false ∧ s.dev.segFree = some 15) ∧
    (∃ s : State, s.dev.acqState = acFILLING ∧ s.dev.acq.armTt + s.dev.acq.preTime = (s.met 0).tt) ∧
    (∃ s : State, s.dev.acqState = acFILLING ∧ (s.met 0).tt + 1 = s.dev.acq.armTt + s.dev.acq.preTime) ∧
    (∃ s : State, s.Inv ∧ s.dev.get Reg.ACQ.SEGMENT = 15 ∧ s.dev.acqState = acPOST ∧ s.dev.acq.trig = some (99999999500, 99999999, 4) ∧
      99999999 * 1000 + s.dev.acq.postTime = (s.met 0).tt ∧ s.dev.get Reg.ACQ.AUTO_REARM = 0 ∧ (s.met 0).writable Reg.ACQ.ABORT = true) ∧
    (∃ s : State, s.Inv ∧ s.dev.get Reg.ACQ.SEGMENT = 15 ∧ s.dev.acqState = acPOST ∧ s.dev.acq.trig = some (99999999500, 99999999, 4) ∧
      (s.met 0).tt + 1 = 99999999 * 1000 + s.dev.acq.postTime ∧ (s.met 0).tt < s.dev.acqEnd ∧ (s.met 0).writable Reg.ACQ.ABORT = true) ∧
    (∀ c ∈ [acFILLING, acARMED], ∃ s : State, (s.met 0).writable Reg.ACQ.ABORT = true ∧ s.dev.get Reg.ACQ.SEGMENT < 16 ∧ s.dev.acqState = c) ∧
    (∃ s : State, (s.met 0).writable Reg.ACQ.ABORT = true ∧ s.dev.get Reg.ACQ.SEGMENT < 16 ∧ s.dev.acqBusy = false) ∧
    (∀ v ∈ [0, 1, 2, 3], ∃ s : State, (s.met 0).writable (Reg.SEG.RELEASE 15) = true ∧ (15 : Fin 16).val < s.dev.get Reg.ACQ.SEGMENTS ∧
      s.dev.get (Reg.SEG.STATE 15) = v) := by
  let ended : AcqX := { trig := some (99999999500, 99999999, 4), postTime := 1000 }
  unfold MayArm
  refine ⟨⟨recording acARMED, by decide +kernel⟩,
    ⟨fast, by decide +kernel, by decide +kernel, by decide +kernel, fast_rate⟩,
    ⟨recording acIDLE (streams [15] ++ [(Reg.ACQ.PRE_TIME, 4000000000)]), by decide +kernel⟩, ⟨recording acIDLE, by decide +kernel⟩,
    ⟨recording acIDLE (streams [15] ++ [(Reg.SEG.STATE 0, 2)]), by decide +kernel⟩,
    ⟨recording acIDLE (streams [15] ++ (Reg.ACQ.SEGMENTS, 16) :: (List.range 15).map (fun n => (Reg.SEG.STATE n, 2))), by decide +kernel⟩,
    ⟨recording acFILLING [] { armTt := 99999990000, preTime := 10000 }, by decide +kernel⟩,
    ⟨recording acFILLING [] { armTt := 99999990000, preTime := 10001 }, by decide +kernel⟩,
    ⟨recording acPOST [(Reg.ACQ.SEGMENT, 15)] ended, ⟨by decide +kernel, rfl⟩, by decide +kernel⟩,
    ⟨recording acPOST [(Reg.ACQ.SEGMENT, 15)] { ended with postTime := 1001 }, ⟨by decide +kernel, rfl⟩, by decide +kernel⟩,
    fun c h => ⟨recording c [(Reg.ACQ.SEGMENT, 15)], ?_⟩, ⟨recording acIDLE [(Reg.ACQ.SEGMENT, 15)], by decide +kernel⟩,
    fun v h => ⟨recording acIDLE [(Reg.ACQ.SEGMENTS, 16), (Reg.SEG.STATE 15, v)], ?_⟩⟩
  · revert c; decide +kernel
  · revert v; decide +kernel

theorem witness_TriggersAshAndSnapshots :
    (∃ s : State, s.dev.live = true ∧ true ≠ s.dev.bit Reg.TRIG.TRIG_IN_EDGE 1 ∧ s.dev.acq.engineOpen = true ∧
      s.dev.bit Reg.TRIG.ENABLE 1 = true ∧ s.dev.acq.openTt = (s.met 0).tick) ∧
    (∃ s : State, s.dev.live = true ∧ true ≠ s.dev.bit Reg.TRIG.TRIG_IN_EDGE 1 ∧ s.dev.acq.engineOpen = false) ∧
    (∃ s : State, s.dev.live = true ∧ (s.met 0).xDriving = false ∧ s.dev.acq.xBlocked = true ∧ s.dev.acq.xHighAt + 10000 = (s.met 0).now ∧
      s.dev.acq.engineOpen = true ∧ s.dev.bit Reg.TRIG.ENABLE 2 = true ∧ s.dev.acq.openTt ≤ (s.met 0).tick) ∧
    (∃ s : State, s.dev.live = true ∧ (s.met 0).xDriving = true) ∧
    (∃ s : State, s.dev.live = true ∧ (s.met 0).xDriving = false ∧ s.dev.bit Reg.ACQ.LEAVES 3 = false ∧ ∃ t, s.dev.acq.xLowAt = some t ∧
      t + s.dev.get Reg.TRIG.XTRIG_STUCK * 10000 + 1 = (s.met 0).now) ∧
    (∃ s : State, s.dev.live = true ∧ (s.met 0).xDriving = false ∧ ∃ t, s.dev.acq.xLowAt = some t ∧
      t + s.dev.get Reg.TRIG.XTRIG_STUCK * 10000 = (s.met 0).now) ∧
    (∃ s : State, (s.met 0).writable Reg.TRIG.FORCE = true ∧ s.dev.acq.engineOpen = false) ∧
    (∃ s : State, (s.met 0).writable Reg.TRIG.FORCE = true ∧ s.dev.acq.engineOpen = true ∧ s.dev.bit Reg.TRIG.ENABLE 9 = true ∧
      s.dev.acq.openTt = (s.met 0).tt) ∧
    (∃ s : State, s.dev.acq.conds = []) ∧
    (∃ s : State, s.dev.acq.engineOpen = true ∧ s.dev.acq.conds = [(9, 99999999999), (2, 99999999000)] ∧ siOf 99999999999 = 99999999 ∧
      siOf 99999999000 = 99999999 ∧ (99999999 + 1) * 1000 = (s.met 0).tt ∧ s.dev.acqState = acFILLING ∧ s.dev.bit Reg.TRIG.TRIG_OUT 1 = true ∧
      s.dev.time.trig.find 1 = none ∧ s.dev.on Reg.TRIG.XTRIG_DRIVE = true ∧ s.dev.ashRunning = true ∧ s.dev.on Reg.ASH.STOP_TRIG = true ∧
      s.dev.acq.ashTrig = none) ∧
    (∃ s : State, s.dev.acq.engineOpen = true ∧ s.dev.acq.conds = [(9, 100000000000)] ∧ (s.met 0).tt < (siOf 100000000000 + 1) * 1000) ∧
    (∃ s : State, (s.met 0).writable Reg.ASH.ASH_ARM = true ∧ (s.met 0).writable Reg.ASH.ASH_STOP = true ∧ s.dev.ashRunning = true ∧
      s.dev.acq.ashPost = some 0) ∧
    (∃ s : State, s.Inv ∧ (s.met 0).writable Reg.ASH.ASH_ARM = true ∧ (s.met 0).writable Reg.ASH.ASH_STOP = true ∧ s.dev.ashRunning = false ∧
      (s.met 0).writable Reg.EC.SNAP = true) :=
  ⟨⟨recording acARMED [(Reg.TRIG.ENABLE, 2)] { engineOpen := true, openTt := 100000000000 }, by decide +kernel⟩,
    ⟨recording acIDLE [(Reg.TRIG.ENABLE, 2)], by decide +kernel⟩,
    ⟨recording acARMED [(Reg.TRIG.ENABLE, 4)] { engineOpen := true, xBlocked := true, xHighAt := 199999990000 }, by decide +kernel⟩,
    ⟨recording acARMED [] { xDrive := some 100000000001 }, by decide +kernel⟩,
    ⟨recording acIDLE [(Reg.TRIG.XTRIG_STUCK, 10)] { xLowAt := some 199999899999 }, by decide +kernel, by decide +kernel, by decide +kernel, 199999899999,
      by decide +kernel⟩,
    ⟨recording acIDLE [(Reg.TRIG.XTRIG_STUCK, 10)] { xLowAt := some 199999900000 }, by decide +kernel, by decide +kernel, 199999900000, by decide +kernel⟩,
    ⟨recording acIDLE, by decide +kernel⟩, ⟨recording acARMED [(Reg.TRIG.ENABLE, 512)] { engineOpen := true, openTt := 100000000000 }, by decide +kernel⟩,
    ⟨recording acIDLE, by decide +kernel⟩,
    ⟨recording acFILLING [(Reg.TRIG.TRIG_OUT, 2), (Reg.TRIG.XTRIG_DRIVE, 1), (Reg.ASH.ASH_STATE, 1), (Reg.ASH.STOP_TRIG, 1)]
      { engineOpen := true, conds := [(9, 99999999999), (2, 99999999000)] }, by decide +kernel⟩,
    ⟨recording acARMED [] { engineOpen := true, conds := [(9, 100000000000)] }, by decide +kernel⟩,
    ⟨recording acIDLE [(Reg.ASH.ASH_STATE, 1)] { ashPost := some 0 }, by decide +kernel⟩,
    recording acIDLE, ⟨by decide +kernel, rfl⟩, by decide +kernel⟩

/-! Further clauses: for the clauses that the witnesses above leave out, states and operands that meet their hypotheses. -/

/-- A kindling device whose service image needs no spare decision. -/
def kindling (phase straps : Nat) (f : Kindle → Kindle := id) : State :=
  mk dsKINDLING [(Reg.KINDLE.PHASE, phase), (Reg.KINDLE.STRAPS, straps), (Reg.IDENT.REVISION, 5)]
    (fun d => { d with kindle := f d.kindle })

theorem witness_KindlingPhases_clauses :
    (∃ s : State, s.dev.ds = dsKINDLING ∧ s.dev.get Reg.KINDLE.PHASE = 4 ∧ s.dev.safeDefault = true) ∧
    (∀ src ∈ [2, 3], ∃ s : State, s.dev.ds = dsKINDLING ∧ s.dev.get Reg.KINDLE.PHASE = 4 ∧ s.dev.safeDefault = false ∧ s.dev.bootSrc = src) :=
  ⟨⟨kindling 4 8, by decide +kernel⟩,
    fun src h => ⟨kindling 4 src, by revert src; decide +kernel⟩⟩

theorem witness_KindlingFailures_clauses : ∃ (s : State) (fail : BitVec 12) (lanes : BitVec 7) (cores : BitVec 18),
    s.dev.ds = dsKINDLING ∧ s.dev.get Reg.KINDLE.PHASE = 4 ∧ testsOk fail lanes cores = true ∧
      ((∃ k, k ∉ [5, 6] ∧ fail.getLsbD k = true) ∧ 2 ≤ ((List.range 7).filter lanes.getLsbD).length ∧
        3 ≤ ((List.range 18).filter cores.getLsbD).length) :=
  ⟨kindling 4 0, 0x860, 0x60, 0x38000, by decide +kernel, by decide +kernel, by decide +kernel, ⟨11, by decide, by decide⟩,
    by decide +kernel, by decide +kernel⟩

/-- An image of revision 5 and generation 7 whose CRCs are right. -/
def imageOf (locks : Nat) (body : List Byte) : List Byte :=
  let h := [0x54, 0x59, 0x49, 0x4D, 1, 0, 0, 0] ++ leBytes 4 7 ++ leBytes 4 5 ++ leBytes 4 (32 + body.length) ++
    leBytes 4 (crc32 body) ++ leBytes 4 locks
  h ++ leBytes 4 (crc32 h) ++ body
def record (idx : Nat) (sub : Byte) (data : List Byte) : List Byte :=
  leBytes 2 idx ++ [sub, 0] ++ leBytes 4 data.length ++ data
/-- The device that looks at the flash first, and what applying the image there leaves. -/
def looked (s : State) (flash : List Byte) : Dev := ((s.met 0).send (.qspi 0x6B 0 8)).examine 3 (flashBytes flash)
def appliedFrom (s : State) (flash : List Byte) : Option Nat :=
  let b := flashBytes flash
  (Dev.applyRecords s.mem (imageLength b) (looked s flash) 32 (b 32 (imageLength b - 32)) []).2.2
def plainImage : List Byte := imageOf 1 (record 0x2201 0x18 [5])
def badImage : List Byte := imageOf 0 (record 0x2201 0x18 [5] ++ record 0x2008 1 [1])
/-- The same device with an image in MRAM slot A, and what that image's application there leaves. -/
def inSlotA (s : State) (image : List Byte) : State := { s with mem := s.mem.write (Mem.image 0) image }
def lookedA (s : State) : Dev := ((s.met 0).examine 1 (s.dev.slotBytes s.mem 0)).examine 2 (s.dev.slotBytes s.mem 1)
def verifiedA (s : State) : Dev :=
  let d := s.met 0
  Dev.targetSync (Dev.set { d with kindle := { d.kindle with verify := none } } Reg.KINDLE.IMG_A
    (imageCheck (d.get Reg.IDENT.REVISION) (s.dev.slotBytes s.mem 0))) s.mem
def appliedA (s : State) (d : Dev) : Option Nat :=
  let b := s.dev.slotBytes s.mem 0
  (Dev.applyRecords s.mem (imageLength b) d 32 (b 32 (imageLength b - 32)) []).2.2

theorem witness_ImagesAreLoadedOrRefused_clauses :
    (∃ (s : State) (flash : List Byte), s.dev.ds = dsKINDLING ∧ s.dev.get Reg.KINDLE.PHASE = 5 ∧ s.dev.bootSrc = 1 ∧
      (looked s flash).get Reg.KINDLE.IMG_EXT = igVALID ∧ appliedFrom s flash = none) ∧
    (∃ (s : State) (flash : List Byte), s.dev.ds = dsKINDLING ∧ s.dev.get Reg.KINDLE.PHASE = 5 ∧ s.dev.bootSrc = 1 ∧
      (looked s flash).get Reg.KINDLE.IMG_EXT = igVALID ∧ appliedFrom s flash = some 41 ∧
      ∀ x ∈ s.dev.mramOrder s.mem, (looked s flash).get (imageKey x) ≠ igVALID ∧
        imageCheck (s.dev.get Reg.IDENT.REVISION) (s.dev.slotBytes s.mem (x - 1)) ≠ igVALID) ∧
    (∃ s : State, s.dev.ds = dsKINDLING ∧ s.dev.get Reg.KINDLE.PHASE = 5 ∧ s.dev.bootSrc = 0 ∧ s.dev.mramOrder s.mem = [1, 2] ∧
      (lookedA s).get Reg.KINDLE.IMG_A = igVALID ∧ appliedA s (lookedA s) = none) ∧
    (∃ s : State, s.dev.ds = dsKINDLING ∧ s.dev.kindle.netBoot = true ∧ s.dev.kindle.netLinkAt = some 100000000000 ∧
      700000000000 ≤ s.dev.now + 500000000000 ∧ (lookedA s).get Reg.KINDLE.IMG_A = igVALID ∧ appliedA s (lookedA s) = none) ∧
    (∃ s : State, s.dev.ds = dsKINDLING ∧ s.dev.kindle.verify = some 1 ∧ s.dev.kindle.waiting = true ∧ s.dev.kindle.netBoot = false ∧
      (verifiedA s).get Reg.KINDLE.IMG_A = igVALID ∧ appliedA s (verifiedA s) = none) ∧
    (∃ s : State, s.dev.ds = dsKINDLING ∧ s.dev.kindle.verify = some 1 ∧ s.dev.kindle.waiting = true ∧ s.dev.kindle.netBoot = false ∧
      (verifiedA s).get Reg.KINDLE.IMG_A = igVALID ∧ appliedA s (verifiedA s) = some 41) :=
  ⟨⟨kindling 5 1, plainImage, by decide +kernel⟩, ⟨kindling 5 1, badImage, by decide +kernel⟩,
    ⟨inSlotA (kindling 5 0) plainImage, by decide +kernel⟩,
    ⟨inSlotA (kindling 6 2 (fun k => { k with netBoot := true, netLinkAt := some 100000000000 })) plainImage, by decide +kernel⟩,
    ⟨inSlotA (kindling 6 3 (fun k => { k with waiting := true, verify := some 1 })) plainImage, by decide +kernel⟩,
    inSlotA (kindling 6 3 (fun k => { k with waiting := true, verify := some 1 })) badImage, by decide +kernel⟩

/-- Arm 5 with another word than `word5`. -/
def armW (w : WordX) (st : Nat) (x : ArmX := {}) (regs : List (Nat × Nat) := []) (f : Dev → Dev := id) : State :=
  arm5 st {} regs dsRUNNING (fun d => f (d.setArm 5 { x with words := [w] }))
def badWord : WordX := { word5 with valid := false, data := 0, reason := 3 }
/-- The hypotheses that the clauses of ArmSampleLaw share. -/
def Sampled (s : State) (w : WordX) : Prop :=
  (s.dev.arm 5).words = [w] ∧ s.dev.live = true ∧ s.dev.ds ≠ dsTAKEOVER ∧ (s.dev.arm 5).req = none ∧ (s.dev.arm 5).asks = [] ∧
    s.dev.ashRunning = false ∧ s.dev.twin.take.left = 0 ∧ s.dev.net.wait = none ∧ s.dev.net.spiWait = none ∧ (s.dev.lane 5).removals = [] ∧
    F32.isNaN ((s.met 0).ffCount 5 w.si ((s.dev.arm 5).frameOf w.si)) = false ∧
    F32.isNaN ((s.met 0).refCode 5 w.si ((s.dev.arm 5).frameOf w.si)) = false
/-- Arm 5 whose last 8 words are equal, of both legs, with a level event in their range. -/
def frozen5 (st : Nat) (alone : Option Nat) : State :=
  armW { word5 with alone := alone } st
    { recent := (List.range 7).map (fun k => (12, k % 2)), events := [99999983], steps := [(99999983, 3)] }
    [(Reg.ARM.FREEZE_N 5, 8), (Reg.ARM.FREEZE_LAG 5, 1), (Reg.ARM.FREEZE_TOL 5, 0)]

theorem witness_ArmSampleLaw_clauses :
    (∀ st ∈ [asBLOCKED, asHOLD, asCLOSED], ∀ w ∈ [word5, badWord], ∃ s : State, Sampled s w ∧ s.dev.armState 5 = st ∧ (s.dev.arm 5).events = [] ∧
      (s.dev.arm 5).invRun + 1 < (s.met 0).getAt w.si (Reg.ARM.INVALID_MAX 5)) ∧
    (∃ s : State, Sampled s word5 ∧ s.dev.armState 5 = asOPEN ∧ s.dev.armCause 5 = caSOFTWARE ∧ (s.dev.arm 5).closeFrame = none ∧
      (s.dev.arm 5).events = [] ∧ 0 < (s.met 0).getAt word5.si (Reg.ARM.INVALID_MAX 5) ∧ (s.dev.arm 5).burst = 1 ∧ (s.dev.arm 5).nCmd ≠ 0) ∧
    (∀ st ∈ [asOPEN, asCLOSED], ∃ s : State, Sampled s badWord ∧ s.dev.armState 5 = st ∧ (s.dev.arm 5).events = [] ∧ (s.dev.arm 5).invDone = false ∧
      (s.dev.arm 5).transSi ≠ badWord.si ∧ (s.dev.arm 5).invRun + 1 = (s.met 0).getAt badWord.si (Reg.ARM.INVALID_MAX 5)) ∧
    (∀ st ∈ [asOPEN, asCLOSED], ∀ alone ∈ [none, some 1], ∃ s : State, Sampled s { word5 with alone := alone } ∧ s.dev.armState 5 = st ∧
      (s.dev.arm 5).frozen = false ∧ (s.dev.arm 5).transSi ≠ word5.si ∧ 0 < (s.met 0).getAt word5.si (Reg.ARM.INVALID_MAX 5) ∧
      (s.met 0).getAt word5.si (Reg.ARM.FREEZE_N 5) = 8 ∧ (s.met 0).getAt word5.si (Reg.ARM.FREEZE_LAG 5) = 1 ∧
      (s.met 0).getAt word5.si (Reg.ARM.FREEZE_TOL 5) = 0 ∧ (s.dev.arm 5).recent = (List.range 7).map (fun k => (12, k % 2)) ∧
      99999983 ∈ (s.dev.arm 5).events) := by
  unfold Sampled
  exact ⟨fun st h w g => ⟨armW w st, by revert st w; decide +kernel⟩,
    ⟨armW word5 asOPEN { burst := 1, nCmd := 3 } [(Reg.ARM.CAUSE 5, caSOFTWARE)], by decide +kernel⟩,
    fun st h => ⟨armW badWord st { invRun := 7 }, by revert st; decide +kernel⟩,
    fun st h alone g => ⟨frozen5 st alone, by revert st alone; decide +kernel⟩⟩

theorem witness_ArmTransitions_clauses : ∀ st ∈ [asOPEN, asCLOSED], ∃ s, Turning s .loss caLEGSUM ∧ s.dev.armState 5 = st := by
  unfold Turning
  exact fun st h => ⟨arm5 st { asks := [asked .loss caLEGSUM] }, by revert st; decide +kernel⟩

def waitingStart : StartX := { due := 99999999900, si := 99999999 }
/-- Converter 17 off its grid, and pair member 10 with its start of the grid due. -/
def offGrid (x : CvX) : State := conv17 x [(Reg.CV.START_SRC 17, 16)]
def pair10 (x : CvX) : State := mk dsRUNNING [] (fun d => d.setCv 10 x)

theorem witness_ConversionStarts_clauses :
    (∃ s : State, s.dev.sampling = true ∧ (s.met 0).gridSlot 10 (s.ttAt 0) = some 100000000 ∧ (s.dev.cv 10).busyUntil = s.ttAt 0 ∧
      (s.dev.cv 10).pend = none ∧ (s.dev.cv 10).restart = none ∧ (s.dev.cv 10).urgentWait = false ∧ (s.dev.cv 10).calWait = false) ∧
    (∃ s : State, s.dev.sampling = true ∧ (s.met 0).gridSlot 10 (s.ttAt 0) = some 100000000 ∧ s.ttAt 0 < (s.dev.cv 10).busyUntil ∧
      (s.dev.cv 10).pend.isSome = true ∧ (s.dev.cv 10).restart = none) ∧
    (∃ s : State, s.dev.live = true ∧ (s.met 0).gridSlot 17 (s.ttAt 0) = some 100000000 ∧ s.ttAt 0 < (s.dev.cv 17).busyUntil ∧
      (s.dev.cv 17).restart = some waitingStart ∧ (s.dev.cv 17).pend = none) ∧
    (∃ s : State, s.dev.live = true ∧ (s.met 0).gridSlot 17 (s.ttAt 0) = none ∧ (s.dev.cv 17).busyUntil = s.ttAt 0 ∧
      (s.dev.cv 17).urgentWait = false ∧ (s.dev.cv 17).calWait = false ∧ (s.dev.cv 17).restart = none ∧
      (s.dev.cv 17).pend = some waitingStart) ∧
    (∃ s : State, s.dev.live = true ∧ (s.met 0).gridSlot 17 (s.ttAt 0) = none ∧ (s.dev.cv 17).busyUntil = s.ttAt 0 ∧
      (s.dev.cv 17).urgentWait = false ∧ (s.dev.cv 17).calWait = false ∧ (s.dev.cv 17).restart = some waitingStart ∧
      (s.dev.cv 17).pend = none) ∧
    (∃ s : State, Urgent s ∧ (s.dev.cv 17).conv = none ∧ (s.ttAt 0 + 99) / 100 * 100 < (s.dev.cv 17).busyUntil ∧
      (s.dev.cv 17).urgentWait = false) := by
  unfold Urgent
  exact ⟨⟨pair10 { busyUntil := 100000000000 }, by decide +kernel⟩, ⟨pair10 { busyUntil := 100000000001, pend := some waitingStart }, by decide +kernel⟩,
    ⟨conv17 { busyUntil := 100000000001, restart := some waitingStart }, by decide +kernel⟩,
    ⟨offGrid { busyUntil := 100000000000, pend := some waitingStart }, by decide +kernel⟩,
    ⟨offGrid { busyUntil := 100000000000, restart := some waitingStart }, by decide +kernel⟩,
    conv17 { busyUntil := 100000000100 }, by decide +kernel⟩

/-- Arm 5 in a deblock burst, with the ACTIVE cell 3071 in a commanded state. -/
def bursting (need cmd : Nat) (rest : Bool) : State :=
  lastCell csACTIVE [(Reg.CELL.CMD_STATE 3071, cmd), (Reg.ARM.STATE 5, asOPEN)]
    (fun d => d.setArm 5 { burst := 1, req := some { request 4 with burst := true, need := need, rest := rest } })

theorem witness_LaneSelections_clauses :
    (∃ r : SelReq, ((bursting 2 swBLK false).dev.arm 5).req = some r ∧ 0 < r.left ∧ r.burst = true ∧ r.rest = false ∧ r.need = 2 ∧
      (∃ g, ((bursting 2 swBLK false).met 0).choose 5 r.si r.dir r.pos true = some g ∧ g.1 = 3071 ∧ g.2.1 = opPOS) ∧
      (bursting 2 swBLK false).dev.armOfSlot 3071 = some 5 ∧ (bursting 2 swBLK false).dev.cmdState 3071 = swBLK ∧
      ((bursting 2 swBLK false).dev.port 23).ban = false) ∧
    (∀ c ∈ [(0, false), (2, true)], ∃ r : SelReq, ((bursting c.1 swBLK c.2).dev.arm 5).req = some r ∧ 0 < r.left ∧ r.burst = true ∧
      (r.rest = true ∨ r.need = 0) ∧ (bursting c.1 swBLK c.2).dev.burstRest 5 = [3071] ∧
      ((bursting c.1 swBLK c.2).dev.port 23).ban = false ∧ (bursting c.1 swBLK c.2).dev.armOfSlot 3071 = some 5) ∧
    (∃ r : SelReq, ((bursting 0 swPOS true).dev.arm 5).req = some r ∧ 0 < r.left ∧ r.burst = true ∧ r.rest = true ∧
      (bursting 0 swPOS true).dev.burstRest 5 = []) :=
  ⟨⟨{ request 4 with burst := true, need := 2 }, by decide +kernel, by decide, rfl, rfl, rfl, some_of (by decide +kernel), by decide +kernel⟩,
    fun c h => ⟨{ request 4 with burst := true, need := c.1, rest := c.2 }, by revert c; decide +kernel⟩,
    { request 4 with burst := true, need := 0, rest := true }, by decide +kernel⟩

/-- A servo in a state whose one measurement lies `off` (100 ps) ahead of station time. -/
def steeringBy (st : Nat) (off : Int) (regs : List (Nat × Nat) := []) : State :=
  mk dsRUNNING ([(Reg.SERVO.STATE, st), (Reg.SERVO.ENABLE, 1), (Reg.SERVO.STEP_THRESHOLD, 1000), (Reg.SERVO.ALARM_THRESHOLD, 500), (Reg.SERVO.STEP_MODE, 0)] ++ regs)
    (fun d => { d with time := { d.time with
      lastRef := some 0, measure := some { tt := 50000000000, ref := (((d.sets regs).stAbs 50000000000 + off : Int) : Rat) } } })
def magnitude (s : State) (m : Measure) : Rat :=
  let ns : Rat := (((s.dev.stAbs m.tt : Int) : Rat) - m.ref) / 10
  if ns < 0 then 0 - ns else ns

theorem witness_ServoMoves_clauses :
    (∃ (s : State) (m : Measure), s.dev.time.measure = some m ∧ s.dev.time.lastRef = some 0 ∧ s.dev.get Reg.SERVO.STATE = svLOCKED ∧
      ((s.dev.get Reg.SERVO.ALARM_THRESHOLD : Nat) : Rat) < magnitude s m ∧ magnitude s m < ((s.dev.get Reg.SERVO.STEP_THRESHOLD : Nat) : Rat) ∧
      s.dev.live = true) ∧
    (∃ (s : State) (m : Measure), s.dev.time.measure = some m ∧ s.dev.time.lastRef = some 0 ∧ s.dev.get Reg.SERVO.STATE ≠ svDISABLED ∧
      ((s.dev.get Reg.SERVO.STEP_THRESHOLD : Nat) : Rat) < magnitude s m ∧ s.dev.stepAllowed = true ∧ s.dev.ds = dsRUNNING ∧
      -2 ^ 63 ≤ roundRat m.ref % secUnits - (m.tt + m.tt * s.dev.rate / (2 ^ 40 : Int)) ∧
      roundRat m.ref % secUnits - (m.tt + m.tt * s.dev.rate / (2 ^ 40 : Int)) < 2 ^ 63) :=
  ⟨⟨steeringBy svLOCKED 7000, _, rfl, by decide +kernel⟩, steeringBy svSEEKING 20000, _, rfl, by decide +kernel⟩

/-- Arm 5's port 23 with a release in its past, its cell, sinks and converters, at a boundary that is due. -/
def boundary5 (f : Dev → Dev := id) (regs : List (Nat × Nat) := []) : State :=
  mk dsRUNNING ([(Reg.PMAP.PORT_ARM 23, 5)] ++ regs) (fun d => f { d with frame :=
    { run := true, started := true, n := 5, bn := 99999900000, bnOld := 99999800000, next := 100000000000 } })
/-- Sink 111 is fed by the second output of node 4095 of rate group 3, whose period ends with the boundary. -/
def sinking (overran : Bool) : State :=
  boundary5 (fun d => { d with kiln := { d.kiln with
    run := true, sinks := [(111, 2 ^ 13 + 8191)], rgs := [(3, { running := true, done := true, overran := overran })]
    nodes := [(4095, { desc := 3 * 2 ^ 24, work1 := 0x3F800000, stale1 := false })] } })

theorem witness_FrameBoundaryBeginsTheFrame_clauses :
    (∀ o ∈ [true, false], ∃ s : State, s.dev.frame.run = true ∧ s.dev.frame.next = s.ttAt 0 ∧ s.dev.shadow = [] ∧ s.dev.kiln.run = true ∧
      s.dev.kiln.halted = false ∧ s.dev.live = true ∧ (s.dev.rgx 3).running = true ∧ (s.dev.rgx 3).turn 6 = true ∧ (s.dev.rgx 3).done = true ∧
      (s.dev.rgx 3).overran = o ∧ s.dev.kiln.sinks = [(111, 2 ^ 13 + 8191)] ∧ refKind (2 ^ 13 + 8191) = 1 ∧
      refWhich (2 ^ 13 + 8191) / 2 ∈ s.dev.rgNodes 3) ∧
    (∃ s : State, s.dev.frame.run = true ∧ s.dev.frame.next = s.ttAt 0 ∧ s.dev.shadow = [] ∧ s.dev.kiln.run = true ∧ s.dev.kiln.halted = false ∧
      s.dev.kilnWanted = true ∧ s.dev.kiln.reload = false ∧ (s.dev.rgx 0).turn 6 = true) ∧
    (∃ s : State, s.dev.frame.run = true ∧ s.dev.frame.next = s.ttAt 0 ∧ s.dev.shadow = [] ∧ (17, s.dev.cv 17) ∈ s.dev.meas.cvs ∧
      (s.dev.cv 17).lastValid = some 99999999000) ∧
    (∀ live ∈ [true, false], ∃ s : State, s.dev.frame.run = true ∧ s.dev.frame.next = s.ttAt 0 ∧ s.dev.shadow = [] ∧
      (s.dev.armOfPort 23).isSome = true ∧ s.dev.live = true ∧ (s.dev.port 23).live = live ∧
      (s.dev.port 23).freeSince = some 99999999959) :=
  ⟨fun o h => ⟨sinking o, by revert o; decide +kernel⟩, ⟨sinking true, by decide +kernel⟩,
    ⟨boundary5 (fun d => d.setCv 17 { lastValid := some 99999999000 }), by decide +kernel⟩,
    fun live h => ⟨boundary5 (fun d => d.setPort 23 { live := live, freeSince := some 99999999959 }), by revert live; decide +kernel⟩⟩

theorem witness_DownlinkSlotContent_clauses :
    (∀ group ∈ [true, false], ∃ s : State, SlotBegins s 23 554 5 5 ∧ (s.dev.port 23).fresh = false ∧ (s.dev.port 23).blockWord = false ∧
      (s.dev.port 23).stackQ = [] ∧ (s.dev.port 23).otherQ = [{ dest := 7, op := opBYPASS, group := group }] ∧
      (s.dev.port 23).lastOther = some (s.ttAt 0 - 2000)) ∧
    (∃ s : State, SlotBegins s 23 23 0 0 ∧ (s.dev.port 23).fresh = false ∧ (s.dev.port 23).fragsSent = 3 ∧
      (s.dev.port 23).blockWord = false ∧ (s.dev.port 23).stackQ = [] ∧ (s.dev.port 23).otherQ = []) ∧
    (∃ s : State, SlotBegins s 23 23 0 0 ∧ (s.dev.port 23).fresh = false ∧ (s.dev.port 23).fragsSent = 4 ∧ s.dev.hasLease = true ∧
      (s.dev.port 23).blockWord = false ∧ (s.dev.port 23).stackQ = [] ∧ (s.dev.port 23).otherQ = [] ∧
      (s.dev.port 23).frags = [[1, 2, 3, 4, 5, 6, 7, 8], [9]]) ∧
    (∃ s : State, SlotBegins s 23 23 0 0 ∧ (s.dev.port 23).fresh = false ∧ (s.dev.port 23).fragsSent = 4 ∧ s.dev.hasLease = true ∧
      (s.dev.port 23).blockWord = false ∧ (s.dev.port 23).stackQ = [] ∧ (s.dev.port 23).otherQ = [] ∧
      (s.dev.port 23).frags = [] ∧ (s.dev.port 23).mgmtQ = [{ bytes := [3, 0] }] ∧ (messageFragments [3, 0]).length = 1) := by
  unfold SlotBegins
  exact ⟨fun group h => ⟨onArm5 99820 { live := true, fragsSent := 4, lastOther := some 99999998000,
                                                       otherQ := [{ dest := 7, op := opBYPASS, group := group }] }, by revert group; decide +kernel⟩,
    ⟨onArm5 4140 { live := true, fragsSent := 3 }, by decide +kernel⟩,
    ⟨onArm5 4140 { live := true, frags := [[1, 2, 3, 4, 5, 6, 7, 8], [9]] }, by decide +kernel⟩,
    onArm5 4140 { live := true, mgmtQ := [{ bytes := [3, 0] }] }, by decide +kernel⟩

/-- A forced raise that waits to be classified. -/
def forcedEvent (f : Nat) (ds : Nat := dsRUNNING) : State :=
  mk ds [] (fun d => { d with damper := { d.damper with raised := [{ src := f, at_ := 199999999999, arm := 0xFF, aux := 0, forced := true }] } })

theorem witness_FaultForceAndClear_clauses : ∀ f ∈ [255, 223], ∃ s : State,
    s.dev.damper.raised = [{ src := f, at_ := 199999999999, arm := 0xFF, aux := 0, forced := true }] ∧ s.dev.live = true ∧
      s.dev.eventAt f 199999999999 = none ∧ s.dev.damper.clears.find f = none ∧ s.dev.damper.rateN < 2000 ∧
      s.dev.get Reg.DAMP.LOG_INDEX < 8192 ∧ s.dev.acq.engineOpen = false ∧
      s.dev.damper.events.any (fun e => e.1 == 223 && e.2.at_ == 199999999999) = false :=
  fun f h => ⟨forcedEvent f, by revert f; decide +kernel⟩

/-- READ of the same entry of the test space 30 times. -/
def manyReads : List Byte := [1, 1, 0x34, 0x12, 120, 0, 0, 30] ++ (List.replicate 30 [0xFF, 0x2F, 1, 0]).flatten

theorem leBytes_length (n v : Nat) : (leBytes n v).length = n := by
  induction n generalizing v with
  | zero => rfl
  | succ n ih => simp [leBytes, ih]

theorem read_of_test (h0 : Config.testEntry 0x2FFF 0 = true) (h1 : Config.testEntry 0x2FFF 1 = true) (hs : Config.testSize 0x2FFF 1 = 64)
    (d : Dev) (hd : d.ds = dsRUNNING) : ∃ data : List Byte, data.length = 64 ∧ d.read 0x2FFF 1 = Dev.ret { d with data := data } stOK := by
  have hf : d.find 0x2FFF 1 false =
      .inl ⟨0x2FFF, 0x2FFF, 1, 1, .u, 64, .rt, .imm, none, .any, .c (Config.testReset 0x2FFF 1)⟩ := by
    simp [Dev.find, Dev.indexDefined, entryOf, isTestIdx, h0, h1, hs]
  exact ⟨leBytes 64 ((Tab.find d.regs 0x2FFF01).getD (Config.testReset 0x2FFF 1)), leBytes_length .., by
    simp [Dev.read, Dev.readPlain, hf, Dev.serves, Dev.beforeFuses, Dev.readState, Dev.readClears, hd, Dev.readBytes, subKey, isTestIdx, dsRUNNING, dsBANKED, dsKINDLING, Reg.DEVNAME.DEVICE_NAME]⟩

theorem many_reads (h0 : Config.testEntry 0x2FFF 0 = true) (h1 : Config.testEntry 0x2FFF 1 = true) (hs : Config.testSize 0x2FFF 1 = 64)
    (n : Nat) (d : Dev) (hd : d.ds = dsRUNNING) : (Dev.iopRun [] d (List.replicate n (.read 0x2FFF 1))).2.1.length = 70 * n := by
  induction n generalizing d with
  | zero => rfl
  | succ n ih =>
    obtain ⟨data, hl, hr⟩ := read_of_test h0 h1 hs d hd
    have hi := ih (Dev.ret { d with data := data } stOK) hd
    simp only [Dev.ret] at hi hr
    simp [List.replicate_succ, Dev.iopRun, Dev.iopExec, hr, Dev.itemWaits, leBytes_length, hi, hl]
    omega

/-- Requests whose LENGTH is wrong and whose COUNT is out of range. -/
def shortRead : List Byte := [1, 1, 0x34, 0x12, 5, 0, 0, 1, 0x00, 0x21, 2, 0]
def noItems : List Byte := [1, 1, 0x34, 0x12, 0, 0, 0, 0]

/-- Only an entry of the test space is large enough for TOO_LARGE, and what it holds is left to Config: a premise of the third. -/
theorem witness_IopRequestIsAnswered_clauses :
    (∃ s : State, ((s.met 0).frameIn (iopTo shortRead).rx).2 = true ∧ ((s.met 0).frameIn (iopTo shortRead).rx).1.iopServes = true ∧
      ((s.met 0).frameIn (iopTo shortRead).rx).1.ownsIp 0 (iopTo shortRead).dst = true ∧
      (iopTo shortRead).dstPort.toNat = ((s.met 0).frameIn (iopTo shortRead).rx).1.get Reg.IOP.UDP_PORT ∧ iopMalformed shortRead = true) ∧
    (∃ s : State, Heard s (iopTo noItems) 1 ∧ ((s.met 0).frameIn (iopTo noItems).rx).1.keptNow = [] ∧ iopParse noItems = none) ∧
    (Config.testEntry 0x2FFF 0 = true → Config.testEntry 0x2FFF 1 = true → Config.testSize 0x2FFF 1 = 64 →
      Heard (served dsRUNNING []) (iopTo manyReads) 1 ∧
      (((served dsRUNNING []).met 0).frameIn (iopTo manyReads).rx).1.keptNow = [] ∧
      iopParse manyReads = some (List.replicate 30 (.read 0x2FFF 1)) ∧
      1440 < (((served dsRUNNING []).met 0).frameIn (iopTo manyReads).rx).1.iopSize [] (List.replicate 30 (.read 0x2FFF 1))) := by
  unfold Heard
  refine ⟨⟨served dsRUNNING [], by decide +kernel⟩, ⟨served dsRUNNING [], by decide +kernel⟩, fun h0 h1 hs => ?_⟩
  refine ⟨by decide +kernel, by decide +kernel, by decide +kernel, ?_⟩
  have h := many_reads h0 h1 hs 30 (((served dsRUNNING []).met 0).frameIn (iopTo manyReads).rx).1 (by decide +kernel)
  show 1440 < (Dev.iopRun [] _ (List.replicate 30 (.read 0x2FFF 1))).2.1.length
  omega

/-- Node 4095 of rate group 3 with an opcode, granted to core 17. -/
def kilnOp (op : Nat) (x : NodeX) (regs : List (Nat × Nat) := []) : State :=
  mk dsRUNNING regs (fun d => { d with kiln := { d.kiln with
    run := true, nodes := [(4095, { x with phase := npGRANTED, desc := op * 2 ^ 26 + 3 * 2 ^ 24 })], cores := [(17, { node := some 4095 })] } })
def twoInputs : NodeX :=
  { args := [{ conn := true, val := 0x40000000 }, { conn := true, val := 0x3F800000 }, { conn := true, val := 0x3F000000 }]
    coefs := [0x3F800000, 0x3F000000, 0xC0000000, 0x40400000, 0x3F800000] }
/-- Its period runs, with a deadline that lies ahead. -/
def lateDue (k : KilnX) : KilnX :=
  { k with cores := [], rgs := [(3, { running := true, ready := [4095], endN := 2000000 })] }

theorem witness_KilnPeriods_clauses :
    (∃ s : State, s.dev.get Reg.TRACE.ENABLE = 0 ∧ s.dev.kiln.run = true ∧ s.dev.kiln.halted = false ∧ s.dev.get (Reg.CORES.STATE 15) = kcACTIVE ∧
      (s.dev.kcore 15).node = none ∧ (∀ b, b < 15 → s.dev.kcoreTakes b = false) ∧ (∀ j, j < 3 → (s.dev.rgx j).ready = []) ∧
      (∀ j, j < 4 → ¬((s.dev.rgx j).running = true ∧ (s.dev.rgx j).done = false ∧ (s.met 0).rgDue j ≤ s.ttAt 0)) ∧
      (s.met 0).snapOpen = false ∧ (s.dev.rgx 3).ready = [4095] ∧ (s.dev.node 4095).phase = npREADY) ∧
    (∃ s : State, s.dev.get Reg.TRACE.ENABLE = 0 ∧ s.dev.kiln.run = true ∧ s.dev.kiln.halted = false ∧ (s.dev.kcore 17).node = none ∧
      (∀ j, j < 4 → (s.dev.rgx j).running = false ∧ (s.dev.rgx j).ready = [])) ∧
    (∃ s : State, s.dev.get Reg.TRACE.ENABLE = 0 ∧ s.dev.kiln.run = true ∧ s.dev.kiln.halted = false ∧ (s.dev.kcore 17).node = none ∧
      (s.met 0).snapOpen = true ∧ (s.dev.rgx 3).start = s.dev.frame.bn ∧ (s.dev.rgx 3).ready = [4095] ∧
      (∀ j, j < 4 → ¬((s.dev.rgx j).running = true ∧ (s.dev.rgx j).done = false ∧ (s.met 0).rgDue j ≤ s.ttAt 0))) ∧
    (∀ op ∈ [0x01, 0x04, 0x07, 0x10, 0x15, 0x17, 0x18, 0x19, 0x1A, 0x1B, 0x1E, 0x24, 0x25, 0x2D, 0x2F], ∀ gate ∈ [gtOPEN, gtCLOSED],
      ∃ s : State, Ending s ∧ (s.dev.node 4095).op = op ∧ (s.dev.node 4095).phase = npGRANTED ∧ (s.dev.node 4095).dup = false ∧
        ((s.met 0).opInput 4095).closed = decide (gate = gtCLOSED)) := by
  unfold Ending
  exact ⟨⟨kiln { phase := npREADY } lateDue ((List.range 15).map (fun c => (Reg.CORES.STATE c, kcRETIRED))), by decide +kernel⟩,
    ⟨kiln {} coreFree, by decide +kernel⟩,
    ⟨linked 100 [] (fun d => { d with
      meas := { d.meas with cvs := [(17, { conv := some { strobe := 99999999000, si := 99999999 } })] }
      kiln := { d.kiln with run := true, nodes := [(4095, { phase := npREADY, desc := 3 * 2 ^ 24 })], rgs := [(3, { running := true, start := 99999999900, endN := 2000000, ready := [4095] })] } }),
      by decide +kernel⟩,
    fun op h gate g => ⟨kilnOp op twoInputs [(Reg.NODE.STATUS 4095, gate * 256)], by revert op gate; decide +kernel⟩⟩

/-- Finite results, whose value the clause on results states, exist for a LOOP and for a transform. -/
theorem witness_KilnPeriods_results : ∀ op ∈ [0x18, 0x15], Finite (kilnOp op twoInputs [(Reg.NODE.STATUS 4095, gtCLOSED * 256)]) = true := by
  decide +kernel

theorem witness_UnacceptedDeviceCommandIsIgnored_clauses :
    (∃ s : State, (s.met 0).writable Reg.DEVCMD.DEV_CMD = true ∧ s.dev.ds = dsRUNNING ∧ s.dev.twinEn = true ∧ s.dev.partnerReady = false) ∧
    (∃ s : State, (s.met 0).writable Reg.DEVCMD.DEV_CMD = true ∧ s.dev.ds = dsADMITTED ∧ s.dev.get Reg.LOCK.LOCK ≠ 0 ∧ s.dev.safeDefault = false) :=
  ⟨⟨mk dsRUNNING [(Reg.TWIN.TWIN_EN, 1)], by decide +kernel⟩, mk dsADMITTED [(Reg.LOCK.LOCK, 16)], by decide +kernel⟩

theorem witness_TimeComparesArmAndFire_clauses :
    (∀ period ∈ [0, 2000], ∃ s : State, (s.met 0).writable (Reg.TC.ARM 15) = true ∧ (s.dev.get (Reg.TC.STATUS 15)).testBit tcARMED = false ∧
      diffW 64 (s.dev.get (Reg.TC.TARGET 15)) (s.ttAt 0) = -1 ∧ s.dev.bit Reg.EC.SNAP_SRC 1 = false ∧ s.dev.get (Reg.TC.PERIOD 15) = period ∧
      (∀ c, c < 18 → s.dev.get (Reg.CV.START_SRC c) ≠ 0x10 + 15 ∧ s.dev.get (Reg.CV.URGENT_SRC c) ≠ 0x10 + 15) ∧
      s.dev.bit (Reg.TC.ROUTE 15) 1 = true ∧ Tab.find s.dev.time.trig 1 = none) ∧
    (∃ s : State, (s.met 0).compareDue 15 = true ∧ s.dev.get (Reg.TC.PERIOD 15) = 2000 ∧ s.dev.bit Reg.EC.SNAP_SRC 1 = false ∧
      (∀ c, c < 18 → s.dev.get (Reg.CV.START_SRC c) ≠ 0x10 + 15 ∧ s.dev.get (Reg.CV.URGENT_SRC c) ≠ 0x10 + 15) ∧
      1 < max 1 ((diffW 64 ((ceilTick (s.dev.get (Reg.TC.TARGET 15)) % 2 ^ 64 : Nat) + 2200) (s.dev.get (Reg.TC.TARGET 15)) + 1999) / 2000)) :=
  ⟨fun period h => ⟨mk dsRUNNING [(Reg.TC.TARGET 15, 99999999999), (Reg.TC.PERIOD 15, period), (Reg.TC.ROUTE 15, 2)], by revert period; decide +kernel⟩,
    mk dsRUNNING [(Reg.TC.TARGET 15, 99999990000), (Reg.TC.STATUS 15, 1), (Reg.TC.PERIOD 15, 2000)], by decide +kernel⟩

theorem witness_RangingAdmits_clauses :
    (∃ s : State, s.dev.frame.run = true ∧ s.dev.cellState 3071 = csSTALE ∧ s.dev.inserted 3071 = true ∧ s.dev.armOfSlot 3071 = some 5 ∧
      s.dev.flag 3071 flUNCONFIRMED = false ∧ s.dev.leaving 3071 = false ∧
      (s.dev.cell 3071).staleFrame + s.dev.get Reg.LINK.ABSENT_AFTER ≤ s.dev.frame.n) ∧
    (∃ s : State, s.dev.frame.run = true ∧ s.dev.cellState 3071 = csSTALE ∧ s.dev.inserted 3071 = true ∧ s.dev.armOfSlot 3071 = some 5 ∧
      s.dev.leaving 3071 = true ∧ (s.dev.cell 3071).staleFrame + s.dev.get Reg.LINK.ABSENT_AFTER ≤ s.dev.frame.n) :=
  ⟨⟨lastCell csSTALE [(Reg.LINK.ABSENT_AFTER, 5), (Reg.CELL.CMD_STATE 3071, swPOS), (Reg.ARM.STATE 5, asCLOSED)], by decide +kernel⟩,
    lastCell csSTALE [(Reg.LINK.ABSENT_AFTER, 5), (Reg.CELL.CMD_STATE 3071, swPOS), (Reg.ARM.STATE 5, asCLOSED)]
      (fun d => d.setLane 5 { removals := [{ slot := 3071, state := swBYP, tt := 0, unicast := true }] }), by decide +kernel⟩

theorem witness_ProfileChange_clauses :
    (∃ s : State, s.dev.get Reg.MODE.STATE ∈ [1, 2] ∧ s.dev.link.mode.aborts = 1 ∧ s.dev.frame.run = true ∧ s.dev.frame.next ≤ s.ttAt 0 ∧ s.dev.live = true ∧
      s.dev.knownSlots = [3071]) :=
  ⟨boundary5 (fun d => ({ d with link := { d.link with mode := { aborts := 1 } } } : Dev).setCell 3071 {}) [(Reg.MODE.STATE, 1), (Reg.CELL.STATE 3071, csACTIVE)],
    by decide +kernel⟩

theorem witness_DamperClassifiesAndReacts_clauses : ∃ (s : State) (w : Nat), s.dev.damper.winEnd.find 255 = some w ∧ (s.met 0).now + 1 = w :=
  ⟨mk dsRUNNING [] (fun d => { d with damper := { d.damper with winEnd := [(255, 200000000001)] } }), _, rfl, by decide +kernel⟩

theorem witness_StallsAndMemoryErrors_clauses :
    (∃ s : State, s.dev.ds = dsKINDLING ∧ s.dev.maintSpares = s.dev ∧ s.dev.twinEn = false) ∧
    (∃ s : State, s.dev.live = true ∧ s.dev.acqState ∉ [acFILLING, acARMED] ∧
      s.dev.acq.blocks.any (fun b => b.stream == 15 && b.block == 4) = true ∧
      s.dev.acq.streams.any (fun e => e.1 == 15 && e.2.block == 5) = true) :=
  ⟨⟨mk dsKINDLING [], by decide +kernel, rfl, by decide +kernel⟩,
    mk dsRUNNING [(Reg.ACQ.STATE, acPOST)] (fun d => { d with acq := { d.acq with
      blocks := [{ stream := 15, block := 4, entries := [] }], streams := [(15, { block := 5 })] } }), by decide +kernel⟩

theorem witness_AnnounceQueuesForRanging_clauses : ∃ (s : State) (bursts : List Burst), s.dev.frame.run = true ∧
    bursts.length = 2 ∧ (bursts.filter (fun b => !b.codeOk)).length = 1 ∧
    (s.dev.port 23).errCount + 1 ≤ s.dev.get (Reg.PORT.ERR_LIMIT 23) :=
  ⟨lastCell csABSENT, [announces, { announces with codeOk := false }], by decide +kernel⟩

/-- The hypotheses that the refusals of StrobesApplyFromTheApplyIndex share: a write of 0xFF to STROBE finds one value waiting. -/
def OneWaits (s : State) (k x : Nat) : Prop :=
  (s.met 0).writable Reg.COMMIT.STROBE = true ∧ s.dev.shadow = [(k, x)] ∧ (0xFF : Byte).toNat.testBit (s.dev.groupOf k) = true ∧
    s.dev.refused = []

def oneWaits (k x : Nat) (regs : List (Nat × Nat) := []) : State := mk dsRUNNING regs (fun d => { d with shadow := [(k, x)] })

theorem witness_StrobesApplyFromTheApplyIndex_clauses :
    (∃ s : State, OneWaits s Reg.LINK.TF 100 ∧ (s.dev.armOfPort 23).isSome = true ∧
      Plan.fits { eq := s.dev.get (Reg.PORT.EQ_TARGET 23), nSod := s.dev.get (Reg.PORT.N_SOD 23)
                  mgmt := s.dev.get (Reg.PORT.MGMT_SLOTS 23), lo := s.dev.get (Reg.PORT.TINDER_LO 23)
                  hi := s.dev.get (Reg.PORT.TINDER_HI 23) } 100 = false) ∧
    (∃ s : State, OneWaits s (Reg.PMAP.PORT_ARM 23) 5 ∧ 5 ≠ s.dev.get (Reg.PMAP.PORT_ARM 23) ∧ s.dev.armState 5 ≠ asBLOCKED) ∧
    (∃ s : State, OneWaits s (Reg.ARM.H_OUT 5) 8 ∧ 8 = s.dev.get (Reg.ARM.H_IN 5)) ∧
    (∃ s : State, OneWaits s (Reg.OC.UPPER 11) 100 ∧ 100 = s.dev.get (Reg.OC.LOWER 11)) ∧
    (∃ s : State, OneWaits s (Reg.PWM.PERIOD 5) 1000 ∧ 1000 = s.dev.get (Reg.PWM.PHASE 5)) ∧
    (∃ s : State, OneWaits s (Reg.NODE.DESC 4095) 0x01 ∧ isStructKey (Reg.NODE.DESC 4095) = true ∧ s.dev.get Reg.KILN.CHECK_STATE ≠ 2) := by
  refine ⟨⟨oneWaits Reg.LINK.TF 100 [(Reg.LINK.TF, 200), (Reg.PMAP.PORT_ARM 23, 5), (Reg.PORT.N_SOD 23, 128), (Reg.PORT.TINDER_HI 23, 1000)], ?_⟩, ⟨oneWaits (Reg.PMAP.PORT_ARM 23) 5 [(Reg.ARM.STATE 5, asOPEN)], ?_⟩,
    ⟨oneWaits (Reg.ARM.H_OUT 5) 8 [(Reg.ARM.H_IN 5, 8)], ?_⟩, ⟨oneWaits (Reg.OC.UPPER 11) 100 [(Reg.OC.LOWER 11, 100)], ?_⟩,
    ⟨oneWaits (Reg.PWM.PERIOD 5) 1000 [(Reg.PWM.PHASE 5, 1000)], ?_⟩, ⟨oneWaits (Reg.NODE.DESC 4095) 0x01 [(Reg.KILN.CHECK_STATE, 0)], ?_⟩⟩ <;>
    (try unfold OneWaits) <;> decide +kernel

/-! Well-formedness: an ill-formed command for each check, which faults as such. -/

def refusedIll (i : Instr) : Bool :=
  !i.wf && (match exec i State.reset with
    | .fault .illFormed => true
    | _ => false)

theorem test_ill_formed_rows : refusedIll (.fusePhaseDone 0 true 1025) = true ∧ (Instr.fusePhaseDone 0 true 1024).wf = true := by decide +kernel
theorem test_ill_formed_mram : refusedIll (.memoryPhaseDone 0 0 false 3) = true ∧ (Instr.memoryPhaseDone 0 0 false 2).wf = true := by decide +kernel
theorem test_ill_formed_self_test : (∀ i ∈ [Instr.selfTestDone 0 4 0 0, .selfTestDone 0 8 0 0, .selfTestDone 0 32 0 0, .selfTestDone 0 0 1 0,
    .selfTestDone 0 64 0 0, .selfTestDone 0 0 0 1], refusedIll i = true) ∧ (Instr.selfTestDone 0 96 1 1).wf = true := by decide +kernel
theorem test_ill_formed_iop : ∀ i ∈ [Instr.iopRead 0 (iopTo [1, 2]), .iopWrite 0 (iopTo [1, 1]), .iopReadBlock 0 (iopTo [1, 5]),
    .iopWriteBlock 0 (iopTo [1, 3]), .iopCommit 0 (iopTo [1, 4])], refusedIll i = true := by decide +kernel
theorem test_ill_formed_spi : ∀ i ∈ [Instr.spiRead 0 [2], .spiWrite 0 [1], .spiReadBlock 0 [4], .spiWriteBlock 0 [3]], refusedIll i = true := by
  decide +kernel
theorem test_ill_formed_ember : refusedIll (.emberFrameReceive 0 0 0 0 (List.replicate 383 0) true) = true := by decide +kernel
theorem test_ill_formed_test_space : refusedIll (.testSpaceWrite 0 0x3000 0 []) = true ∧ (Instr.testSpaceWrite 0 0x2F00 0 []).wf = true := by
  decide +kernel

/-! Examples of the spec. -/

/-- "123456789": the check values of the three CRCs (spec R67, R168, R170). -/
def digits : List Byte := [0x31, 0x32, 0x33, 0x34, 0x35, 0x36, 0x37, 0x38, 0x39]
theorem test_crcs : crc32 digits = 0xCBF43926 ∧ crc16 digits = 0x29B1 := by decide +kernel

/-- R9: cell P07.113 is slot 1009, entry 0x83F1. -/
theorem test_slot_numbers : portOf 1009 = 7 ∧ addrOf 1009 = 113 ∧ Reg.CELL.STATE 1009 / 256 = 0x83F1 := by decide

/-- The messages that left on the field network. -/
def messages (t : State) : List NetMsg := t.dev.out.filterMap (fun o => match o with
  | .frame _ _ _ m => some m
  | _ => none)

/-- R64: the vendor ID and the revision, read with SEQ 0x002A. -/
theorem test_iop_read : after (served dsRUNNING []) (.iopRead 0 (iopTo
    [0x01, 0x01, 0x2A, 0x00, 0x08, 0x00, 0x00, 0x02, 0x18, 0x10, 0x01, 0x00, 0x18, 0x10, 0x03, 0x00]))
    (fun t => messages t == [.udp (.v4 0x0A000001) client 51744 50000 [0x01, 0x81, 0x2A, 0x00, 0x14, 0x00, 0x00, 0x02,
      0x18, 0x10, 0x01, 0x00, 0x04, 0x00, 0x54, 0x4C, 0x4F, 0x48, 0x18, 0x10, 0x03, 0x00, 0x04, 0x00, 0xB0, 0x00, 0x00, 0x00]]) = true := by
  decide +kernel

/-- R64: a COMMIT with mask 0x02 at TT 1,234,567,891,234 answers K = 0x499602D4. -/
theorem test_iop_commit : after { (served dsRUNNING []) with dev := { (served dsRUNNING []).dev with now := 1334567891234 } }
    (.iopCommit 0 (iopTo [0x01, 0x05, 0x2C, 0x00, 0x04, 0x00, 0x00, 0x01, 0x02, 0x00, 0x00, 0x00]))
    (fun t => messages t == [.udp (.v4 0x0A000001) client 51744 50000 [0x01, 0x85, 0x2C, 0x00, 0x0C, 0x00, 0x00, 0x01,
      0x02, 0x00, 0x00, 0x00, 0xD4, 0x02, 0x96, 0x49, 0x00, 0x00, 0x00, 0x00]]) = true := by
  decide +kernel

/-- R52: ts = 10,000,034,176 applies at SI 10,000,035. -/
theorem test_apply_index : applyIndex 10000034176 = 10000035 := by decide

/-- R113: the scaled term and ST_SUB of the example. -/
theorem test_station_time : stWith 21990 0 36000000000000 - 36000000000000 = 719992 ∧
    stWith 43980 0 36000000000000 - 36000000000000 = 1439984 := by decide +kernel

/-- R133: TC03 armed at 0x17FFFFF000 for 0x1800000800 is near, 6,144 units ahead. -/
theorem test_compare_distance : diffW 64 0x1800000800 0x17FFFFF000 = 6144 ∧ farNear 0x1800000800 0x17FFFFF000 = true ∧
    diffW 32 0xFFFFF000 0x00000800 = -6144 := by decide +kernel

/-- R171: the beacon of frame 0x000F42 on P5, which names P05.037. -/
theorem test_beacon : ((mk dsRUNNING [(Reg.PMAP.PORT_ARM 5, 1), (Reg.TURF.SERIAL 677, 0x4E2100000003A7C5), (Reg.LINK.BO_MAX_EXP, 6),
    (Reg.LINK.TF, 100)] (fun d => { (onPort 5 { plan := { eq := 4400, nSod := 110, mgmt := 8, lo := 950, hi := 1350 }, tinderOpen := true
                                                ranging := some 677 } d) with
      frame := { d.frame with n := 0xF42, bn := 0x5F5E1000 } })).dev.beaconBytes 5 0) =
    [0x01, 0x00, 0x0F, 0x42, 0x5F, 0x5E, 0x11, 0x90, 0x76, 0x64, 0x6E, 0x80, 0x2F, 0xDA, 0x07, 0xD0,
      0x80, 0x42, 0x68, 0x4E, 0x21, 0x00, 0x00, 0x00, 0xC0, 0x03, 0xA7, 0xC5, 0xBD, 0x1F, 0x10, 0x40] := by decide +kernel

/-- R178, R192: the insertion of P02.047 with SEQ 9, the BLOCK of group 0, and the repeat. -/
theorem test_command_bytes :
    cmdBytes { dest := 47, op := 2 } 9 = [0x2F, 0x29, 0x00, 0x00, 0x00, 0x00, 0x5E, 0xD3] ∧
    cmdBytes blockCmd 0 = [0x80, 0x40, 0x00, 0x00, 0x00, 0x00, 0xCB, 0x58] ∧
    cmdBytes { dest := 47, op := 2, flags := repeatFlag } 9 = [0x2F, 0x29, 0x00, 0x00, 0x00, 0x40, 0x16, 0x17] := by decide +kernel

/-- R195: ADMIT of P05.037 in its three fragments. -/
theorem test_admit_message : messageFragments [0x02, 0x31, 0x4E, 0x21, 0x00, 0x00, 0x00, 0x03, 0xA7, 0xC5, 0x25, 0x2C, 0x90, 0x15, 0xDB] =
    [[0x80, 0x02, 0x31, 0x4E, 0x21, 0x00, 0x00, 0x00], [0x01, 0x03, 0xA7, 0xC5, 0x25, 0x2C, 0x90, 0x15],
      [0x42, 0xDB, 0xD4, 0x4E, 0x00, 0x00, 0x00, 0x00]] := by decide +kernel

/-- R185: the sod of P05.037 in frame 0x000F56. -/
def sod : Burst := { codeOk := true, bytes := [0x16, 0x25, 0x7E, 0xF4, 0x47, 0xE0, 0xFF, 0xCE, 0xA0, 0x00, 0x1F, 0x81, 0x20, 0x90, 0xA0, 0xF4], arrival := 0 }
theorem test_sod : sod.crcOk = true ∧ sod.typ = 1 ∧ sod.frame = 6 ∧ sod.addr = 37 ∧ ofBe (sod.payload.take 2) = 32500 := by decide +kernel

/-- R148: P05.037 ranges with RTT 1,118.4 ns: E is 11,408 and DL_DELAY 5,595. -/
theorem test_ranging : after (mk dsRUNNING [(Reg.PMAP.PORT_ARM 5, 1), (Reg.CELL.STATE 677, csANNOUNCED), (Reg.TURF.SERIAL 677, 0x4E2100000003A7C5),
      (Reg.PORT.ASYM 5, 6)] (fun d => { (onPort 5 { planOld := { eq := 4400, nSod := 110, mgmt := 8, lo := 950, hi := 1350 }, live := true
                                                    rangingOld := some 677 } (d.setCell 677 {})) with
      frame := { run := true, started := true, n := 0xF43, bn := 100000000000 - 95000, bnOld := 99999900000 - 95000
                 next := 100000100000 - 95000 } }))
    (.rangingWindowEnd 0 5 [burst 3 2 0 (beBytes 8 0x4E2100000003A7C5) 22368])
    (fun t => t.dev.get (Reg.CELL.RTT 677) == 11184 && t.dev.get (Reg.CELL.EQD 677) == 11408 && t.dev.get (Reg.CELL.DL_DELAY 677) == 5595) = true := by
  decide +kernel

/-- R225: words of CV0 and CV1 around a calibration. -/
theorem test_result_words : resultWord true 0 0 0x989680 0x2800 = 0x86802800 ∧ resultWord true 1 0 0x989681 10280 = 0xC6812828 ∧
    resultWord false 1 1 0x989683 0 = 0x56830000 ∧ resultWord true 0 1 0x989684 10320 = 0x96842850 := by decide +kernel

/-- R282 (example of the keys): 626, 2,502 and −289. -/
def keyVals : KeyVals := { wV := 0x42B40000#32, wSoc := 0x47FA0000#32, wT := 0x42480000#32, wW := 0x3A83126F#32, socTarget := 0x3F200000#32
                           vNom := 0x44FA0000#32 }
theorem test_keys : sat24 (keySum keyVals 0x44FB9000#32 0x3F1C0000#32 0x41F00000#32 1000) = 626 ∧
    sat24 (keySum keyVals 0x44F8C000#32 0x3F240000#32 0x41E00000#32 2000) = 2502 ∧
    sat24 (keySum keyVals 0x44FA8000#32 0x3F1C0000#32 0x41D80000#32 1000) = -289 := by decide +kernel

/-- R326: the loop of the example in its three periods: 100, 100, 91.996 with SAT 1, 1, 0. -/
def piIn (e : F32) (st : List F32) (reinit sat : Bool) : OpIn :=
  { ins := [(true, e), (true, 0)], k := [0x457A0000#32, 0x44FA0000#32, 0xC2C80000#32, 0x42C80000#32], s := st, t := 0x3A83126F#32
    closed := true, reinit := reinit, sat := sat }
theorem test_pi_loop :
    let a := evalOp 0x18 (piIn 0x3C23D70A#32 [0x43160000#32, 0x43160000#32, 0, 0] true true)
    let b := evalOp 0x18 (piIn 0x3B83126F#32 a.s false a.sat)
    let c := evalOp 0x18 (piIn 0xBB03126F#32 b.s false b.sat)
    a.o0 = 0x42C80000#32 ∧ a.sat = true ∧ b.o0 = 0x42C80000#32 ∧ b.sat = true ∧ c.o0 = 0x42B7FDF4#32 ∧ c.sat = false := by decide +kernel

/-- R334: K05 is granted N0004 of RG1 after 40 ns. -/
theorem test_trace_word : traceWord 0 (0x1234567 * 16) 5 4 1 25 = 0x1234567280220019 := by decide +kernel

/-- R351: a duty of 0.25 of 62,500 ticks is C = 0x0003D090. -/
theorem test_duty : dutyCompare 0x3E800000#32 62500 = 0x0003D090 := by decide +kernel

/-- R301: SPARE_IN of a HOLDing arm builds its lane in L6. -/
theorem test_spare_in : after (mk dsRUNNING [(Reg.ARM.STATE 4, asHOLD)])
    (.spareIn 0 5) (fun t => t.dev.get Reg.SPARE.SPARE_STATE == 1) = true := by decide +kernel

/-- R375: a freeze of ARM0 at 400 ms makes IN_WINDOW 2 in the window of the first; one at 1,100 ms opens the next. -/
theorem test_windows :
    let s (n t : Nat) : State := { (mk dsRUNNING [(Reg.FSRC.IN_WINDOW 112, n), (Reg.FSRC.STATUS 112, 1), (Reg.FSRC.CLASS 112, 1)]) with
      dev := { (mk dsRUNNING [(Reg.FSRC.IN_WINDOW 112, n), (Reg.FSRC.STATUS 112, 1), (Reg.FSRC.CLASS 112, 1)]).dev with
        now := 200000000000 + t, damper := { raised := [⟨112, 200000000000 + t, 0, 0, false, none⟩], winEnd := [(112, 210000000000)] } } }
    after (s 1 4000000000) (.damperEvent 0) (fun t => t.dev.get (Reg.FSRC.IN_WINDOW 112) == 2 && t.dev.get (Reg.FSRC.CLASS 112) == 1) = true ∧
    after (s 2 11000000000) (.damperEvent 0) (fun t => t.dev.get (Reg.FSRC.IN_WINDOW 112) == 1) = true := by decide +kernel

end Sys2Proof.Tests
end

section
/-!
PROOFS. A plain write to a field (spec R7, R31, R36, R45, R62): what each of its outcomes leaves.
-/
namespace Sys2Proof.Machine

/-! What stays. -/

theorem KeepsBut.of_regs {d d' : Dev} (ks : List Nat) (h : d'.regs = d.regs) : KeepsBut ks d d' :=
  fun k _ => Dev.get_of_regs h k

theorem keepsBut_set (d : Dev) (k v : Nat) : KeepsBut [k] d (d.set k v) :=
  fun _ hj => Dev.get_set_ne d v (List.ne_of_not_mem_cons hj)

theorem ecKey_of_not_mem {k : Nat} (h : k ∉ countKeys) : ecKey k = false := by
  simp only [countKeys, List.mem_cons, List.mem_append, List.mem_map, List.mem_range, not_or, not_exists, not_and] at h
  obtain ⟨hovf, hcount, hsnap⟩ := h
  simp only [ecKey, Bool.or_eq_false_iff, beq_eq_false_iff_ne, List.any_eq_false, List.mem_range, Bool.or_eq_true,
    beq_iff_eq, not_or]
  exact ⟨hovf, fun n hn => ⟨Ne.symm (hcount n hn), Ne.symm (hsnap n hn)⟩⟩

/-- The engine touches what the acquisition holds, and no sub-entry. -/
theorem Dev.engineSync_rest (d : Dev) : d.engineSync = { d with acq := d.engineSync.acq } := by
  simp only [Dev.engineSync]; split <;> rfl

@[simp] theorem Dev.engineSync_get (d : Dev) (k : Nat) : d.engineSync.get k = d.get k := by rw [Dev.engineSync_rest]; rfl
@[simp] theorem Dev.engineSync_shadow (d : Dev) : d.engineSync.shadow = d.shadow := by rw [Dev.engineSync_rest]

/-! What waits for a strobe (spec R45, R46, R48). -/

theorem Tab.mem_put {α : Type} (t : Tab α) (k : Nat) (v : α) : (k, v) ∈ t.put k v := by
  induction t with
  | nil => exact List.mem_singleton_self _
  | cons e t ih =>
    obtain ⟨j, w⟩ := e
    simp only [Tab.put]
    split
    · exact List.mem_cons_self
    · split
      · exact List.mem_cons_self
      · exact List.mem_cons_of_mem _ ih

theorem testBit_foldl_setBit {α : Type} (f : α → Nat) (l : List α) (v i : Nat) :
    (l.foldl (fun v a => setBit v (f a)) v).testBit i = (v.testBit i || l.any (fun a => decide (i = f a))) := by
  induction l generalizing v with
  | nil => simp
  | cons a l ih => rw [List.foldl_cons, ih, testBit_setBit, List.any_cons, Bool.or_assoc]

/-- The group of a value that waits is pending. -/
theorem Dev.pendingGroups_of_mem {d : Dev} {k v : Nat} (h : (k, v) ∈ d.shadow) :
    d.pendingGroups.testBit (d.groupOf k) = true := by
  rw [Dev.pendingGroups, testBit_foldl_setBit (fun e : Nat × Nat => d.groupOf e.1), Bool.or_eq_true]
  exact .inr (List.any_eq_true.2 ⟨_, h, decide_eq_true rfl⟩)

/-- The structure of the graph belongs to Kiln's domain, whatever the port map says. -/
theorem Dev.domain_of_isStructKey (d : Dev) {k : Nat} (h : isStructKey k = true) : d.domain k = 7 := by
  simp only [isStructKey, Bool.or_eq_true, Bool.and_eq_true, decide_eq_true_eq, beq_iff_eq] at h
  have hport : ¬ (0x2300 ≤ k / 256 ∧ k / 256 ≤ 0x2317) := by omega
  have harm : ¬ (0x2600 ≤ k / 256 ∧ k / 256 ≤ 0x2605) := by omega
  have hlane : ¬ (0x2800 ≤ k / 256 ∧ k / 256 ≤ 0x2805) := by omega
  have hkiln : (0x2900 ≤ k / 256 ∧ k / 256 ≤ 0x29FF) ∨ (0x3000 ≤ k / 256 ∧ k / 256 ≤ 0x3FFF) := by omega
  simp only [Dev.domain, Bool.and_eq_true, Bool.or_eq_true, decide_eq_true_eq, if_neg hport, if_neg harm, if_neg hlane,
    if_pos hkiln]

theorem Dev.groupOf_of_regs {d d' : Dev} (h : d'.regs = d.regs) (k : Nat) : d'.groupOf k = d.groupOf k := by
  have hdom : d'.domain k = d.domain k := by simp only [Dev.domain, Dev.armOfPort, Dev.get_of_regs h]
  rw [Dev.groupOf, hdom, Dev.get_of_regs h]; rfl

/-! The judgement of a write (spec R480). -/

/-- A write that device state, form and lock let through, to what is no write-pulse, is judged as a field's. -/
theorem Dev.write_field {d : Dev} {m : Memory} {idx sub : Nat} {bs : List Byte} {x : Meet} {e : Entry}
    (hf : d.find idx sub false = .inl e) (ht : isTestIdx idx = false) (hw : d.writable (subKey idx sub) = true)
    (ha : e.acc ≠ .wp) : d.write m idx sub bs x = d.writeField (subKey idx sub) e bs x.coincide := by
  have hl := Dev.writable_live hw
  simp only [Dev.write, Dev.serves_of_live hl, Dev.beforeFuses_of_live hl, hf, Dev.writable_state hw, ht,
    Dev.writable_lock hw, beq_eq_false_iff_ne.2 ha, Bool.not_true, Bool.false_eq_true, if_false]

/-- A row that is written or refused as a field is no write-pulse. -/
theorem acc_ne_wp {a : Acc} (h : a ∈ [.ro, .rl, .rc] ∨ a ∈ [.rw, .lk, .ct, .rt]) : a ≠ .wp := by
  rintro rfl; revert h; decide

section
variable {d : Dev} {k : Nat} {e : Entry} {bs : List Byte} {coincide : Bool}

/-- Without reserved bits a read-only row refuses everything, the odd member of a pair with it. -/
theorem Dev.writeField_readOnly (ha : e.acc ∈ [.ro, .rl, .rc]) (hm : rtMask k = 0) :
    d.writeField k e bs coincide = d.ret stREAD_ONLY := by
  simp only [List.mem_cons, List.not_mem_nil, or_false, ← or_assoc] at ha
  simp only [Dev.writeField, Dev.writeReserved, Bool.or_eq_true, beq_iff_eq, if_pos ha, if_pos hm, ite_self]

theorem Dev.writeField_reserved (ha : e.acc ∈ [.ro, .rl, .rc]) (hp : pairKey k = k) (hm : rtMask k ≠ 0) :
    d.writeField k e bs coincide =
      if bs.length ≠ e.size then d.ret stTYPE_LENGTH
      else Dev.ret { d with rt := d.rt.put k (ofLe bs &&& rtMask k) } stOK := by
  simp only [List.mem_cons, List.not_mem_nil, or_false, ← or_assoc] at ha
  simp only [Dev.writeField, Dev.writeReserved, hp, bne_self_eq_false, Bool.false_eq_true, if_false, Bool.or_eq_true,
    beq_iff_eq, if_pos ha, if_neg hm, bne_iff_ne]

/-- Length, value and a coincident update of hardware are judged in this order (spec R30, R31, R36). -/
theorem Dev.writeField_writable (ha : e.acc ∈ [.rw, .lk, .ct, .rt]) (hp : pairKey k = k) :
    d.writeField k e bs coincide =
      if bs.length ≠ e.size then d.ret stTYPE_LENGTH
      else if d.valueOk k e (ofLe bs) = false then d.ret stRANGE
      else if coincide = true ∧ advancedKey k = true then d.ret stSUPERSEDED
      else if d.unitState k ≠ stOK then (d.refusedWrite k).ret (d.unitState k)
      else
        let r := (d.ownWrite k (ofLe bs) coincide).getD (d.plainWrite k e (ofLe bs) coincide)
        if r.status = stOK ∧ (e.acc = .rw ∨ e.acc = .lk) ∧ e.size ≤ 8 then r.cfgRecord k e.size else r := by
  have hro : ¬ ((e.acc = .ro ∨ e.acc = .rl) ∨ e.acc = .rc) := by
    rintro ((h | h) | h) <;> rw [h] at ha <;> revert ha <;> decide
  simp only [Dev.writeField, hp, bne_self_eq_false, Bool.false_eq_true, if_false, Bool.or_eq_true, beq_iff_eq,
    if_neg hro, bne_iff_ne, Bool.not_eq_true', Bool.and_eq_true, decide_eq_true_eq, and_assoc]
  cases d.ownWrite k (ofLe bs) coincide <;> rfl

theorem Dev.plainWrite_status (v : Nat) : (d.plainWrite k e v coincide).status = stOK := by
  simp only [Dev.plainWrite]; split
  · rfl
  · split <;> rfl

/-- A plain field that takes its value is recorded where it is configuration. -/
theorem Dev.writeField_takes (ha : e.acc ∈ [.rw, .lk, .ct, .rt]) (h : d.takes k e bs coincide = true) :
    d.writeField k e bs coincide =
      if (e.acc = .rw ∨ e.acc = .lk) ∧ e.size ≤ 8 then (d.plainWrite k e (ofLe bs) coincide).cfgRecord k e.size
      else d.plainWrite k e (ofLe bs) coincide := by
  simp only [Dev.takes, Bool.and_eq_true, beq_iff_eq, Bool.not_eq_true', Option.isNone_iff_eq_none] at h
  obtain ⟨⟨⟨⟨⟨hp, hlen⟩, hv⟩, hadv⟩, hunit⟩, hown⟩ := h
  have hsup : ¬ (coincide = true ∧ advancedKey k = true) := by
    rw [← Bool.and_eq_true, hadv]; exact Bool.false_ne_true
  simp only [Dev.writeField_writable ha hp, hlen, hv, hunit, hown, if_neg hsup, ne_eq, not_true_eq_false, if_false,
    Bool.true_eq_false, Option.getD_none, Dev.plainWrite_status, true_and]

end

/-! What a plain field's write leaves. -/

/-- While the list of configuration entries has room, a record goes there and nowhere else (spec R404). -/
theorem Dev.cfgRecord_rest {d : Dev} (k size : Nat) (h : d.twin.cfg.length < 1536) :
    d.cfgRecord k size = { d with twin := { d.twin with cfg := (d.cfgRecord k size).twin.cfg } } := by
  simp only [Dev.cfgRecord, if_pos h]; split <;> rfl

section
variable {d : Dev} {k v : Nat} {e : Entry} {coincide : Bool}

theorem Dev.plainWrite_counter (hct : e.acc = .ct) :
    d.plainWrite k e v coincide = (d.set k ((v + b2n coincide) % 2 ^ (8 * e.size))).ret stOK := by
  simp only [Dev.plainWrite, beq_iff_eq, if_pos hct]

theorem Dev.plainWrite_buffered (hct : e.acc ≠ .ct) (hc : e.com = .buf) :
    d.plainWrite k e v coincide =
      { (if isStructKey k then d.set Reg.KILN.CHECK_STATE 0 else d) with shadow := d.shadow.put k v, status := stOK } := by
  simp only [Dev.plainWrite, beq_iff_eq, if_neg hct, if_pos hc]
  split <;> rfl

theorem Dev.plainWrite_immediate (hct : e.acc ≠ .ct) (hc : e.com ≠ .buf) :
    d.plainWrite k e v coincide = (((d.set k v).gatesMoved d).engineSync).ret stOK := by
  simp only [Dev.plainWrite, beq_iff_eq, if_neg hct, if_neg hc]

/-- Beside its sub-entries a plain field's write changes the shadow and, where the trigger engine opens or closes, what the
acquisition holds. -/
theorem Dev.plainWrite_rest :
    d.plainWrite k e v coincide =
      { d with
        regs := (d.plainWrite k e v coincide).regs, shadow := (d.plainWrite k e v coincide).shadow
        acq := (d.plainWrite k e v coincide).acq, status := stOK } := by
  by_cases hct : e.acc = .ct
  · rw [Dev.plainWrite_counter hct]; rfl
  · by_cases hc : e.com = .buf
    · rw [Dev.plainWrite_buffered hct hc]; split <;> rfl
    · have hgates := Dev.gatesMoved_rest (d.set k v) d
      have hengine := Dev.engineSync_rest ((d.set k v).gatesMoved d)
      rw [Dev.plainWrite_immediate hct hc]
      generalize (d.set k v).gatesMoved d = g at hgates hengine ⊢
      generalize g.engineSync = x at hengine ⊢
      rw [hengine, hgates]; rfl

/-- A buffered value waits, and no sub-entry moves but the state of a graph check that structure makes stale (spec R45, R328). -/
theorem Dev.plainWrite_buffered_entries (hct : e.acc ≠ .ct) (hc : e.com = .buf) :
    KeepsBut (if isStructKey k then [Reg.KILN.CHECK_STATE] else []) d (d.plainWrite k e v coincide) := by
  rw [Dev.plainWrite_buffered hct hc]
  split
  · exact keepsBut_set d _ 0
  · exact KeepsBut.of_regs _ rfl

theorem Dev.plainWrite_buffered_groupOf (hct : e.acc ≠ .ct) (hc : e.com = .buf) :
    (d.plainWrite k e v coincide).groupOf k = d.groupOf k := by
  rw [Dev.plainWrite_buffered hct hc]
  split
  case isTrue hs =>
    simp only [Dev.groupOf, Dev.domain_of_isStructKey _ hs]
    exact Dev.get_set_ne d 0 (by decide)
  case isFalse => exact Dev.groupOf_of_regs rfl k

theorem Dev.plainWrite_buffered_acq (hct : e.acc ≠ .ct) (hc : e.com = .buf) :
    (d.plainWrite k e v coincide).acq = d.acq := by
  rw [Dev.plainWrite_buffered hct hc]; split <;> rfl

theorem Dev.plainWrite_immediate_shadow (hct : e.acc ≠ .ct) (hc : e.com ≠ .buf) :
    (d.plainWrite k e v coincide).shadow = d.shadow := by
  rw [Dev.plainWrite_immediate hct hc, Dev.ret_shadow, Dev.engineSync_shadow, Dev.gatesMoved_shadow]; rfl

/-- An immediate value is in force at once; beside it, gates of event counters may move (spec R438). -/
theorem Dev.plainWrite_immediate_get (hct : e.acc ≠ .ct) (hc : e.com ≠ .buf) {j : Nat} (hj : j ∉ countKeys) :
    (d.plainWrite k e v coincide).get j = if j = k then v else d.get j := by
  rw [Dev.plainWrite_immediate hct hc, Dev.ret_get, Dev.engineSync_get, Dev.get_gatesMoved _ _ (ecKey_of_not_mem hj),
    Dev.get_set]

end

section
variable {d : Dev} {k : Nat} {e : Entry} {bs : List Byte} {coincide : Bool}

/-- What a field takes leaves the device as its plain write does, the list of configuration entries left aside. -/
theorem Dev.writeField_takes_rest (ha : e.acc ∈ [.rw, .lk, .ct, .rt]) (ht : d.takes k e bs coincide = true)
    (hroom : d.twin.cfg.length < 1536) :
    d.writeField k e bs coincide =
      { d.plainWrite k e (ofLe bs) coincide with
        twin := { d.twin with cfg := (d.writeField k e bs coincide).twin.cfg } } := by
  have htwin : (d.plainWrite k e (ofLe bs) coincide).twin = d.twin := by rw [Dev.plainWrite_rest]
  rw [Dev.writeField_takes ha ht, ← htwin]
  split
  · exact Dev.cfgRecord_rest k e.size (by rw [htwin]; exact hroom)
  · rfl

end

/-! REGISTER_WRITE to a field. -/

/-- What a field finds of a REGISTER_WRITE that the tests before its own let through: its row is `e`, no part of the test
space, and no device state and no lock keeps the write from its sub-entry `k`. -/
structure FieldOpen (s : State) (dt : Nat) (idx : BitVec 16) (sub : Byte) (e : Entry) (k : Nat) : Prop where
  key : subKey idx.toNat sub.toNat = k
  row : (s.met dt).find idx.toNat sub.toNat false = .inl e
  plain : isTestIdx idx.toNat = false
  writable : (s.met dt).writable k = true

section
variable {s : State} {dt : Nat} {idx : BitVec 16} {sub : Byte} {data : List Byte} {coincide : Bool} {e : Entry} {k : Nat}

theorem exec_registerWrite : exec (.registerWrite dt idx sub data coincide) s =
    s.nextMem dt (fun m d => d.write m idx.toNat sub.toNat data { coincide := coincide }) := rfl

/-- The gate uses of a function what it makes of the device as the command finds it. -/
theorem State.run_eq (f : Memory → Dev → Dev) : s.run dt f = s.run dt (fun _ _ => f s.mem (s.met dt)) := rfl

/-- REGISTER_WRITE completes with what the field's judgement leaves of the device. -/
theorem registerWrite_completes (ho : FieldOpen s dt idx sub e k) (ha : e.acc ≠ .wp) {P : State → Prop} {d' : Dev}
    (hd : (s.met dt).writeField k e data coincide = d') (hp : P (s.run dt (fun _ _ => d'))) :
    Completes (.registerWrite dt idx sub data coincide) s P := by
  obtain ⟨rfl, hrow, hplain, hw⟩ := ho
  have hwrite := (Dev.write_field (m := s.mem) (x := { coincide := coincide }) hrow hplain hw ha).trans hd
  refine completes_nextMem _ s dt _ P exec_registerWrite ?_
  rw [State.run_eq, hwrite]
  exact hp

/-- A refused write answers its status and changes nothing. -/
theorem registerWrite_refused (ho : FieldOpen s dt idx sub e k) (ha : e.acc ≠ .wp) {st : Nat}
    (hd : (s.met dt).writeField k e data coincide = (s.met dt).ret st) :
    Completes (.registerWrite dt idx sub data coincide) s
      (fun t => t.dev.status = st ∧ Framed [] dt s t ∧ t.dev.inner = s.dev.inner) :=
  registerWrite_completes ho ha hd ⟨rfl, s.run_frame dt _ [] rfl (KeepsBut.of_regs _ rfl), rfl⟩

/-- Reserved bits beside read-only fields take what is written (log 78). -/
theorem registerWrite_reserved (ho : FieldOpen s dt idx sub e k) (ha : e.acc ∈ [.ro, .rl, .rc]) (hp : pairKey k = k)
    (hm : rtMask k ≠ 0) (hlen : data.length = e.size) :
    Completes (.registerWrite dt idx sub data coincide) s (fun t =>
      t.dev.status = stOK ∧ t.dev.rt.get k 0 = ofLe data &&& rtMask k ∧ Framed [] dt s t ∧
      t.dev.inner = { s.dev.inner with rt := t.dev.rt } ∧ ∀ j, j ≠ k → t.dev.rt.get j 0 = s.dev.rt.get j 0) := by
  have hd := Dev.writeField_reserved (d := s.met dt) (bs := data) (coincide := coincide) ha hp hm
  rw [if_neg (Decidable.not_not.2 hlen)] at hd
  exact registerWrite_completes ho (acc_ne_wp (.inl ha)) hd
    ⟨rfl, Tab.get_put_self .., s.run_frame dt _ [] rfl (KeepsBut.of_regs _ rfl), rfl, fun _ hj => Tab.get_put_ne _ _ _ hj⟩

/-- A counter stores the value with a coincident increment on top, and is never recorded (spec R36). -/
theorem registerWrite_counter (ho : FieldOpen s dt idx sub e k) (ha : e.acc ∈ [.rw, .lk, .ct, .rt]) (hct : e.acc = .ct)
    (ht : (s.met dt).takes k e data coincide = true) :
    Completes (.registerWrite dt idx sub data coincide) s (fun t =>
      t.dev.status = stOK ∧ t.dev.get k = (ofLe data + b2n coincide) % 2 ^ (8 * e.size) ∧ Framed [k] dt s t ∧
      t.dev.inner = s.dev.inner) := by
  have hnot : ¬ ((e.acc = .rw ∨ e.acc = .lk) ∧ e.size ≤ 8) := by simp [hct]
  have hd := Dev.writeField_takes ha ht
  rw [if_neg hnot, Dev.plainWrite_counter hct] at hd
  exact registerWrite_completes ho (acc_ne_wp (.inr ha)) hd
    ⟨rfl, Dev.get_set_self .., s.run_frame dt _ _ rfl (keepsBut_set _ k _), rfl⟩

/-- A buffered field takes the value into its shadow and keeps the one in force (spec R45). -/
theorem registerWrite_buffered (ho : FieldOpen s dt idx sub e k) (ha : e.acc ∈ [.rw, .lk, .ct, .rt]) (hct : e.acc ≠ .ct)
    (hc : e.com = .buf) (hroom : s.dev.twin.cfg.length < 1536) (ht : (s.met dt).takes k e data coincide = true) :
    Completes (.registerWrite dt idx sub data coincide) s (fun t =>
      t.dev.status = stOK ∧ t.dev.shadow = s.dev.shadow.put k (ofLe data) ∧ t.dev.getShadow k = ofLe data ∧
      t.dev.pendingGroups.testBit (s.dev.groupOf k) = true ∧
      Framed (if isStructKey k then [Reg.KILN.CHECK_STATE] else []) dt s t ∧
      t.dev.inner = { s.dev.inner with shadow := t.dev.shadow, twin := { s.dev.twin with cfg := t.dev.twin.cfg } }) := by
  refine registerWrite_completes ho (acc_ne_wp (.inr ha)) (Dev.writeField_takes_rest ha ht hroom) ?_
  generalize ((s.met dt).writeField k e data coincide).twin.cfg = cfg
  have hplain := Dev.plainWrite_rest (d := s.met dt) (k := k) (v := ofLe data) (e := e) (coincide := coincide)
  have hshadow : ((s.met dt).plainWrite k e (ofLe data) coincide).shadow = s.dev.shadow.put k (ofLe data) := by
    rw [Dev.plainWrite_buffered hct hc]; rfl
  have hacq := Dev.plainWrite_buffered_acq (d := s.met dt) (k := k) (v := ofLe data) (coincide := coincide) hct hc
  have hgroup := Dev.plainWrite_buffered_groupOf (d := s.met dt) (k := k) (v := ofLe data) (coincide := coincide) hct hc
  have hkeeps := Dev.plainWrite_buffered_entries (d := s.met dt) (k := k) (v := ofLe data) (coincide := coincide) hct hc
  generalize (s.met dt).plainWrite k e (ofLe data) coincide = p at hplain hshadow hacq hgroup hkeeps ⊢
  have hmem : (k, ofLe data) ∈ p.shadow := hshadow ▸ Tab.mem_put ..
  rw [hacq] at hplain
  refine ⟨congrArg Dev.status hplain, hshadow, ?_, ?_, s.run_frame dt _ _ (congrArg Dev.memQ hplain) hkeeps,
    congrArg (fun x : Dev => { x.inner with twin := { s.dev.twin with cfg := cfg } }) hplain⟩
  · show (Tab.find p.shadow k).getD _ = _
    rw [hshadow, Tab.find_put_self, Option.getD_some]
  · have hafter : (s.run dt (fun _ _ => { p with twin := { s.dev.twin with cfg := cfg } })).dev.groupOf k = s.dev.groupOf k :=
      (Dev.groupOf_of_regs (d := p) rfl k).trans (hgroup.trans (Dev.groupOf_of_regs (d := s.dev) rfl k))
    exact hafter ▸ Dev.pendingGroups_of_mem hmem

/-- An immediate field has the value at once (spec R7). -/
theorem registerWrite_immediate (ho : FieldOpen s dt idx sub e k) (ha : e.acc ∈ [.rw, .lk, .ct, .rt]) (hct : e.acc ≠ .ct)
    (hc : e.com ≠ .buf) (hroom : s.dev.twin.cfg.length < 1536) (ht : (s.met dt).takes k e data coincide = true) :
    Completes (.registerWrite dt idx sub data coincide) s (fun t =>
      t.dev.status = stOK ∧ (k ∉ countKeys → t.dev.get k = ofLe data) ∧ Framed (k :: countKeys) dt s t ∧
      t.dev.inner = { s.dev.inner with acq := t.dev.acq, twin := { s.dev.twin with cfg := t.dev.twin.cfg } }) := by
  refine registerWrite_completes ho (acc_ne_wp (.inr ha)) (Dev.writeField_takes_rest ha ht hroom) ?_
  generalize ((s.met dt).writeField k e data coincide).twin.cfg = cfg
  have hplain := Dev.plainWrite_rest (d := s.met dt) (k := k) (v := ofLe data) (e := e) (coincide := coincide)
  have hshadow := Dev.plainWrite_immediate_shadow (d := s.met dt) (k := k) (v := ofLe data) (coincide := coincide) hct hc
  have hget := @Dev.plainWrite_immediate_get (s.met dt) k (ofLe data) e coincide hct hc
  generalize (s.met dt).plainWrite k e (ofLe data) coincide = p at hplain hshadow hget ⊢
  rw [hshadow] at hplain
  have hkeeps : KeepsBut (k :: countKeys) (s.met dt) p := fun j hj => by
    obtain ⟨hk, hcount⟩ := List.ne_and_not_mem_of_not_mem_cons hj
    rw [hget hcount, if_neg hk]
  exact ⟨congrArg Dev.status hplain, fun hk => (hget hk).trans (if_pos rfl),
    s.run_frame dt _ _ (congrArg Dev.memQ hplain) hkeeps,
    congrArg (fun x : Dev => { x.inner with twin := { s.dev.twin with cfg := cfg } }) hplain⟩

end

/-- Settles O10: each clause is one outcome of the judgement of a field, in the order in which a field judges. -/
theorem fieldWritesByAccessType : Obligations.FieldWritesByAccessType := by
  unfold Obligations.FieldWritesByAccessType
  intro s dt idx sub data coincide e d k cmd refused hrow hplain hw hroom
  have ho : FieldOpen s dt idx sub e k := ⟨rfl, hrow, hplain, hw⟩
  refine ⟨fun ha hm => ?_, fun ha hm hp => ⟨fun hlen => ?_, fun hlen => ?_⟩,
    fun ha hp => ⟨fun hlen => ?_, fun hlen hv => ?_, fun hlen hv hco hadv => ?_,
      fun ht => ⟨fun hct => ?_, fun hct hc => ?_, fun hct hc => ?_⟩⟩⟩
  · exact registerWrite_refused ho (acc_ne_wp (.inl ha)) (Dev.writeField_readOnly ha hm)
  · exact registerWrite_refused ho (acc_ne_wp (.inl ha)) ((Dev.writeField_reserved ha hp hm).trans (if_pos hlen))
  · exact registerWrite_reserved ho ha hp hm hlen
  · exact registerWrite_refused ho (acc_ne_wp (.inr ha)) ((Dev.writeField_writable ha hp).trans (if_pos hlen))
  · refine registerWrite_refused ho (acc_ne_wp (.inr ha)) ((Dev.writeField_writable ha hp).trans ?_)
    rw [if_neg (Decidable.not_not.2 hlen), if_pos hv]
  · refine registerWrite_refused ho (acc_ne_wp (.inr ha)) ((Dev.writeField_writable ha hp).trans ?_)
    rw [if_neg (Decidable.not_not.2 hlen), if_neg (Bool.not_eq_false _ ▸ hv), if_pos ⟨hco, hadv⟩]
  · exact registerWrite_counter ho ha hct ht
  · exact registerWrite_buffered ho ha hct hc hroom ht
  · exact registerWrite_immediate ho ha hct hc hroom ht

end Sys2Proof.Machine
end
